-- ==== Sys2Proof/Word.lean ====
section
/-! DEFINITION. The words the manual treats as bits, each under its own name (00_scope section 4, 12_formats 12.1). -/

namespace Sys2Proof

/-- A byte of a management frame or of a cartridge frame. -/
abbrev Byte := BitVec 8

/-- A beat, the 32-byte data unit of the page link. Byte `i` stands at bits `8i` to `8i + 7` (12.1). -/
abbrev Beat := BitVec 256

/-- A cipher unit of 16 bytes. A beat holds two (R49). -/
abbrev CipherUnit := BitVec 128

/-- A system or memory address of 36 bits. -/
abbrev Addr := BitVec 36

/-- A system-port transaction identifier, 0 to 63. -/
abbrev Tid := BitVec 6

/-- A memory-port transaction identifier, 0 to 31. -/
abbrev MemTid := Fin 32

/-- A job tag, 0 to 255. -/
abbrev JobTag := BitVec 8

/-- The serial number of a cartridge or of the device. -/
abbrev Serial := BitVec 64

/-- A window index, 0 to 15. -/
abbrev WindowIdx := Fin 16

/-- A cartridge slot or a plane colour: 0 cyan, 1 magenta, 2 yellow, 3 black. -/
abbrev Colour := Fin 4

/-- A scrub channel: 0 is A, 1 is B. -/
abbrev ChannelId := Fin 2

/-- A reference to one key drawn by the random key generator: the number of the draw (R36, R38).
Two keys drawn at different times are different references, whatever their values. -/
abbrev KeyRef := Nat

end Sys2Proof
end

