-- ==== Sys2Proof/Config.lean ====
section
/-! DEFINITION. What the part fixes: capacities, and the free values, which are constants without a body. -/

namespace Sys2Proof.Config

/-- Entries of the posted-write queue (R47). -/
def pwqCapacity : Nat := 16

/-- Entries of the read tracker (R64). -/
def trackerCapacity : Nat := 16

/-- Places of the flush list (R59). -/
def flushCapacity : Nat := 4

/-- Notices the queue holds (R196). -/
def noticeCapacity : Nat := 32

/-- Entries of the carry list (R170). -/
def carryCapacity : Nat := 8

/-- The largest value of a 32-bit saturating counter (R128, R129, R161). -/
def counterMax : Nat := 4294967295

/-- The value at which used units saturate (R127). -/
def usedMax : Nat := 2147483647

/-- The value at which the pages-since-commit count saturates (R132). -/
def sinceMax : Nat := 1024

/-- The inputs of the proof function: over a nonce for a PROVE (R149), over a DEBIT request (R165) and over
a DEBIT reply (R165). -/
inductive ProofInput where
  | prove (nonce : BitVec 128) (serial : Serial) (remaining : BitVec 32) (sequence : BitVec 32)
  | debitRequest (amount : BitVec 32) (sequence : BitVec 32) (serial : Serial)
  | debitReply (status : Byte) (remaining : BitVec 32) (sequence : BitVec 32) (serial : Serial) (amount : BitVec 32)
deriving DecidableEq, Repr

/-- FREE VALUE (log 8). The 256-bit value of a key (R38). `none` is the content of an empty slot, which no rule
lets the cipher read. -/
opaque keyValue : Option KeyRef → BitVec 256

/-- FREE VALUE (log 9). The line cipher under a key and a tweak: a one-to-one map of the unit values onto
themselves (R44). Decryption is its inverse. -/
opaque lineCipher : BitVec 256 → Nat → Equiv.Perm CipherUnit

/-- FREE VALUE (log 9). The cartridge key derived from the master key and a cartridge's serial (R149). -/
opaque deriveKey : BitVec 256 → Serial → BitVec 256

/-- FREE VALUE (log 9). The proof function under a cartridge key (R149, R165). -/
opaque proofTag : BitVec 256 → ProofInput → BitVec 64

/-- FREE VALUE (log 8). The nonce given by the generator at a draw (R38, R148). -/
opaque randomNonce : Nat → BitVec 128

/-- FREE VALUE (log 8). Beat `j` of the 256 bytes given by the generator at a draw for a RANDOM erase write (R180). -/
opaque randomBeat : Nat → Nat → Beat

/-- FREE VALUE (log 21). What stands, under clear mask bits, in the place of an empty unit of an encrypted write,
by its window offset (R49 keeps it only as a clear mask). -/
opaque unusedUnit : Nat → CipherUnit

end Sys2Proof.Config
end

