-- ==== Sys2Proof/Syntax.lean ====
section
/-! DEFINITION. The commands of the part: one constructor of `Instr` per row of spec/opcode_table.json, with the
operands each row carries. -/

namespace Sys2Proof

/-- A page-link request as it reaches the system port (12.1). `kind` is the kind field as received: 0 READ, 1 WRITE,
2 FLUSH, 3 invalid. -/
structure PageRequest where
  kind : BitVec 2
  source : BitVec 3
  tid : Tid
  jobTag : JobTag
  addr : Addr
  addrParity : BitVec 5
  length : BitVec 4
deriving DecidableEq, Repr

/-- One beat of write data as received, with its byte mask and its parity bits (12.1). -/
structure WriteBeat where
  data : Beat
  mask : BitVec 32
  parity : BitVec 4
deriving DecidableEq, Repr

/-- One beat of memory read data with its parity bits (R14). -/
structure MemBeat where
  data : Beat
  parity : BitVec 4
deriving DecidableEq, Repr

/-- How a command frame was clocked (R194, R195): the parameter length byte, how many bytes were clocked before chip
select was deasserted, code and length byte among them, and whether the frame began while the previous command was
still being judged. -/
structure Frame where
  announced : Byte
  bytes : Nat
  early : Bool
deriving DecidableEq, Repr

/-- The six mode bytes of WINDOW_OPEN and WINDOW_POLICY, in source-code order (R207). -/
structure ModeBytes where
  cpu : Byte
  scan : Byte
  print : Byte
  image : Byte
  net : Byte
  service : Byte
deriving DecidableEq, Repr

/-- The parameters of WINDOW_OPEN (R26, R207). -/
structure WindowOpenArgs where
  kind : Byte
  sysBase : BitVec 40
  memBase : BitVec 40
  sizeCode : Byte
  owner : JobTag
  modes : ModeBytes
  stride : BitVec 32
  scanAccount : Byte
deriving DecidableEq, Repr

/-- The parameters of PAGE_OPEN (R85, R207). -/
structure PageOpenArgs where
  account : Byte
  window : Byte
  planeCount : Byte
  offsetC : BitVec 32
  offsetM : BitVec 32
  offsetY : BitVec 32
  offsetK : BitVec 32
  bytesPerLine : BitVec 16
  lines : BitVec 16
deriving DecidableEq, Repr

/-- What the nonvolatile store does with a write of PROVISION, LOCK or CONFIG_STORE (R39, R40, R201). -/
inductive StoreOutcome where
  | verified
  | writeError
  | notVerified
deriving DecidableEq, Repr

/-- The commands and events of the part, in the order of spec/opcode_table.json. -/
inductive Instr where
  | read (r : PageRequest)
  | write (r : PageRequest) (beats : Vector WriteBeat 8)
  | flush (r : PageRequest)
  | memoryGrant
  | memoryResponse (tid : MemTid) (error : Bool) (beats : Vector MemBeat 8)
  | memoryTimeout (tid : MemTid)
  | tidQuarantineEnd (tid : MemTid)
  | heldReadRelease (age : Nat)
  | flushComplete (id : Nat)
  | beatDelivery (age : Nat)
  | discardTimerExpiry (line : Fin 8)
  | windowOpen (f : Frame) (a : WindowOpenArgs)
  | windowPolicy (f : Frame) (index : Byte) (owner : JobTag) (modes : ModeBytes)
  | windowSeal (f : Frame) (index : Byte)
  | windowRetire (f : Frame) (index count pass1 pass2 pass3 : Byte)
  | windowRekey (f : Frame) (index : Byte)
  | windowQuery (f : Frame) (index : Byte)
  | windowDrainEnd (index : WindowIdx)
  | pageOpen (f : Frame) (a : PageOpenArgs)
  | pageCancel (f : Frame) (number : BitVec 32)
  | pageQuery (f : Frame) (number : BitVec 32)
  | accountCreate (f : Frame) (id limit : BitVec 32)
  | accountSetLimit (f : Frame) (slot : Byte) (limit : BitVec 32)
  | accountResetUsage (f : Frame) (slot : Byte)
  | accountClearCounters (f : Frame) (slot : Byte)
  | accountSuspend (f : Frame) (slot : Byte)
  | accountResume (f : Frame) (slot : Byte)
  | accountDelete (f : Frame) (slot : Byte)
  | accountRead (f : Frame) (slot : Byte)
  | meterRead (f : Frame) (selector : Byte)
  | commit (f : Frame)
  | commitEnd (verified : Bool)
  | commitTimeout
  | presenceAssert (slot : Colour)
  | presenceDeassert (slot : Colour)
  | settlingExpiry (slot : Colour)
  | cartRequestSent (slot : Colour)
  | cartRequestRefused (slot : Colour)
  | replyWindowExpiry (slot : Colour)
  | attemptGapExpiry (slot : Colour)
  | helloReply (slot : Colour) (bytes : List Byte)
  | proveReply (slot : Colour) (bytes : List Byte)
  | debitReply (slot : Colour) (bytes : List Byte)
  | cartQuery (f : Frame) (slot : Byte)
  | cartReprobe (f : Frame) (selector : Byte)
  | scrubJobAssign (first : ChannelId)
  | chunkLock (channel : ChannelId)
  | scrubSuspend (f : Frame) (channel : Byte)
  | scrubResume (f : Frame) (channel : Byte)
  | scrubAbandon (f : Frame) (channel : Byte)
  | scrubQuery (f : Frame)
  | configRead (f : Frame) (selector : Byte)
  | configWrite (f : Frame) (number : Byte) (value : BitVec 32)
  | configStore (f : Frame) (outcome : StoreOutcome)
  | noticeRead (f : Frame)
  | errorRead (f : Frame)
  | sleep (f : Frame)
  | reset (f : Frame)
  | ident (f : Frame)
  | provision (f : Frame) (masterKey : BitVec 256) (serial : Serial) (outcome : StoreOutcome)
  | lock (f : Frame) (outcome : StoreOutcome)
  | unknownCommand (f : Frame) (code : Byte)
  | pfailAssert
  | pfailDeassert
  | linkReset
  | resetWindowsFreed
  | linkrstDeassert
  | resetComplete
  | powerOn
  | sleepEntered
  | wakeEnd (resetFirst : Bool)
  | powerLoss
deriving DecidableEq, Repr

end Sys2Proof
end

