-- ==== Sys2Proof/Decode.lean ====
section
/-! DEFINITION. The decoder. The table of commands gives no bits for any row, so `decodeTableWord` reads none. The
frames of the management port do have a layout (R194, R195, R207, 12.2): their decoder and encoder stand here. -/

namespace Sys2Proof

/-- The `n` bytes of a number, least significant first (12_formats, opening paragraph). -/
def leBytes : Nat → Nat → List Byte
  | 0, _ => []
  | n + 1, x => BitVec.ofNat 8 x :: leBytes n (x / 256)

/-- The number that bytes hold, least significant first. -/
def ofLe : List Byte → Nat
  | [] => 0
  | b :: bs => b.toNat + 256 * ofLe bs

/-- The field of `n` bytes that starts at byte `at` of the parameters, missing bytes read as 0 (such a frame is
truncated and its command is not carried out, R195). -/
def fieldAt (ps : List Byte) (start n : Nat) : Nat := ofLe ((ps.drop start).take n)

/-- The table of command codes with their fixed parameter lengths (12.2); `none` for a code that names no command. -/
def commandLength (code : Nat) : Option Nat :=
  match code with
  | 0x10 => some 24
  | 0x11 => some 8
  | 0x12 => some 1
  | 0x13 => some 5
  | 0x14 => some 1
  | 0x15 => some 1
  | 0x20 => some 23
  | 0x21 => some 4
  | 0x22 => some 4
  | 0x30 => some 8
  | 0x31 => some 5
  | 0x32 => some 1
  | 0x33 => some 1
  | 0x34 => some 1
  | 0x35 => some 1
  | 0x36 => some 1
  | 0x37 => some 1
  | 0x38 => some 1
  | 0x39 => some 0
  | 0x40 => some 1
  | 0x41 => some 1
  | 0x50 => some 0
  | 0x51 => some 1
  | 0x52 => some 1
  | 0x53 => some 1
  | 0x60 => some 1
  | 0x61 => some 5
  | 0x62 => some 0
  | 0x70 => some 0
  | 0x71 => some 0
  | 0x78 => some 0
  | 0x79 => some 0
  | 0x7A => some 0
  | 0x7E => some 40
  | 0x7F => some 0
  | _ => none

/-- The code of a management command (12.2); `none` for every other command of the table. -/
def commandCode (i : Instr) : Option Nat :=
  match i with
  | .windowOpen _ _ => some 0x10
  | .windowPolicy _ _ _ _ => some 0x11
  | .windowSeal _ _ => some 0x12
  | .windowRetire _ _ _ _ _ _ => some 0x13
  | .windowRekey _ _ => some 0x14
  | .windowQuery _ _ => some 0x15
  | .pageOpen _ _ => some 0x20
  | .pageCancel _ _ => some 0x21
  | .pageQuery _ _ => some 0x22
  | .accountCreate _ _ _ => some 0x30
  | .accountSetLimit _ _ _ => some 0x31
  | .accountResetUsage _ _ => some 0x32
  | .accountClearCounters _ _ => some 0x33
  | .accountSuspend _ _ => some 0x34
  | .accountResume _ _ => some 0x35
  | .accountDelete _ _ => some 0x36
  | .accountRead _ _ => some 0x37
  | .meterRead _ _ => some 0x38
  | .commit _ => some 0x39
  | .cartQuery _ _ => some 0x40
  | .cartReprobe _ _ => some 0x41
  | .scrubQuery _ => some 0x50
  | .scrubSuspend _ _ => some 0x51
  | .scrubResume _ _ => some 0x52
  | .scrubAbandon _ _ => some 0x53
  | .configRead _ _ => some 0x60
  | .configWrite _ _ _ => some 0x61
  | .configStore _ _ => some 0x62
  | .noticeRead _ => some 0x70
  | .errorRead _ => some 0x71
  | .sleep _ => some 0x78
  | .reset _ => some 0x79
  | .ident _ => some 0x7A
  | .provision _ _ _ _ => some 0x7E
  | .lock _ _ => some 0x7F
  | _ => none

/-- The frame of a management command, UNKNOWN_COMMAND's among them; `none` for every other command of the table. -/
def frameOf (i : Instr) : Option Frame :=
  match i with
  | .windowOpen f _ | .windowPolicy f _ _ _ | .windowSeal f _ | .windowRetire f _ _ _ _ _ | .windowRekey f _
  | .windowQuery f _ | .pageOpen f _ | .pageCancel f _ | .pageQuery f _ | .accountCreate f _ _
  | .accountSetLimit f _ _ | .accountResetUsage f _ | .accountClearCounters f _ | .accountSuspend f _
  | .accountResume f _ | .accountDelete f _ | .accountRead f _ | .meterRead f _ | .commit f | .cartQuery f _
  | .cartReprobe f _ | .scrubSuspend f _ | .scrubResume f _ | .scrubAbandon f _ | .scrubQuery f | .configRead f _
  | .configWrite f _ _ | .configStore f _ | .noticeRead f | .errorRead f | .sleep f | .reset f | .ident f
  | .provision f _ _ _ | .lock f _ | .unknownCommand f _ => some f
  | .read _ | .write _ _ | .flush _ | .memoryGrant | .memoryResponse _ _ _ | .memoryTimeout _ | .tidQuarantineEnd _
  | .heldReadRelease _ | .flushComplete _ | .beatDelivery _ | .discardTimerExpiry _ | .windowDrainEnd _ | .commitEnd _
  | .commitTimeout | .presenceAssert _ | .presenceDeassert _ | .settlingExpiry _ | .cartRequestSent _
  | .cartRequestRefused _ | .replyWindowExpiry _ | .attemptGapExpiry _ | .helloReply _ _ | .proveReply _ _
  | .debitReply _ _ | .scrubJobAssign _ | .chunkLock _ | .pfailAssert | .pfailDeassert | .linkReset
  | .resetWindowsFreed | .linkrstDeassert | .resetComplete | .powerOn | .sleepEntered | .wakeEnd _ | .powerLoss => none

/-- The mode bytes at a place of the parameters, in source-code order (R207). -/
def modesAt (ps : List Byte) (start : Nat) : ModeBytes :=
  { cpu := .ofNat 8 (fieldAt ps start 1)
    scan := .ofNat 8 (fieldAt ps (start + 1) 1)
    print := .ofNat 8 (fieldAt ps (start + 2) 1)
    image := .ofNat 8 (fieldAt ps (start + 3) 1)
    net := .ofNat 8 (fieldAt ps (start + 4) 1)
    service := .ofNat 8 (fieldAt ps (start + 5) 1) }

/-- The parameters of WINDOW_OPEN in a frame (R207). -/
def windowOpenArgsOf (ps : List Byte) : WindowOpenArgs :=
  { kind := .ofNat 8 (fieldAt ps 0 1)
    sysBase := .ofNat 40 (fieldAt ps 1 5)
    memBase := .ofNat 40 (fieldAt ps 6 5)
    sizeCode := .ofNat 8 (fieldAt ps 11 1)
    owner := .ofNat 8 (fieldAt ps 12 1)
    modes := modesAt ps 13
    stride := .ofNat 32 (fieldAt ps 19 4)
    scanAccount := .ofNat 8 (fieldAt ps 23 1) }

/-- The parameters of PAGE_OPEN in a frame (R207). -/
def pageOpenArgsOf (ps : List Byte) : PageOpenArgs :=
  { account := .ofNat 8 (fieldAt ps 0 1)
    window := .ofNat 8 (fieldAt ps 1 1)
    planeCount := .ofNat 8 (fieldAt ps 2 1)
    offsetC := .ofNat 32 (fieldAt ps 3 4)
    offsetM := .ofNat 32 (fieldAt ps 7 4)
    offsetY := .ofNat 32 (fieldAt ps 11 4)
    offsetK := .ofNat 32 (fieldAt ps 15 4)
    bytesPerLine := .ofNat 16 (fieldAt ps 19 2)
    lines := .ofNat 16 (fieldAt ps 21 2) }

/-- The command that a code names, with its parameters read by the layouts of R207. `o` is what the nonvolatile
store will do, which no frame says. -/
def commandOf (code : Nat) (f : Frame) (o : StoreOutcome) (ps : List Byte) : Instr :=
  let b := fun i => BitVec.ofNat 8 (fieldAt ps i 1)
  match code with
  | 0x10 => .windowOpen f (windowOpenArgsOf ps)
  | 0x11 => .windowPolicy f (b 0) (b 1) (modesAt ps 2)
  | 0x12 => .windowSeal f (b 0)
  | 0x13 => .windowRetire f (b 0) (b 1) (b 2) (b 3) (b 4)
  | 0x14 => .windowRekey f (b 0)
  | 0x15 => .windowQuery f (b 0)
  | 0x20 => .pageOpen f (pageOpenArgsOf ps)
  | 0x21 => .pageCancel f (.ofNat 32 (fieldAt ps 0 4))
  | 0x22 => .pageQuery f (.ofNat 32 (fieldAt ps 0 4))
  | 0x30 => .accountCreate f (.ofNat 32 (fieldAt ps 0 4)) (.ofNat 32 (fieldAt ps 4 4))
  | 0x31 => .accountSetLimit f (b 0) (.ofNat 32 (fieldAt ps 1 4))
  | 0x32 => .accountResetUsage f (b 0)
  | 0x33 => .accountClearCounters f (b 0)
  | 0x34 => .accountSuspend f (b 0)
  | 0x35 => .accountResume f (b 0)
  | 0x36 => .accountDelete f (b 0)
  | 0x37 => .accountRead f (b 0)
  | 0x38 => .meterRead f (b 0)
  | 0x39 => .commit f
  | 0x40 => .cartQuery f (b 0)
  | 0x41 => .cartReprobe f (b 0)
  | 0x50 => .scrubQuery f
  | 0x51 => .scrubSuspend f (b 0)
  | 0x52 => .scrubResume f (b 0)
  | 0x53 => .scrubAbandon f (b 0)
  | 0x60 => .configRead f (b 0)
  | 0x61 => .configWrite f (b 0) (.ofNat 32 (fieldAt ps 1 4))
  | 0x62 => .configStore f o
  | 0x70 => .noticeRead f
  | 0x71 => .errorRead f
  | 0x78 => .sleep f
  | 0x79 => .reset f
  | 0x7A => .ident f
  | 0x7E => .provision f (.ofNat 256 (fieldAt ps 0 32)) (.ofNat 64 (fieldAt ps 32 8)) o
  | 0x7F => .lock f o
  | c => .unknownCommand f (.ofNat 8 c)

/-- The command a management frame carries (R194, R195). An empty frame, one of code 0 or of fewer than 2 bytes,
carries none; the row UNKNOWN_COMMAND stands for it, with code 0 (log 10). -/
def decodeFrame (early : Bool) (o : StoreOutcome) (bytes : List Byte) : Instr :=
  match bytes with
  | code :: len :: ps => commandOf code.toNat ⟨len, bytes.length, early⟩ o ps
  | _ => .unknownCommand ⟨0, bytes.length, early⟩ 0

/-- The bytes of six modes. -/
def modeParams (m : ModeBytes) : List Byte := [m.cpu, m.scan, m.print, m.image, m.net, m.service]

/-- The parameter bytes of a management command (R207); `none` for every other command of the table. -/
def commandParams (i : Instr) : Option (List Byte) :=
  match i with
  | .windowOpen _ a =>
    some (a.kind :: leBytes 5 a.sysBase.toNat ++ leBytes 5 a.memBase.toNat ++ [a.sizeCode, a.owner]
      ++ modeParams a.modes ++ leBytes 4 a.stride.toNat ++ [a.scanAccount])
  | .windowPolicy _ i o m => some (i :: o :: modeParams m)
  | .windowSeal _ i => some [i]
  | .windowRetire _ i n p q r => some [i, n, p, q, r]
  | .windowRekey _ i => some [i]
  | .windowQuery _ i => some [i]
  | .pageOpen _ a =>
    some ([a.account, a.window, a.planeCount] ++ leBytes 4 a.offsetC.toNat ++ leBytes 4 a.offsetM.toNat
      ++ leBytes 4 a.offsetY.toNat ++ leBytes 4 a.offsetK.toNat ++ leBytes 2 a.bytesPerLine.toNat ++ leBytes 2 a.lines.toNat)
  | .pageCancel _ n => some (leBytes 4 n.toNat)
  | .pageQuery _ n => some (leBytes 4 n.toNat)
  | .accountCreate _ i l => some (leBytes 4 i.toNat ++ leBytes 4 l.toNat)
  | .accountSetLimit _ a l => some (a :: leBytes 4 l.toNat)
  | .accountResetUsage _ a => some [a]
  | .accountClearCounters _ a => some [a]
  | .accountSuspend _ a => some [a]
  | .accountResume _ a => some [a]
  | .accountDelete _ a => some [a]
  | .accountRead _ a => some [a]
  | .meterRead _ x => some [x]
  | .commit _ => some []
  | .cartQuery _ x => some [x]
  | .cartReprobe _ x => some [x]
  | .scrubQuery _ => some []
  | .scrubSuspend _ c => some [c]
  | .scrubResume _ c => some [c]
  | .scrubAbandon _ c => some [c]
  | .configRead _ x => some [x]
  | .configWrite _ n v => some (n :: leBytes 4 v.toNat)
  | .configStore _ _ => some []
  | .noticeRead _ => some []
  | .errorRead _ => some []
  | .sleep _ => some []
  | .reset _ => some []
  | .ident _ => some []
  | .provision _ k n _ => some (leBytes 32 k.toNat ++ leBytes 8 n.toNat)
  | .lock _ _ => some []
  | _ => none

/-- The whole frame of a management command: code, parameter length and parameters (12.2). -/
def encodeFrame (i : Instr) : Option (List Byte) :=
  match commandCode i, commandParams i with
  | some c, some ps => some (BitVec.ofNat 8 c :: BitVec.ofNat 8 ps.length :: ps)
  | _, _ => none

/-- The command a word of the table's bits spells. No row of the table has bits. -/
def decodeTableWord (_nbits _w : Nat) : Option Instr := none

end Sys2Proof
end

