-- ==== Sys2Proof/WellFormed.lean ====
section
/-! DEFINITION. The checks on a command's operands that the row itself fixes. Everything else an operand can hold is
judged by the part. -/

namespace Sys2Proof

/-- The kind field of a request belongs to its row: the row's own code, or 3, the invalid code, which any of the
three rows may carry (R1, log 11). -/
def kindBelongs (own : BitVec 2) (r : PageRequest) : Bool := r.kind == own || r.kind == 3

/-- A frame with a code and a length byte: one of fewer than 2 bytes carries no command (R195, log 10). -/
def carriesCode (f : Frame) : Bool := decide (2 ≤ f.bytes)

/-- Is the command a term of its row? A request's kind field is the row's; the frame of a management command has its
code and its length byte; and UNKNOWN_COMMAND carries a code that names no command, or, in an empty frame, code 0
(R195). -/
def wellFormed (i : Instr) : Bool :=
  match i with
  | .read r => kindBelongs 0 r
  | .write r _ => kindBelongs 1 r
  | .flush r => kindBelongs 2 r
  | .unknownCommand f code => (commandLength code.toNat).isNone && (code == 0 || carriesCode f)
  | i => (frameOf i).all carriesCode

end Sys2Proof
end

