-- ==== Sys2Proof/Machine/State.lean ====
section
/-! DEFINITION. The state of the part: every piece of state the spec names, as plain data, block by block, and the
state after reset. Tables of a fixed number of entries are vectors; queues and lists are lists, oldest first. -/

namespace Sys2Proof.Machine

/-! ## The page link -/

/-- The six source classes, in the order of their codes (12.1). -/
inductive Source where
  | cpu | scan | print | image | net | service
deriving DecidableEq, Repr

/-- The request kinds (R1). -/
inductive ReqKind where
  | read | write | flush
deriving DecidableEq, Repr

/-- The four statuses of a system-port response (R7). -/
inductive SysStatus where
  | okay | retry | denied | fault
deriving DecidableEq, Repr

/-! ## Windows and keys -/

/-- What traffic a window serves (R18). -/
inductive WindowKind where
  | scan | print | work
deriving DecidableEq, Repr

/-- How far a retirement has gone (R16, R17). -/
inductive Phase where
  | draining | erasing
deriving DecidableEq, Repr

/-- The life state of a window (R17). -/
inductive WindowState where
  | free
  | opened
  | sealed
  | retiring (phase : Phase)
deriving DecidableEq, Repr

/-- The access mode a source class holds in a window (R23); `noAccess` is NONE. -/
inductive Mode where
  | noAccess | cipher | read | readWrite
deriving DecidableEq, Repr

/-- One access mode for each source class (R16). -/
structure Modes where
  cpu : Mode := .noAccess
  scan : Mode := .noAccess
  print : Mode := .noAccess
  image : Mode := .noAccess
  net : Mode := .noAccess
  service : Mode := .noAccess
deriving DecidableEq, Repr

/-- The pattern of an erase pass (R30, R180). -/
inductive Pattern where
  | zero | ones | random
deriving DecidableEq, Repr

/-- An entry of the window table (R16). The erase pass list is the one recorded at the retire (R31). The cursor is
that of the key reference (R45); it has a meaning while a spare slot holds a key of the window. -/
structure Window where
  state : WindowState := .free
  kind : WindowKind := .scan
  sysBase : Addr := 0
  memBase : Addr := 0
  sizeCode : Fin 20 := 0
  owner : JobTag := 0
  modes : Modes := {}
  stride : Nat := 0
  slotCount : Nat := 0
  scanAccount : Fin 128 := 0
  counted : BitVec 64 := 0
  livePages : Nat := 0
  generation : BitVec 16 := 0
  passes : List Pattern := []
  cursor : Nat := 0
deriving DecidableEq, Repr

/-- A window named with the opening of its index that is meant (R20). -/
structure WindowRef where
  index : WindowIdx
  generation : BitVec 16
deriving DecidableEq, Repr

/-- The condition of a spare key slot (R37). -/
inductive Spare where
  | free
  | reserved (window : WindowIdx)
  | holding (window : WindowIdx) (key : KeyRef)
deriving DecidableEq, Repr

/-- The key store's volatile part (R36, R37). -/
structure KeyStore where
  slots : Vector (Option KeyRef) 16 := Vector.replicate 16 none
  spares : Vector Spare 2 := Vector.replicate 2 .free
deriving DecidableEq, Repr

/-! ## The posted-write queue, the read tracker and the flush list -/

/-- How the data of a posted write was treated at acceptance (R47, R48). -/
inductive WriteAccess where
  | encrypt | raw | pass
deriving DecidableEq, Repr

/-- How the data of a read is given (R64). -/
inductive ReadAccess where
  | decrypt | raw | pass
deriving DecidableEq, Repr

/-- A beat held in a posted write: data and byte mask (R47). -/
structure QueuedBeat where
  data : Beat
  mask : BitVec 32
deriving DecidableEq, Repr

/-- The progress of a posted write (R51). -/
inductive PwqState where
  | queued | rmwRead | merged | writing
deriving DecidableEq, Repr

/-- An entry of the posted-write queue (R47). `id` numbers the entry; `offset` is the window offset of its first
beat (R19); `units` lists its partial units by window offset; `marks` names the flushes that cover it. -/
structure PwqEntry where
  id : Nat
  source : Source
  tid : Tid
  jobTag : JobTag
  sysAddr : Addr
  memAddr : Addr
  length : Nat
  access : WriteAccess
  window : Option WindowRef
  offset : Nat
  key : Option KeyRef
  beats : List QueuedBeat
  rmw : Bool
  units : List Nat
  state : PwqState
  marks : List Nat
deriving DecidableEq, Repr

/-- The live page and the plane that the kind gate found for a print read (R64, R91). -/
structure PlaneRef where
  page : BitVec 32
  plane : Colour
deriving DecidableEq, Repr

/-- The state of a read tracker entry (R64): HELD with its wait set, ISSUED with its memory tid once granted,
DELIVERING with the beats that will be sent. -/
inductive ReadState where
  | held (waitSet : List Nat)
  | issued (memTid : Option MemTid)
  | delivering (beats : List Beat)
deriving DecidableEq, Repr

/-- An entry of the read tracker (R64). `sent` counts the beats already delivered. `ownsTid` is clear once a reset
has freed the read's tid while its delivery goes on (R15, R80, log 28). -/
structure TrackerEntry where
  age : Nat
  source : Source
  tid : Tid
  jobTag : JobTag
  sysAddr : Addr
  memAddr : Addr
  length : Nat
  access : ReadAccess
  window : Option WindowRef
  offset : Nat
  ref : Option PlaneRef
  state : ReadState
  sent : Nat
  ownsTid : Bool
deriving DecidableEq, Repr

/-- A hit delivery in progress from a prefetch line (R72). -/
structure Hit where
  age : Nat
  source : Source
  tid : Tid
  jobTag : JobTag
  offset : Nat
  window : WindowRef
  ref : Option PlaneRef
  line : Fin 8
  beats : List Beat
  sent : Nat
  ownsTid : Bool
deriving DecidableEq, Repr

/-- A pending FLUSH (R59). -/
structure Flush where
  id : Nat
  source : Source
  tid : Tid
  count : Nat
  lost : Bool
deriving DecidableEq, Repr

/-! ## The prefetch buffer and the memory port -/

/-- What a prefetch line holds (R69): FILLING with its memory tid once granted, or VALID with its fill order, the
discard setting in force at the fill, its deliveries in progress, its discard mark and its data. -/
inductive LineState where
  | filling (memTid : Option MemTid)
  | valid (filled : Nat) (discardUs : Nat) (deliveries : Nat) (discard : Bool) (data : List Beat)
deriving DecidableEq, Repr

/-- A prefetch line that is not FREE (R69). `order` is the order of allocation; `jobTag` is that of the read that
started the prefetch (R71). -/
structure Line where
  window : WindowRef
  page : BitVec 32
  plane : Colour
  chunk : Nat
  beats : Nat
  order : Nat
  jobTag : JobTag
  state : LineState
deriving DecidableEq, Repr

/-- The two operations of the memory port (R13). -/
inductive MemOp where
  | read | write
deriving DecidableEq, Repr

/-- Which of the part's requesters a memory request serves (R75). `discarded` is a request whose consumer is gone:
its outcome is received and dropped (R15, R71, R179). -/
inductive Consumer where
  | demand (age : Nat)
  | rmwRead (entry : Nat)
  | drain (entry : Nat)
  | prefetch (line : Fin 8)
  | scrub (channel : ChannelId)
  | discarded
deriving DecidableEq, Repr

/-- An outstanding memory request, with the memory timeout in force when it was issued (R68). -/
structure MemRequest where
  op : MemOp
  consumer : Consumer
  source : Source
  jobTag : JobTag
  addr : Addr
  length : Nat
  timeoutUs : Nat
deriving DecidableEq, Repr

/-- The condition of a memory-port tid (R77). -/
inductive TidState where
  | free
  | outstanding (request : MemRequest)
  | quarantined (us : Nat)
deriving DecidableEq, Repr

/-- The two requesters of precedence 2 (R75). -/
inductive SecondClass where
  | demand | drain
deriving DecidableEq, Repr

/-- The memory port and its arbiter (R75 to R77). -/
structure MemPort where
  tids : Vector TidState 32 := Vector.replicate 32 .free
  share : Nat := 0
  lastSecond : Option SecondClass := none
  lastScrub : Option ChannelId := none
deriving DecidableEq, Repr

/-- The thirteen flags of the path error record, in bit order (R78, 12.5). -/
inductive PathFlag where
  | addrParity | wdataParity | rdataParity | memError | memTimeout | unsolicited
  | badSource | badKind | badShape | dupTid | denied | aliasHit | unbilled
deriving DecidableEq, Repr

/-- The first-error capture (R79). The source is the source code as received. -/
structure Capture where
  flag : PathFlag
  kind : Option ReqKind
  source : Option (BitVec 3)
  jobTag : JobTag
  tid : Option Tid
  sysAddr : Option Addr
  window : Option WindowRef
  postedLost : Bool
deriving DecidableEq, Repr

/-- The path error record (R78, R79). -/
structure PathRecord where
  flags : BitVec 13 := 0
  capture : Option Capture := none
deriving DecidableEq, Repr

/-! ## Pages -/

/-- The states of a live page (R84). -/
inductive PageState where
  | waiting | admitted | printing
deriving DecidableEq, Repr

/-- The size class of a page (R108). -/
inductive SizeClass where
  | small | large
deriving DecidableEq, Repr

/-- The four classes of a page (R111), in the order of the counters (R117). -/
inductive PageClass where
  | monoSmall | monoLarge | colorSmall | colorLarge
deriving DecidableEq, Repr

/-- The draw basis of a plane (R88). -/
inductive DrawBasis where
  | genuine (serial : Serial) (factor : Nat)
  | foreign (factor : Nat)
deriving DecidableEq, Repr

/-- One plane of a live page (R82). Its colour is its cartridge slot. -/
structure Plane where
  colour : Colour
  offset : Nat
  basis : Option DrawBasis
  mark : Nat
  dots : Nat
deriving DecidableEq, Repr

/-- A live page (R82). A 1-plane page has one plane, K; a 4-plane page has C, M, Y, K in this order. `baseColor` is
absent on a 1-plane page (R109). -/
structure Page where
  number : BitVec 32
  account : Fin 128
  window : WindowRef
  planes : List Plane
  bytesPerLine : Nat
  lines : Nat
  size : SizeClass
  baseMono : Nat
  baseColor : Option Nat
  reservation : Nat
  state : PageState
deriving DecidableEq, Repr

/-! ## Accounts, meter and commit -/

/-- The seven counters of an account and of the meter (R117, R129). -/
structure Counters where
  monoSmall : Nat := 0
  monoLarge : Nat := 0
  colorSmall : Nat := 0
  colorLarge : Nat := 0
  scan : Nat := 0
  foreign : Nat := 0
  cancelled : Nat := 0
deriving DecidableEq, Repr

/-- The state of an account slot (R118). -/
inductive AccountState where
  | unused | active | suspended
deriving DecidableEq, Repr

/-- An account slot (R117). A limit of `none` is UNLIMITED. -/
structure Account where
  state : AccountState := .unused
  id : BitVec 32 := 0
  limit : Option Nat := some 0
  used : Nat := 0
  reserved : Nat := 0
  counters : Counters := {}
deriving DecidableEq, Repr

/-- An account slot as the snapshot holds it: reserved units are not held (R131). -/
structure SavedAccount where
  state : AccountState
  id : BitVec 32
  limit : Option Nat
  used : Nat
  counters : Counters
deriving DecidableEq, Repr

/-- An entry of the carry list (R170). -/
structure CarryEntry where
  serial : Serial
  amount : Nat
deriving DecidableEq, Repr

/-- A snapshot (R131). `debits` holds, for each cartridge slot, the serial and the pending debit owed to it. -/
structure Snapshot where
  number : BitVec 32
  meter : Counters
  accounts : Vector SavedAccount 128
  debits : Vector (Option CarryEntry) 4
  carry : List CarryEntry
deriving DecidableEq, Repr

/-- A snapshot bank (R131): blank, holding content whose check is not correct, or holding a snapshot. -/
inductive Bank where
  | blank
  | badCheck
  | holds (snapshot : Snapshot)
deriving DecidableEq, Repr

/-- The two snapshot banks. -/
inductive BankId where
  | a | b
deriving DecidableEq, Repr

/-- The causes of a commit, in bit order (R132, R209). -/
inductive Cause where
  | command | interval | pfail | sleep | reset
deriving DecidableEq, Repr

/-- A commit in flight (R133): its copy, its causes as a bit field, the pages-since-commit count it found, and the
bank being written. -/
structure CommitJob where
  snapshot : Snapshot
  causes : BitVec 5
  foundSince : Nat
  bank : BankId
deriving DecidableEq, Repr

/-- The result of the last commit to end (R130). -/
inductive CommitResult where
  | done | failed
deriving DecidableEq, Repr

/-- The result of the restore at the last POWER_ON (R130, R136). -/
inductive RestoreResult where
  | restored | blank
deriving DecidableEq, Repr

/-- The commit state (R130, R132, R133). -/
structure CommitState where
  inFlight : Option CommitJob := none
  remembered : Option (BitVec 5) := none
  since : Nat := 0
  last : Option CommitResult := none
  restore : RestoreResult := .blank
deriving DecidableEq, Repr

/-! ## Settings and the nonvolatile store -/

/-- The consumable policy (R150). -/
inductive Policy where
  | strict | permissive
deriving DecidableEq, Repr

/-- One set of settings, with the defaults of R199. `flagAttn` has one bit per path error flag. -/
structure Settings where
  memTimeout : Nat := 2000
  readAhead : Nat := 2
  discardTime : Nat := 500
  scrubShare : Nat := 16
  tColor : Nat := 30
  cFree : Nat := 2000
  aLarge : Nat := 36000000
  baseMonoSmall : Nat := 1
  baseMonoLarge : Nat := 2
  baseColorSmall : Nat := 4
  baseColorLarge : Nat := 8
  foreignDraw : Nat := 3000
  foreignCapacity : Nat := 8000000
  lowMark : Nat := 10
  commitInterval : Nat := 64
  policy : Policy := .strict
  noticeAttn : Bool := true
  flagAttn : BitVec 13 := BitVec.allOnes 13
deriving DecidableEq, Repr

/-- Where the working settings came from at the last load (R199). -/
inductive LoadResult where
  | stored | defaults
deriving DecidableEq, Repr

/-- The root store (R39): master key and device serial, whether it has been provisioned, and the lock state. -/
structure RootStore where
  masterKey : BitVec 256 := 0
  serial : Serial := 0
  provisioned : Bool := false
  locked : Bool := false
deriving DecidableEq, Repr

/-- The nonvolatile store: snapshot banks (R131), stored settings (R199; `none` when none are valid), root store. -/
structure NvStore where
  bankA : Bank := .blank
  bankB : Bank := .blank
  stored : Option Settings := none
  root : RootStore := {}
deriving DecidableEq, Repr

/-! ## Cartridges and the toner gauge -/

/-- The identity record of a cartridge (R146), as sent. -/
structure Record where
  serial : Serial
  model : BitVec 16
  colour : Byte
  rated : BitVec 32
  factor : BitVec 16
  remaining : BitVec 32
  sequence : BitVec 32
deriving DecidableEq, Repr

/-- The state of a cartridge slot, with the identity record that each state keeps (R140). -/
inductive SlotState where
  | absent
  | probing
  | proving (record : Record)
  | genuine (record : Record)
  | foreign (record : Record)
  | rejected (record : Option Record)
  | mute (record : Option Record)
deriving DecidableEq, Repr

/-- The debounced state of a presence line (R141). -/
inductive Presence where
  | notPresent | settling | present
deriving DecidableEq, Repr

/-- A message on a cartridge link. A HELLO serves identification or, with `resync`, the toner gauge (R167). A PROVE
carries the nonce of the attempt, absent between attempts (R148). A DEBIT carries its amount, sequence and request
tag (R165). -/
inductive MessageKind where
  | hello (resync : Bool)
  | prove (nonce : Option (BitVec 128))
  | debit (amount : Nat) (sequence : BitVec 32) (tag : BitVec 64)
deriving DecidableEq, Repr

/-- How far an attempt has gone: its request is being sent, its reply window runs, or the gap after its failure
runs (R143, R144). -/
inductive AttemptPhase where
  | sending | awaiting | gap
deriving DecidableEq, Repr

/-- The message in flight on a slot's link (R139, R144). -/
structure Message where
  kind : MessageKind
  attempt : Nat
  phase : AttemptPhase
deriving DecidableEq, Repr

/-- The reasons of CART_STATE, in the order of their codes (R157, R209). -/
inductive Reason where
  | inserted | removed | identified | colourMismatch | badRecord | notProvisioned | proved | proofFailed | noReply
  | reprobe | policy | wake | depleted | restocked | debitSequence | debitTag | debitNoReply
deriving DecidableEq, Repr

/-- A cartridge slot (R139). -/
structure Slot where
  state : SlotState := .absent
  presence : Presence := .notPresent
  message : Option Message := none
  lastReason : Option Reason := none
deriving DecidableEq, Repr

/-- The posting in progress (R161, R165). -/
structure Posting where
  amount : Nat
  sequence : BitVec 32
  seqErrors : Nat
deriving DecidableEq, Repr

/-- The gauge of a slot (R161): remaining, pending debit P, last acknowledged L, sequence, posting, low-mark serial. -/
structure Gauge where
  remaining : Nat := 0
  pending : Nat := 0
  acked : Nat := 0
  sequence : BitVec 32 := 0
  posting : Option Posting := none
  lowSerial : Option Serial := none
deriving DecidableEq, Repr

/-! ## The scrub engine -/

/-- The kind of a scrub job (R176). -/
inductive JobKind where
  | erase (passes : List Pattern)
  | rekey
deriving DecidableEq, Repr

/-- A scrub job (R177). -/
structure Job where
  kind : JobKind
  window : WindowRef
deriving DecidableEq, Repr

/-- The state of a channel (R176). -/
inductive ChannelState where
  | idle | running | suspended | failed
deriving DecidableEq, Repr

/-- The step of a RUNNING channel (R176). -/
inductive Step where
  | waiting | reading | writing | ready
deriving DecidableEq, Repr

/-- The cause of a channel's failure (R176, R189). -/
inductive FailCause where
  | memError | memTimeout | rdataParity
deriving DecidableEq, Repr

/-- A scrub channel (R176). `pass` counts from 1. `buffer` holds the re-encrypted chunk between the read and the
write of a re-key (R185). -/
structure Channel where
  state : ChannelState := .idle
  job : Option Job := none
  pass : Nat := 0
  offset : Nat := 0
  step : Step := .waiting
  lock : Option Nat := none
  suspendReq : Bool := false
  failure : Option (MemOp × FailCause) := none
  buffer : Option (List Beat) := none
deriving DecidableEq, Repr

/-- The model's own mark for the one choice R178 leaves (log 24). `fresh c`: channel `c` has become IDLE with a job
waiting and assignment not held back, and nothing has been assigned since. `together`: the other channel has then
become IDLE too, with two jobs or more waiting. `settled`: neither, as of a channel that was IDLE before. -/
inductive IdleMark where
  | settled
  | fresh (c : ChannelId)
  | together
deriving DecidableEq, Repr

/-- The scrub engine (R176, R177). `idleMark` is the model's own field (log 24). -/
structure ScrubEngine where
  chans : Vector Channel 2 := Vector.replicate 2 {}
  queue : List Job := []
  idleMark : IdleMark := .settled
deriving DecidableEq, Repr

/-! ## Notices -/

/-- The kinds of reset (R202), in the order R202 lists them. -/
inductive ResetKind where
  | powerOn | linkReset | command
deriving DecidableEq, Repr

/-- The cause of a page's cancel (R98, R105). -/
inductive CancelCause where
  | command | reset
deriving DecidableEq, Repr

/-- The cause that ended a sleep entry (R205). -/
inductive AbortCause where
  | printing | debit | reset
deriving DecidableEq, Repr

/-- What PAGE_DONE and PAGE_CANCELLED report of a page (R97, R98, R99). `coverage` holds the planes present. -/
structure PageReport where
  number : BitVec 32
  account : Fin 128
  window : WindowRef
  cls : PageClass
  coverage : List (Colour × Nat)
  charge : Nat
  foreign : Bool
deriving DecidableEq, Repr

/-- The seven slot states without their records, in the order of R140. -/
inductive SlotCode where
  | absent | probing | proving | genuine | foreign | rejected | mute
deriving DecidableEq, Repr

/-- A notice: a kind and its fields (R196, 12.3). -/
inductive Notice where
  | pageDone (report : PageReport)
  | pageCancelled (report : PageReport) (state : PageState) (cause : CancelCause)
  | windowFree (window : WindowRef) (incomplete : Bool)
  | rekeyDone (window : WindowRef)
  | scrubFailed (channel : ChannelId) (job : Job) (pass progress : Nat) (op : MemOp) (cause : FailCause)
  | cartState (slot : Colour) (before after : SlotCode) (reason : Reason) (serial : Option Serial) (depleted : Bool)
  | cartLow (slot : Colour) (serial : Serial) (remaining capacity : Nat)
  | carryDropped (entry : CarryEntry)
  | commitDone (number : BitVec 32) (causes : BitVec 5)
  | commitFailed (number : BitVec 32) (causes : BitVec 5)
  | pathError (flag : PathFlag)
  | reset (kind : ResetKind)
  | sleepEntered
  | sleepAborted (cause : AbortCause)
deriving DecidableEq, Repr

/-- A queued notice with its OVERFLOW count, 0 for no marking (R196). -/
structure QueuedNotice where
  notice : Notice
  overflow : Nat
deriving DecidableEq, Repr

/-! ## Responses of the management port -/

/-- The statuses of a response, in the order of their codes (R195, 12.2). -/
inductive Status where
  | ok | busy | badCommand | badArgument | noRoom | notFound | state | quota | overlap | belowUsed | locked
deriving DecidableEq, Repr

/-- The power states (R204). -/
inductive PowerState where
  | run | entering | sleep | waking
deriving DecidableEq, Repr

/-- The re-key status of WINDOW_QUERY (R35). -/
inductive RekeyStatus where
  | none
  | queued
  | onChannel (channel : ChannelId) (state : ChannelState)
  | twoKey
deriving DecidableEq, Repr

/-- Where a window's erase job is (R35). -/
inductive ErasePlace where
  | queued
  | onChannel (channel : ChannelId)
deriving DecidableEq, Repr

/-- A message in flight as CART_QUERY shows it: its kind and attempt, and nothing that could give a key away (R156). -/
inductive MessageName where
  | hello | prove | debit
deriving DecidableEq, Repr

/-- The fields of CART_QUERY (R156, R175). -/
structure CartView where
  state : SlotCode
  line : Bool
  presence : Presence
  record : Option Record
  message : Option (MessageName × Nat)
  lastReason : Option Reason
  policy : Policy
  gauge : Gauge
  depleted : Bool
  lowMark : Nat
  carry : List CarryEntry
deriving DecidableEq, Repr

/-- The fields of METER_READ (R130). -/
structure MeterView where
  counters : Counters
  inFlight : Option (BitVec 5)
  remembered : Option (BitVec 5)
  since : Nat
  newest : Option (BitVec 32)
  last : Option CommitResult
  restore : RestoreResult
deriving DecidableEq, Repr

/-- The condition of a spare key slot as SCRUB_QUERY shows it, without its key (R191). -/
inductive SpareView where
  | free
  | reserved (window : WindowIdx)
  | holding (window : WindowIdx)
deriving DecidableEq, Repr

/-- The fields of SCRUB_QUERY (R191): the channels without their buffers, with the cursor of each re-key job's
window; the queue; the conditions of the spare slots without their keys; the two-key windows with no job, with
their cursors. -/
structure ScrubView where
  chans : List (Channel × Option Nat)
  queue : List Job
  spares : List SpareView
  twoKey : List (WindowIdx × Nat)
deriving DecidableEq, Repr

/-- The data of a response. -/
inductive RespData where
  | empty
  | windowOpened (index : WindowIdx) (generation : BitVec 16)
  | window (w : Window) (rekey : RekeyStatus) (cursor : Option Nat) (erase : Option ErasePlace)
  | pageOpened (number : BitVec 32) (size : SizeClass) (reservation : Nat) (state : PageState)
  | page (p : Page) (notAdmitting : Option (List Colour))
  | pageList (items : List (BitVec 32 × Fin 128 × WindowIdx × PageState))
  | accountCreated (slot : Fin 128)
  | account (a : Account) (livePages : Nat) (scanAccount : Bool)
  | meter (m : MeterView)
  | cart (v : CartView)
  | reprobed (slots : List Colour)
  | scrub (v : ScrubView)
  | workingSettings (settings : Settings) (load : LoadResult)
  | storedSettings (settings : Option Settings)
  | settingWritten (value : Nat) (clamped : Bool)
  | notice (left : Nat) (n : QueuedNotice)
  | errors (flags : BitVec 13) (capture : Option Capture)
  | ident (serial : Option Serial) (provisioned locked : Bool) (cause : ResetKind) (inProgress : Bool) (power : PowerState)
deriving DecidableEq, Repr

/-- A response of the management port (R194). -/
structure Response where
  code : Byte
  status : Status
  data : RespData
deriving DecidableEq, Repr

/-! ## What the part drives on its ports -/

/-- A beat as the part drives it on the memory port: data, mask, parity (R13). -/
structure DrivenBeat where
  data : Beat
  mask : BitVec 32
  parity : BitVec 4
deriving DecidableEq, Repr

/-- What one event drives on the part's ports: a system-port response without data, a beat of a READ's OKAY, a memory
request, a cartridge request frame, the bytes of a management frame. -/
inductive Emission where
  | response (source : BitVec 3) (tid : Tid) (status : SysStatus)
  | beat (source : Source) (tid : Tid) (index : Nat) (data : Beat) (last : Bool)
  | memRequest (tid : MemTid) (op : MemOp) (source : Source) (jobTag : JobTag) (addr : Addr) (addrParity : BitVec 5)
      (length : Nat) (beats : List DrivenBeat)
  | cartFrame (slot : Colour) (bytes : List Byte)
  | spi (bytes : List Byte)
deriving DecidableEq, Repr

/-! ## The whole state -/

/-- The input lines of the part (00_scope 1.1). -/
structure Pins where
  pfail : Bool := false
  linkrst : Bool := false
  lines : Vector Bool 4 := Vector.replicate 4 false
deriving DecidableEq, Repr

/-- A LINK_RESET or COMMAND reset in progress (R202): whether it began as COMMAND, and whether its windows have
been forced FREE (R42). -/
structure ResetProgress where
  asCommand : Bool
  windowsFreed : Bool
deriving DecidableEq, Repr

/-- The reset cause record (R203). -/
structure ResetRecord where
  cause : ResetKind := .powerOn
  progress : Option ResetProgress := none
deriving DecidableEq, Repr

/-- The state of the part. The first five fields are the model's own (INVENTORY.md). -/
structure State where
  pending : List Instr := []
  seq : Nat := 0
  draws : Nat := 0
  outbox : List Notice := []
  emitted : List Emission := []
  powered : Bool := false
  pins : Pins := {}
  nv : NvStore := {}
  power : PowerState := .run
  wakeReset : Bool := false
  resetRec : ResetRecord := {}
  settings : Settings := {}
  loadResult : LoadResult := .defaults
  held : Option Response := none
  awaiting : Option Instr := none
  notices : List QueuedNotice := []
  path : PathRecord := {}
  windows : Vector Window 16 := Vector.replicate 16 {}
  keys : KeyStore := {}
  tids : List (Source × Tid) := []
  pwq : List PwqEntry := []
  tracker : List TrackerEntry := []
  hits : List Hit := []
  flushes : List Flush := []
  lines : Vector (Option Line) 8 := Vector.replicate 8 none
  mem : MemPort := {}
  pages : Vector (Option Page) 16 := Vector.replicate 16 none
  nextPage : BitVec 32 := 1
  accounts : Vector Account 128 := Vector.replicate 128 {}
  meter : Counters := {}
  commit : CommitState := {}
  slots : Vector Slot 4 := Vector.replicate 4 {}
  gauges : Vector Gauge 4 := Vector.replicate 4 {}
  carry : List CarryEntry := []
  scrub : ScrubEngine := {}
deriving DecidableEq, Repr

/-- The reasons for which the part stops. There are none: the spec gives every command an effect in every state, and
its errors are answers, flags and notices. No meaning raises a fault. -/
inductive Fault where
deriving DecidableEq, Repr

/-- The reasons for which the model gives a command no meaning. `notModelled` is raised by an arm of `exec` only, for
a row not yet modelled; that is safe, since it claims nothing of the part. No row of this model raises it. -/
inductive Refusal where
  | notModelled (mnemonic : String)
deriving DecidableEq, Repr

/-- Account slot 0 in its factory state (R118). -/
def walkUpAccount : Account := { state := .active, limit := none }

/-- The account table in its factory state (R118). -/
def factoryAccounts : Vector Account 128 := (Vector.replicate 128 {}).set 0 walkUpAccount

/-- The part without power: every volatile block at the value its own rule gives after POWER_ON, with nothing of the
nonvolatile store or of the input lines changed from a part fresh from manufacture. -/
def State.blank : State := {}

/-- The machine right after POWER_ON of a part fresh from manufacture with every input line deasserted (R202 and the
rules of each block; log 6). -/
def State.reset : State :=
  { State.blank with
    powered := true
    accounts := factoryAccounts
    notices := [⟨.reset .powerOn, 0⟩] }

end Sys2Proof.Machine
end

