-- ==== Sys2Proof/Machine/Operands.lean ====
section
/-! DEFINITION. The operand forms: codes of request fields and of command parameters, parity, shape. A parameter whose
coded value lies outside what its field admits has no value here, and its command is answered BAD_ARGUMENT (R208). -/

namespace Sys2Proof.Machine

/-! ## Page-link fields (12.1) -/

/-- The source class a source code names; 6 and 7 name none (R2). -/
def sourceOf (code : BitVec 3) : Option Source :=
  match code.toNat with
  | 0 => some .cpu
  | 1 => some .scan
  | 2 => some .print
  | 3 => some .image
  | 4 => some .net
  | 5 => some .service
  | _ => none

/-- The code of a source class (12.1). -/
def Source.code : Source → BitVec 3
  | .cpu => 0
  | .scan => 1
  | .print => 2
  | .image => 3
  | .net => 4
  | .service => 5

/-- Whether the low `n` bits of a word hold an odd number of ones. -/
def oddOnes {w : Nat} (x : BitVec w) : Nat → Bool
  | 0 => false
  | n + 1 => xor (x.getLsbD n) (oddOnes x n)

/-- The parity bit that makes a group odd: set when the group holds an even number of ones (R5, R6, R13). -/
def oddParity {w : Nat} (x : BitVec w) : Bool := !oddOnes x w

/-- The five groups of a 36-bit address, each with its parity bit, low group first: bit 4 covers bits 32 to 35
(12.1). -/
def addrParityOf (a : Addr) : BitVec 5 :=
  BitVec.ofBool (oddParity (a.extractLsb' 32 4)) ++ BitVec.ofBool (oddParity (a.extractLsb' 24 8))
    ++ BitVec.ofBool (oddParity (a.extractLsb' 16 8)) ++ BitVec.ofBool (oddParity (a.extractLsb' 8 8))
    ++ BitVec.ofBool (oddParity (a.extractLsb' 0 8))

/-- The four data parity bits of a beat: bit `j` covers bytes `8j` to `8j + 7` (12.1). -/
def dataParityOf (d : Beat) : BitVec 4 :=
  BitVec.ofBool (oddParity (d.extractLsb' 192 64)) ++ BitVec.ofBool (oddParity (d.extractLsb' 128 64))
    ++ BitVec.ofBool (oddParity (d.extractLsb' 64 64)) ++ BitVec.ofBool (oddParity (d.extractLsb' 0 64))

/-- The address parity check of R5: every address byte with its bit holds an odd number of ones. -/
def addrParityGood (r : PageRequest) : Bool := addrParityOf r.addr == r.addrParity

/-- The shape check of R3. -/
def legalShape (r : PageRequest) : Bool :=
  r.addr.toNat % 32 == 0 && decide (1 ≤ r.length.toNat) && decide (r.length.toNat ≤ 8)
    && r.addr.toNat / 256 == (r.addr.toNat + 32 * r.length.toNat - 1) / 256

/-- Two ranges share a byte. -/
def overlaps (a n b m : Nat) : Bool := decide (a < b + m) && decide (b < a + n)

/-! ## Management parameters (R207, R208) -/

/-- A window index parameter: outside 0 to 15 there is none (chapter 2.3). -/
def indexOf (b : Byte) : Option WindowIdx := if h : b.toNat < 16 then some ⟨b.toNat, h⟩ else none

/-- An account slot parameter: above 127 there is none (chapter 7.2). -/
def accountOf (b : Byte) : Option (Fin 128) := if h : b.toNat < 128 then some ⟨b.toNat, h⟩ else none

/-- A cartridge slot parameter (R155, R156). -/
def cartSlotOf (b : Byte) : Option Colour := if h : b.toNat < 4 then some ⟨b.toNat, h⟩ else none

/-- A channel parameter: 0 for A, 1 for B (R207). -/
def channelOf (b : Byte) : Option ChannelId := if h : b.toNat < 2 then some ⟨b.toNat, h⟩ else none

/-- A window kind code, in the order of R16. -/
def kindOf (b : Byte) : Option WindowKind :=
  match b.toNat with
  | 0 => some .scan
  | 1 => some .print
  | 2 => some .work
  | _ => none

/-- A mode code, in the order of R23. -/
def modeOf (b : Byte) : Option Mode :=
  match b.toNat with
  | 0 => some .noAccess
  | 1 => some .cipher
  | 2 => some .read
  | 3 => some .readWrite
  | _ => none

/-- Six mode codes. -/
def modesOf (m : ModeBytes) : Option Modes :=
  match modeOf m.cpu, modeOf m.scan, modeOf m.print, modeOf m.image, modeOf m.net, modeOf m.service with
  | some a, some b, some c, some d, some e, some f => some ⟨a, b, c, d, e, f⟩
  | _, _, _, _, _, _ => none

/-- The mode a source class holds (R23). -/
def Modes.of (m : Modes) : Source → Mode
  | .cpu => m.cpu
  | .scan => m.scan
  | .print => m.print
  | .image => m.image
  | .net => m.net
  | .service => m.service

/-- An erase pattern code, in the order of R30. -/
def patternOf (b : Byte) : Option Pattern :=
  match b.toNat with
  | 0 => some .zero
  | 1 => some .ones
  | 2 => some .random
  | _ => none

/-- The patterns of a list of pass bytes, all of which must name one (R30). -/
def patternsOf : List Byte → Option (List Pattern)
  | [] => some []
  | b :: bs =>
    match patternOf b, patternsOf bs with
    | some p, some ps => some (p :: ps)
    | _, _ => none

/-- The pass list of WINDOW_RETIRE: at most 3 passes, pass bytes beyond the count ignored (R30, R208). -/
def passesOf (count p q r : Byte) : Option (List Pattern) :=
  if count.toNat ≤ 3 then patternsOf ([p, q, r].take count.toNat) else none

/-- An address parameter of 5 bytes, which must fit the 36-bit address space (R208). -/
def addrOf (a : BitVec 40) : Option Addr := if a.toNat < 2 ^ 36 then some (.ofNat 36 a.toNat) else none

/-- A size code parameter, 0 to 19 (R26). -/
def sizeCodeOf (b : Byte) : Option (Fin 20) := if h : b.toNat < 20 then some ⟨b.toNat, h⟩ else none

/-- A limit parameter: 0 to 2147483647, or 0xFFFFFFFF for UNLIMITED (R119, R207, R208). -/
def limitOf (l : BitVec 32) : Option (Option Nat) :=
  if l.toNat = 4294967295 then some none
  else if l.toNat ≤ 2147483647 then some (some l.toNat)
  else none

/-- The size in bytes of a window of a size code (R19). -/
def sizeOfCode (code : Fin 20) : Nat := 4096 * 2 ^ code.val

/-- The size in bytes of a window (R19). -/
def Window.size (w : Window) : Nat := sizeOfCode w.sizeCode

/-- Is the entry a window, that is, not FREE? -/
def Window.live (w : Window) : Bool := w.state != .free

/-- Is the window retiring, in either phase? -/
def Window.retiring (w : Window) : Bool := w.state == .retiring .draining || w.state == .retiring .erasing

/-- Does the system address lie in the window's system range? -/
def Window.holdsSys (w : Window) (a : Addr) : Bool :=
  decide (w.sysBase.toNat ≤ a.toNat) && decide (a.toNat < w.sysBase.toNat + w.size)

/-- Does the memory address lie in the window's memory range? -/
def Window.holdsMem (w : Window) (a : Addr) : Bool :=
  decide (w.memBase.toNat ≤ a.toNat) && decide (a.toNat < w.memBase.toNat + w.size)

/-- The window offset of a system address (R19). -/
def Window.offsetOf (w : Window) (a : Addr) : Nat := a.toNat - w.sysBase.toNat

/-- The memory address of a window offset (R19). -/
def Window.memAt (w : Window) (offset : Nat) : Addr := w.memBase + BitVec.ofNat 36 offset

/-- The reference to this opening of a window index (R20). -/
def Window.ref (w : Window) (i : WindowIdx) : WindowRef := ⟨i, w.generation⟩

/-- A FREE entry: every field cleared, the generation kept (R16). -/
def Window.freed (w : Window) : Window := { generation := w.generation }

/-- The number of scan slots of a SCAN window: the smaller of 64 and floor(size / stride) (R16, R102). -/
def slotCountOf (size stride : Nat) : Nat := min 64 (size / stride)

/-- The bytes of one plane of a page (R82). -/
def Page.planeSize (p : Page) : Nat := p.lines * p.bytesPerLine

/-! ## Records of cartridge slots -/

/-- The identity record a slot keeps in a state (R140). -/
def SlotState.record : SlotState → Option Record
  | .absent => none
  | .probing => none
  | .proving r => some r
  | .genuine r => some r
  | .foreign r => some r
  | .rejected r => r
  | .mute r => r

/-- The slot state without its record. -/
def SlotState.code : SlotState → SlotCode
  | .absent => .absent
  | .probing => .probing
  | .proving _ => .proving
  | .genuine _ => .genuine
  | .foreign _ => .foreign
  | .rejected _ => .rejected
  | .mute _ => .mute

/-! ## Settings by number (R199, R207) -/

/-- The settings in the row order of R199, the flag enables by flag bit. -/
inductive SettingName where
  | memTimeout | readAhead | discardTime | scrubShare | tColor | cFree | aLarge
  | baseMonoSmall | baseMonoLarge | baseColorSmall | baseColorLarge
  | foreignDraw | foreignCapacity | lowMark | commitInterval | policy | noticeAttn
  | flagAttn (bit : Fin 13)
deriving DecidableEq, Repr

/-- The setting a number names: 0 to 16 in the row order of R199, 17 to 29 the flag enables (R207). -/
def settingOf (n : Byte) : Option SettingName :=
  match n.toNat with
  | 0 => some .memTimeout
  | 1 => some .readAhead
  | 2 => some .discardTime
  | 3 => some .scrubShare
  | 4 => some .tColor
  | 5 => some .cFree
  | 6 => some .aLarge
  | 7 => some .baseMonoSmall
  | 8 => some .baseMonoLarge
  | 9 => some .baseColorSmall
  | 10 => some .baseColorLarge
  | 11 => some .foreignDraw
  | 12 => some .foreignCapacity
  | 13 => some .lowMark
  | 14 => some .commitInterval
  | 15 => some .policy
  | 16 => some .noticeAttn
  | k => if h : k - 17 < 13 then some (.flagAttn ⟨k - 17, h⟩) else none

/-- A value brought to the nearest limit of its range (R200). -/
def clampTo (low high v : Nat) : Nat := if v < low then low else if high < v then high else v

/-- The scrub share nearest to a value, the larger when the value lies halfway (R200). -/
def clampShare (v : Nat) : Nat :=
  if v < 6 then 4 else if v < 12 then 8 else if v < 24 then 16 else if v < 48 then 32 else 64

/-- A value brought into the range of its setting (R199, R200). -/
def clampSetting (n : SettingName) (v : Nat) : Nat :=
  match n with
  | .memTimeout => clampTo 100 100000 v
  | .readAhead => clampTo 0 4 v
  | .discardTime => clampTo 10 10000 v
  | .scrubShare => clampShare v
  | .tColor => clampTo 0 10000 v
  | .cFree => clampTo 0 40000 v
  | .aLarge => clampTo 1 268435456 v
  | .baseMonoSmall => clampTo 0 255 v
  | .baseMonoLarge => clampTo 0 255 v
  | .baseColorSmall => clampTo 0 255 v
  | .baseColorLarge => clampTo 0 255 v
  | .foreignDraw => clampTo 1 65535 v
  | .foreignCapacity => clampTo 0 4294967295 v
  | .lowMark => clampTo 0 50 v
  | .commitInterval => clampTo 1 1024 v
  | .policy => clampTo 0 1 v
  | .noticeAttn => clampTo 0 1 v
  | .flagAttn _ => clampTo 0 1 v

/-- The code of a policy: 0 STRICT, 1 PERMISSIVE (R200). -/
def Policy.code : Policy → Nat
  | .strict => 0
  | .permissive => 1

/-- The policy of a code already clamped. -/
def policyOf (v : Nat) : Policy := if v = 0 then .strict else .permissive

/-- The working value of a setting, as a number (R200, R208). -/
def Settings.get (c : Settings) (n : SettingName) : Nat :=
  match n with
  | .memTimeout => c.memTimeout
  | .readAhead => c.readAhead
  | .discardTime => c.discardTime
  | .scrubShare => c.scrubShare
  | .tColor => c.tColor
  | .cFree => c.cFree
  | .aLarge => c.aLarge
  | .baseMonoSmall => c.baseMonoSmall
  | .baseMonoLarge => c.baseMonoLarge
  | .baseColorSmall => c.baseColorSmall
  | .baseColorLarge => c.baseColorLarge
  | .foreignDraw => c.foreignDraw
  | .foreignCapacity => c.foreignCapacity
  | .lowMark => c.lowMark
  | .commitInterval => c.commitInterval
  | .policy => c.policy.code
  | .noticeAttn => c.noticeAttn.toNat
  | .flagAttn b => (c.flagAttn.getLsbD b.val).toNat

/-- One bit of a 13-bit field set to a value. -/
def putBit (x : BitVec 13) (b : Fin 13) (on : Bool) : BitVec 13 :=
  if on then x ||| BitVec.twoPow 13 b.val else x &&& ~~~ BitVec.twoPow 13 b.val

/-- The settings with one of them written (R200). -/
def Settings.put (c : Settings) (n : SettingName) (v : Nat) : Settings :=
  match n with
  | .memTimeout => { c with memTimeout := v }
  | .readAhead => { c with readAhead := v }
  | .discardTime => { c with discardTime := v }
  | .scrubShare => { c with scrubShare := v }
  | .tColor => { c with tColor := v }
  | .cFree => { c with cFree := v }
  | .aLarge => { c with aLarge := v }
  | .baseMonoSmall => { c with baseMonoSmall := v }
  | .baseMonoLarge => { c with baseMonoLarge := v }
  | .baseColorSmall => { c with baseColorSmall := v }
  | .baseColorLarge => { c with baseColorLarge := v }
  | .foreignDraw => { c with foreignDraw := v }
  | .foreignCapacity => { c with foreignCapacity := v }
  | .lowMark => { c with lowMark := v }
  | .commitInterval => { c with commitInterval := v }
  | .policy => { c with policy := policyOf v }
  | .noticeAttn => { c with noticeAttn := v != 0 }
  | .flagAttn b => { c with flagAttn := putBit c.flagAttn b (v != 0) }

/-- The settings in the order of their numbers (R207). -/
def allSettings : List SettingName :=
  [.memTimeout, .readAhead, .discardTime, .scrubShare, .tColor, .cFree, .aLarge, .baseMonoSmall, .baseMonoLarge,
    .baseColorSmall, .baseColorLarge, .foreignDraw, .foreignCapacity, .lowMark, .commitInterval, .policy, .noticeAttn]
    ++ (List.finRange 13).map .flagAttn

end Sys2Proof.Machine
end

