-- ==== Sys2Proof/Machine/Flags.lean ====
section
/-! DEFINITION. The flags of the path error record (R78), the causes of a commit as bits (R209), and ATTN (R198). -/

namespace Sys2Proof.Machine

/-- The bit number of a flag (12.5). -/
def PathFlag.bit : PathFlag → Fin 13
  | .addrParity => 0
  | .wdataParity => 1
  | .rdataParity => 2
  | .memError => 3
  | .memTimeout => 4
  | .unsolicited => 5
  | .badSource => 6
  | .badKind => 7
  | .badShape => 8
  | .dupTid => 9
  | .denied => 10
  | .aliasHit => 11
  | .unbilled => 12

/-- Whether a flag is set in a flag field. -/
def flagSet (flags : BitVec 13) (f : PathFlag) : Bool := flags.getLsbD f.bit.val

/-- A flag field with a flag set; setting a flag already set changes nothing (R78). -/
def withFlag (flags : BitVec 13) (f : PathFlag) : BitVec 13 := flags ||| BitVec.twoPow 13 f.bit.val

/-- The bit of a commit cause (R209). -/
def Cause.bits : Cause → BitVec 5
  | .command => 1
  | .interval => 2
  | .pfail => 4
  | .sleep => 8
  | .reset => 16

/-- ATTN (R198): a notice waits and its enable is set, or a flag is set whose own enable is set. Without power the
output is deasserted (log 5). -/
def State.attn (s : State) : Bool :=
  s.powered && ((!s.notices.isEmpty && s.settings.noticeAttn) || (s.path.flags &&& s.settings.flagAttn) != 0)

end Sys2Proof.Machine
end

