-- ==== Sys2Proof/Machine/Ops.lean ====
section
/-! DEFINITION. The named operations every block uses: events, notices, the error record, emissions, table updates. -/

namespace Sys2Proof.Machine

/-! ## Tables -/

/-- A vector with a function applied to every entry. -/
def mapVec {α β : Type} {n : Nat} (f : α → β) (v : Vector α n) : Vector β n :=
  ⟨(v.toList.map f).toArray, by simp⟩

/-- The window at an index. -/
def State.window (s : State) (i : WindowIdx) : Window := s.windows[i]

/-- Replaces the window at an index. -/
def State.setWindow (s : State) (i : WindowIdx) (w : Window) : State := { s with windows := s.windows.set i w }

/-- The account in a slot. -/
def State.account (s : State) (a : Fin 128) : Account := s.accounts[a]

/-- Replaces the account in a slot. -/
def State.setAccount (s : State) (a : Fin 128) (x : Account) : State := { s with accounts := s.accounts.set a x }

/-- The page in an entry. -/
def State.page (s : State) (i : Fin 16) : Option Page := s.pages[i]

/-- Replaces the page in an entry. -/
def State.setPage (s : State) (i : Fin 16) (p : Option Page) : State := { s with pages := s.pages.set i p }

/-- The cartridge slot of a number. -/
def State.slot (s : State) (k : Colour) : Slot := s.slots[k]

/-- Replaces a cartridge slot. -/
def State.setSlot (s : State) (k : Colour) (x : Slot) : State := { s with slots := s.slots.set k x }

/-- The gauge of a cartridge slot. -/
def State.gauge (s : State) (k : Colour) : Gauge := s.gauges[k]

/-- Replaces the gauge of a cartridge slot. -/
def State.setGauge (s : State) (k : Colour) (g : Gauge) : State := { s with gauges := s.gauges.set k g }

/-- The prefetch line of a number. -/
def State.line (s : State) (i : Fin 8) : Option Line := s.lines[i]

/-- Replaces a prefetch line. -/
def State.setLine (s : State) (i : Fin 8) (l : Option Line) : State := { s with lines := s.lines.set i l }

/-- The condition of a memory-port tid. -/
def State.memTid (s : State) (t : MemTid) : TidState := s.mem.tids[t]

/-- Replaces the condition of a memory-port tid. -/
def State.setMemTid (s : State) (t : MemTid) (x : TidState) : State :=
  { s with mem := { s.mem with tids := s.mem.tids.set t x } }

/-- A scrub channel. -/
def State.chan (s : State) (c : ChannelId) : Channel := s.scrub.chans[c]

/-- The channel asks the arbiter for a slot: it is RUNNING and its step is READY (R75, R179). -/
def Channel.asks (x : Channel) : Bool := x.state == .running && x.step == .ready

/-- Some scrub channel waits at the arbiter (R75). -/
def anyAsks (chans : Vector Channel 2) : Bool := chans[0].asks || chans[1].asks

/-- Replaces a scrub channel. The share count returns to 0 whenever no channel waits (R76). -/
def State.setChan (s : State) (c : ChannelId) (x : Channel) : State :=
  let chans := s.scrub.chans.set c x
  { s with
    scrub := { s.scrub with chans := chans }
    mem := { s.mem with share := if anyAsks chans then s.mem.share else 0 } }

/-! ## Events and notices -/

/-- Appends what the event drives on a port. -/
def State.emit (s : State) (e : Emission) : State := { s with emitted := s.emitted ++ [e] }

/-- Appends a notice to those of the event in progress (R196). -/
def State.note (s : State) (n : Notice) : State := { s with outbox := s.outbox ++ [n] }

/-- Is the notice a CART_STATE? -/
def Notice.isCartState : Notice → Bool
  | .cartState _ _ _ _ _ _ => true
  | _ => false

/-- Places a notice before the first CART_STATE of a list, or at its end. -/
def placeBeforeCartState (n : Notice) : List Notice → List Notice
  | [] => [n]
  | m :: rest => if m.isCartState then n :: m :: rest else m :: placeBeforeCartState n rest

/-- Queues CARRY_DROPPED before any CART_STATE of the same event (R170). -/
def State.noteDropped (s : State) (e : CarryEntry) : State :=
  { s with outbox := placeBeforeCartState (.carryDropped e) s.outbox }

/-- Marks the newest notice of a full queue with one more drop, saturating at 65535 (R196). -/
def markOverflow : List QueuedNotice → List QueuedNotice
  | [] => []
  | [q] => [{ q with overflow := min 65535 (q.overflow + 1) }]
  | q :: rest => q :: markOverflow rest

/-- Queues one notice, or drops it into the OVERFLOW marking of the newest (R196). -/
def pushNotice (q : List QueuedNotice) (n : Notice) : List QueuedNotice :=
  if q.length < Config.noticeCapacity then q ++ [⟨n, 0⟩] else markOverflow q

/-- The start of an event: nothing driven, no notice of its own yet. -/
def openEvent (s : State) : State := { s with outbox := [], emitted := [] }

/-- The end of an event, or of a part of it that a later part must see: its notices join the queue in order. -/
def closeEvent (s : State) : State := { s with notices := s.outbox.foldl pushNotice s.notices, outbox := [] }

/-- One event of a powered part: `body`, with its notices queued. Without power nothing happens (log 5). -/
def event (body : State → State) (s : State) : State :=
  if s.powered then closeEvent (body (openEvent s)) else openEvent s

/-! ## The path error record -/

/-- An error sets its flag and offers itself to the capture. Where the capture is empty the error fills it and
notice PATH_ERROR is queued (R78, R79). -/
def State.raiseError (s : State) (c : Capture) : State :=
  let flagged := { s with path := { s.path with flags := withFlag s.path.flags c.flag } }
  match s.path.capture with
  | some _ => flagged
  | none => { flagged with path := { flagged.path with capture := some c } }.note (.pathError c.flag)

/-! ## The system port -/

/-- Sends a response without data (R7). -/
def State.respond (s : State) (source : BitVec 3) (tid : Tid) (st : SysStatus) : State :=
  s.emit (.response source tid st)

/-- A tid becomes outstanding for its source (R4). -/
def State.takeTid (s : State) (src : Source) (tid : Tid) : State := { s with tids := (src, tid) :: s.tids }

/-- A tid stops being outstanding for its source (R4). -/
def State.freeTid (s : State) (src : Source) (tid : Tid) : State :=
  { s with tids := s.tids.filter (fun x => x != (src, tid)) }

/-- The next value of the order counter, and the state that has given it. -/
def State.nextSeq (s : State) : State := { s with seq := s.seq + 1 }

/-- Whether the system port judges requests by R8: the part is in RUN or ENTERING and no reset is in progress (R9). -/
def State.accepting (s : State) : Bool :=
  (s.power == .run || s.power == .entering) && s.resetRec.progress.isNone

/-! ## Prefetch lines and memory requests -/

/-- A memory request whose consumer is gone stays outstanding, and its outcome will be dropped (R71, R80). -/
def State.dropRequest (s : State) (t : MemTid) : State :=
  match s.memTid t with
  | .outstanding r => s.setMemTid t (.outstanding { r with consumer := .discarded })
  | _ => s

/-- Invalidates one line (R73). A FILLING line returns to FREE; a VALID line with no delivery returns to FREE; a
VALID line with deliveries is marked for discard. -/
def State.invalidateLine (s : State) (i : Fin 8) : State :=
  match s.line i with
  | none => s
  | some l =>
    match l.state with
    | .filling none => s.setLine i none
    | .filling (some t) => (s.dropRequest t).setLine i none
    | .valid filled us deliveries _ data =>
      if deliveries = 0 then s.setLine i none
      else s.setLine i (some { l with state := .valid filled us deliveries true data })

/-- Invalidates every line that meets a condition, in line order. -/
def State.invalidateLines (s : State) (p : Line → Bool) : State :=
  (List.finRange 8).foldl (fun s i => if (s.line i).any p then s.invalidateLine i else s) s

/-- The memory address of the chunk a line holds. -/
def State.lineAddr (s : State) (l : Line) : Nat := ((s.window l.window.index).memAt l.chunk).toNat

/-- Does a posted write overlap a memory range, byte masks aside (R57)? -/
def PwqEntry.overlapsRange (e : PwqEntry) (a n : Nat) : Bool := overlaps e.memAddr.toNat (32 * e.length) a n

/-- The memory range of a locked chunk of a channel, if it holds a lock (R184). -/
def State.lockedAddr (s : State) (c : ChannelId) : Option Nat :=
  match (s.chan c).lock, (s.chan c).job with
  | some off, some j => some ((s.window j.window.index).memAt off).toNat
  | _, _ => none

/-- Does a memory range overlap a chunk locked by a re-key (R65, R184)? -/
def State.chunkLocked (s : State) (a n : Nat) : Bool :=
  (List.finRange 2).any (fun c => (s.lockedAddr c).any (fun b => overlaps a n b 256))

/-! ## Windows -/

/-- The window that holds a system address (R20). -/
def State.findWindow (s : State) (a : Addr) : Option WindowIdx :=
  (List.finRange 16).find? (fun i => (s.window i).live && (s.window i).holdsSys a)

/-- The alias check: does a memory address fall in the memory range of a window that is not FREE (R11, R22)? -/
def State.aliased (s : State) (a : Addr) : Bool :=
  (List.finRange 16).any (fun i => (s.window i).live && (s.window i).holdsMem a)

/-- The key a window's spare slot holds, while it holds one (R37, R45). -/
def State.spareKey (s : State) (i : WindowIdx) : Option KeyRef :=
  s.keys.spares.toList.findSome? (fun x => match x with
    | .holding j k => if j = i then some k else none
    | _ => none)

/-- The key under which a unit of a window is encrypted or decrypted (R45): the new key below the cursor while the
window holds two, the current key otherwise. -/
def State.selectKey (s : State) (i : WindowIdx) (offset : Nat) : Option KeyRef :=
  match s.spareKey i with
  | some k => if offset < (s.window i).cursor then some k else s.keys.slots[i]
  | none => s.keys.slots[i]

/-- The spare slots with those that serve a window freed (R34, R37). -/
def freeSpares (i : WindowIdx) (spares : Vector Spare 2) : Vector Spare 2 :=
  mapVec (fun x => match x with
    | .free => .free
    | .reserved j => if j = i then .free else x
    | .holding j _ => if j = i then .free else x) spares

/-- Destroys a window's key, and its spare key with it, and frees the spare slot (R34, R36). -/
def State.destroyKeys (s : State) (i : WindowIdx) : State :=
  { s with keys := { slots := s.keys.slots.set i none, spares := freeSpares i s.keys.spares } }

/-- A window becomes FREE, and WINDOW_FREE is queued (R34, R181, R190). -/
def State.freeWindow (s : State) (i : WindowIdx) (incomplete : Bool) : State :=
  (s.setWindow i (s.window i).freed).note (.windowFree ((s.window i).ref i) incomplete)

/-! ## The management port -/

/-- Makes the response of a judged command the held one (R194). -/
def State.answer (s : State) (code : Nat) (status : Status) (data : RespData) : State :=
  { s with held := some ⟨.ofNat 8 code, status, data⟩ }

/-- An answer without data. -/
def State.answerStatus (s : State) (code : Nat) (status : Status) : State := s.answer code status .empty

end Sys2Proof.Machine
end

