-- ==== Sys2Proof/Machine/Cipher.lean ====
section
/-! DEFINITION. The line cipher's use: units of a beat, encryption under a key and a window offset, the treatment of an
accepted write, and the merge of partial units (R44 to R54). -/

namespace Sys2Proof.Machine

/-- One unit encrypted under a key and its window offset (R44). -/
def encryptUnit (key : Option KeyRef) (offset : Nat) (u : CipherUnit) : CipherUnit :=
  Config.lineCipher (Config.keyValue key) offset u

/-- One unit decrypted under a key and its window offset (R44). -/
def decryptUnit (key : Option KeyRef) (offset : Nat) (u : CipherUnit) : CipherUnit :=
  (Config.lineCipher (Config.keyValue key) offset).symm u

/-- The low unit of a beat. -/
def lowUnit (b : Beat) : CipherUnit := b.extractLsb' 0 128

/-- The high unit of a beat. -/
def highUnit (b : Beat) : CipherUnit := b.extractLsb' 128 128

/-- The beat of two units. -/
def joinUnits (high low : CipherUnit) : Beat := high ++ low

/-- The low unit's share of a byte mask. -/
def lowMask (m : BitVec 32) : BitVec 16 := m.extractLsb' 0 16

/-- The high unit's share of a byte mask. -/
def highMask (m : BitVec 32) : BitVec 16 := m.extractLsb' 16 16

/-- The mask of two units. -/
def joinMasks (high low : BitVec 16) : BitVec 32 := high ++ low

/-- A function of offset and unit applied to the two units of each beat of a run that starts at an offset. -/
def mapUnits (f : Nat → CipherUnit → CipherUnit) : Nat → List Beat → List Beat
  | _, [] => []
  | off, b :: bs => joinUnits (f (off + 16) (highUnit b)) (f off (lowUnit b)) :: mapUnits f (off + 32) bs

/-- The beats of a window decrypted, each unit under the key its offset selects at this moment (R45, R46). -/
def State.decryptBeats (s : State) (i : WindowIdx) (offset : Nat) (beats : List Beat) : List Beat :=
  mapUnits (fun off u => decryptUnit (s.selectKey i off) off u) offset beats

/-- A unit is full, partial or empty by its mask bits (R49). -/
def maskFull (m : BitVec 16) : Bool := m == BitVec.allOnes 16

/-- Neither all nor none of the unit's mask bits are set (R49). -/
def maskPartial (m : BitVec 16) : Bool := m != 0 && m != BitVec.allOnes 16

/-- The treatment of one unit of an ENCRYPT write at acceptance (R49): a full unit is encrypted, a partial unit is
kept as plaintext, an empty unit is kept only as a clear mask. -/
def treatUnit (key : Option KeyRef) (offset : Nat) (m : BitVec 16) (u : CipherUnit) : CipherUnit :=
  if maskFull m then encryptUnit key offset u
  else if m == 0 then Config.unusedUnit offset
  else u

/-- The treatment of the beats of an ENCRYPT write (R49). -/
def treatBeats (key : Option KeyRef) : Nat → List QueuedBeat → List QueuedBeat
  | _, [] => []
  | off, b :: bs =>
    { b with data := joinUnits (treatUnit key (off + 16) (highMask b.mask) (highUnit b.data))
                       (treatUnit key off (lowMask b.mask) (lowUnit b.data)) } :: treatBeats key (off + 32) bs

/-- The window offsets of the partial units of a write (R47, R49). -/
def partialUnits : Nat → List QueuedBeat → List Nat
  | _, [] => []
  | off, b :: bs =>
    (if maskPartial (lowMask b.mask) then [off] else []) ++ (if maskPartial (highMask b.mask) then [off + 16] else [])
      ++ partialUnits (off + 32) bs

/-- The bytes of a unit whose mask bits are set, as a mask of 128 bits. -/
def byteMask (m : BitVec 16) : Nat → CipherUnit
  | 0 => 0
  | n + 1 => (if m.getLsbD n then BitVec.ofNat 128 255 <<< (8 * n) else 0) ||| byteMask m n

/-- The new bytes where the mask is set, the old bytes elsewhere (R53). -/
def mergeUnit (m : BitVec 16) (new old : CipherUnit) : CipherUnit :=
  (new &&& byteMask m 16) ||| (old &&& ~~~ byteMask m 16)

/-- One unit of an entry completed from the stored unit, where it is partial (R53). -/
def completeUnit (key : Option KeyRef) (offset : Nat) (m : BitVec 16) (u stored : CipherUnit) : CipherUnit :=
  if maskPartial m then encryptUnit key offset (mergeUnit m u (decryptUnit key offset stored)) else u

/-- The mask of a unit after the merge: a partial unit is written whole (R53). -/
def completeMask (m : BitVec 16) : BitVec 16 := if maskPartial m then BitVec.allOnes 16 else m

/-- The beats of an entry merged with the stored beats at the same offsets (R53). `stored` gives the returned beat of
a window offset. -/
def mergeBeats (key : Option KeyRef) (stored : Nat → Beat) : Nat → List QueuedBeat → List QueuedBeat
  | _, [] => []
  | off, b :: bs =>
    { data := joinUnits (completeUnit key (off + 16) (highMask b.mask) (highUnit b.data) (highUnit (stored off)))
        (completeUnit key off (lowMask b.mask) (lowUnit b.data) (lowUnit (stored off)))
      mask := joinMasks (completeMask (highMask b.mask)) (completeMask (lowMask b.mask)) }
      :: mergeBeats key stored (off + 32) bs

/-- The sum of the pixel levels of a beat's first `n` pixels, two bits each, low bits first (R93, 12.1). -/
def levelSumTo (b : Beat) : Nat → Nat
  | 0 => 0
  | n + 1 => (b.extractLsb' (2 * n) 2).toNat + levelSumTo b n

/-- The level sum of a beat, 0 to 384 (R93). -/
def levelSum (b : Beat) : Nat := levelSumTo b 128

end Sys2Proof.Machine
end

