-- ==== Sys2Proof/Machine/Charge.lean ====
section
/-! DEFINITION. The charge unit: the arithmetic of chapter 6, on whole numbers, with the rounding each rule names. -/

namespace Sys2Proof.Machine

/-- The page area in pixels of one plane (R108). -/
def areaOf (bytesPerLine lines : Nat) : Nat := lines * bytesPerLine * 4

/-- The size class of an area under the large-page threshold; equality gives SMALL (R108). -/
def sizeClassOf (area aLarge : Nat) : SizeClass := if aLarge < area then .large else .small

/-- The MONO base units of a size class (R109). -/
def Settings.baseMono (c : Settings) : SizeClass → Nat
  | .small => c.baseMonoSmall
  | .large => c.baseMonoLarge

/-- The COLOR base units of a size class (R109). -/
def Settings.baseColor (c : Settings) : SizeClass → Nat
  | .small => c.baseColorSmall
  | .large => c.baseColorLarge

/-- The base units of the worst class a page may end in (R109). -/
def worstBase (mono : Nat) (color : Option Nat) : Nat :=
  match color with
  | some c => max mono c
  | none => mono

/-- The reservation of a page (R109). -/
def reservationOf (mono : Nat) (color : Option Nat) : Nat := 4 * worstBase mono color

/-- The coverage of a plane in basis points (R110). -/
def coverageOf (area dots : Nat) : Nat := dots * 10000 / (3 * area)

/-- The toner draw of a plane: ceil(dots × factor / 65536) (R114). -/
def drawOf (dots factor : Nat) : Nat := (dots * factor + 65535) / 65536

/-- The area of a page, recomputed from its geometry (R108). -/
def Page.area (p : Page) : Nat := areaOf p.bytesPerLine p.lines

/-- The coverage of each plane present (R110). -/
def Page.coverages (p : Page) : List (Colour × Nat) := p.planes.map (fun pl => (pl.colour, coverageOf p.area pl.dots))

/-- The colour part of a page is COLOR: it has 4 planes and one of C, M and Y reaches the threshold (R111). -/
def Page.isColor (p : Page) (tColor : Nat) : Bool :=
  decide (p.planes.length = 4) && p.coverages.any (fun x => decide (x.1 ≠ 3) && decide (tColor ≤ x.2))

/-- The class of a size class and a colour part (R111). -/
def classOf (size : SizeClass) (color : Bool) : PageClass :=
  match size, color with
  | .small, false => .monoSmall
  | .large, false => .monoLarge
  | .small, true => .colorSmall
  | .large, true => .colorLarge

/-- The coverage sum (R112). -/
def Page.coverageSum (p : Page) : Nat := (p.coverages.map (·.2)).sum

/-- The excess over the free coverage, clamped at 30000 (R112). -/
def excessOf (sum cFree : Nat) : Nat := min 30000 (sum - cFree)

/-- The charge of a base and an excess (R113). -/
def chargeOf (base excess : Nat) : Nat := base + base * excess / 10000

/-- What the charge unit hands on: the class and the charge (R107). -/
structure ChargeResult where
  cls : PageClass
  charge : Nat
deriving DecidableEq, Repr

/-- The class and the charge of a page that ends, by the steps of R116. -/
def Page.charge (p : Page) (c : Settings) : ChargeResult :=
  let color := p.isColor c.tColor
  let base := if color then p.baseColor.getD 0 else p.baseMono
  { cls := classOf p.size color, charge := chargeOf base (excessOf p.coverageSum c.cFree) }

/-- The draw factor recorded in a draw basis (R88, R114). -/
def DrawBasis.factor : DrawBasis → Nat
  | .genuine _ k => k
  | .foreign k => k

/-- The toner draw of a plane under its draw basis; a plane without a basis has drawn nothing (R88, R114). -/
def Plane.draw (pl : Plane) : Nat :=
  match pl.basis with
  | some b => drawOf pl.dots b.factor
  | none => 0

/-- The foreign flag of a page: some plane's draw basis is FOREIGN (R96). -/
def Page.foreignFlag (p : Page) : Bool :=
  p.planes.any (fun pl => match pl.basis with
    | some (.foreign _) => true
    | _ => false)

/-- A counter raised by 1, saturating (R128, R129). -/
def bump (n : Nat) : Nat := min Config.counterMax (n + 1)

/-- The counters with that of a page class raised (R128). -/
def Counters.raiseClass (c : Counters) (k : PageClass) : Counters :=
  match k with
  | .monoSmall => { c with monoSmall := bump c.monoSmall }
  | .monoLarge => { c with monoLarge := bump c.monoLarge }
  | .colorSmall => { c with colorSmall := bump c.colorSmall }
  | .colorLarge => { c with colorLarge := bump c.colorLarge }

/-- The counters with the foreign pages raised where the flag is set (R128). -/
def Counters.raiseForeign (c : Counters) (foreign : Bool) : Counters :=
  if foreign then { c with foreign := bump c.foreign } else c

/-- The counters with the cancelled pages raised where the page was cancelled (R128). -/
def Counters.raiseCancelled (c : Counters) (cancelled : Bool) : Counters :=
  if cancelled then { c with cancelled := bump c.cancelled } else c

/-- The counters with the scan pages raised (R103). -/
def Counters.raiseScan (c : Counters) : Counters := { c with scan := bump c.scan }

/-- The counters as the end of a charged page raises them (R128). -/
def Counters.raisePage (c : Counters) (k : PageClass) (foreign cancelled : Bool) : Counters :=
  ((c.raiseClass k).raiseForeign foreign).raiseCancelled cancelled

/-- The account as a charged page leaves it (R127, R128): the reservation released, the charge added with saturation,
the counters raised. -/
def Account.settle (a : Account) (reservation charge : Nat) (k : PageClass) (foreign cancelled : Bool) : Account :=
  { a with
    reserved := a.reserved - reservation
    used := min Config.usedMax (a.used + charge)
    counters := a.counters.raisePage k foreign cancelled }

/-- The account table can make a reservation (R126). -/
def Account.canReserve (a : Account) (reservation : Nat) : Bool :=
  match a.limit with
  | none => true
  | some l => decide (reservation = 0) || decide (a.used + a.reserved + reservation ≤ l)

end Sys2Proof.Machine
end

