-- ==== Sys2Proof/Machine/Commit.lean ====
section
/-! DEFINITION. The nonvolatile commit: snapshot, triggers, end and restore (R131 to R136). -/

namespace Sys2Proof.Machine

/-- The content of a bank. -/
def NvStore.bank (nv : NvStore) : BankId → Bank
  | .a => nv.bankA
  | .b => nv.bankB

/-- The store with the content of a bank replaced. -/
def NvStore.setBank (nv : NvStore) (k : BankId) (x : Bank) : NvStore :=
  match k with
  | .a => { nv with bankA := x }
  | .b => { nv with bankB := x }

/-- The newest valid snapshot and its bank (R131). With both banks valid the newer is the one whose number follows
the other's by one (log 18). -/
def NvStore.newest (nv : NvStore) : Option (BankId × Snapshot) :=
  match nv.bankA, nv.bankB with
  | .holds x, .holds y => if y.number = x.number + 1 then some (.b, y) else some (.a, x)
  | .holds x, _ => some (.a, x)
  | _, .holds y => some (.b, y)
  | _, _ => none

/-- The bank a commit writes: the one that does not hold the newest snapshot (R133; bank A where none is valid,
log 18). -/
def NvStore.target (nv : NvStore) : BankId :=
  match nv.newest with
  | some (.a, _) => .b
  | _ => .a

/-- The number of the next commit (R133). -/
def NvStore.nextNumber (nv : NvStore) : BitVec 32 :=
  match nv.newest with
  | some (_, x) => x.number + 1
  | none => 0

/-- An account slot as saved, less its reserved units (R131, R133). -/
def Account.save (a : Account) : SavedAccount := ⟨a.state, a.id, a.limit, a.used, a.counters⟩

/-- An account slot as restored, with reserved units 0 (R136). -/
def SavedAccount.restore (a : SavedAccount) : Account := ⟨a.state, a.id, a.limit, a.used, 0, a.counters⟩

/-- The debt of a slot as saved: its serial and P when it is GENUINE with P above 0 (R174). -/
def debtOf (x : Slot) (g : Gauge) : Option CarryEntry :=
  match x.state with
  | .genuine r => if 0 < g.pending then some ⟨r.serial, g.pending⟩ else none
  | _ => none

/-- The copy a commit takes at its start (R131, R133, R174). -/
def State.snapshot (s : State) : Snapshot :=
  { number := s.nv.nextNumber
    meter := s.meter
    accounts := mapVec Account.save s.accounts
    debits := mapVec (fun k => debtOf (s.slot k) (s.gauge k)) ⟨#[0, 1, 2, 3], rfl⟩
    carry := s.carry }

/-- A commit starts (R133): the copy is taken, the pages-since-commit count becomes 0, and the target bank no longer
holds content with a correct check until it is verified (R134). -/
def State.startCommit (s : State) (causes : BitVec 5) : State :=
  let job : CommitJob := ⟨s.snapshot, causes, s.commit.since, s.nv.target⟩
  { s with
    commit := { s.commit with inFlight := some job, since := 0 }
    nv := s.nv.setBank s.nv.target .badCheck }

/-- A trigger of a commit: it starts one, or is remembered while one is in flight (R132, R133). -/
def State.triggerCommit (s : State) (c : Cause) : State :=
  match s.commit.inFlight with
  | none => s.startCommit c.bits
  | some _ => { s with commit := { s.commit with remembered := some (s.commit.remembered.getD 0 ||| c.bits) } }

/-- The pages-since-commit count is raised, and triggers a commit at the interval (R132). -/
def State.raiseSince (s : State) : State :=
  let n := min Config.sinceMax (s.commit.since + 1)
  let s' := { s with commit := { s.commit with since := n } }
  if s.settings.commitInterval ≤ n then s'.triggerCommit .interval else s'

/-- The remembered commit starts as the commit in flight has ended (R133). -/
def State.startRemembered (s : State) : State :=
  match s.commit.remembered with
  | some causes => { s with commit := { s.commit with remembered := none } }.startCommit causes
  | none => s

/-- The bank was written and verified (R134). -/
def State.commitDone (s : State) : State :=
  match s.commit.inFlight with
  | none => s
  | some j =>
    ({ s with
      nv := s.nv.setBank j.bank (.holds j.snapshot)
      commit := { s.commit with inFlight := none, last := some .done } }.note
        (.commitDone j.snapshot.number j.causes)).startRemembered

/-- The store reported a write error, or 8 ms passed (R134): the bank is blank, and the count takes back what the
failed commit had found. -/
def State.commitFailed (s : State) : State :=
  match s.commit.inFlight with
  | none => s
  | some j =>
    ({ s with
      nv := s.nv.setBank j.bank .blank
      commit := { s.commit with
        inFlight := none
        last := some .failed
        since := min Config.sinceMax (s.commit.since + j.foundSince) } }.note
        (.commitFailed j.snapshot.number j.causes)).startRemembered

/-- The answer of METER_READ for a set of counters (R130). With no valid bank there is no commit number (log 22). -/
def State.meterView (s : State) (c : Counters) : MeterView :=
  { counters := c
    inFlight := s.commit.inFlight.map (·.causes)
    remembered := s.commit.remembered
    since := s.commit.since
    newest := s.nv.newest.map (·.2.number)
    last := s.commit.last
    restore := s.commit.restore }

end Sys2Proof.Machine
end

