-- ==== Sys2Proof/Machine/Gauge.lean ====
section
/-! DEFINITION. Admission of pages (R88, R89), the end of a sleep entry (R205), the toner gauge (chapter 9), and the one
operation by which a cartridge slot changes state (R151). -/

namespace Sys2Proof.Machine

/-! ## Admission -/

/-- A cartridge slot is admitting (R88). -/
def State.slotAdmitting (s : State) (k : Colour) : Bool :=
  match (s.slot k).state with
  | .genuine _ => decide (0 < (s.gauge k).remaining)
  | .foreign _ => decide (0 < (s.gauge k).remaining) && s.settings.policy == .permissive
  | _ => false

/-- Every slot the page uses is admitting (R88). -/
def State.pageAdmissible (s : State) (p : Page) : Bool := p.planes.all (fun pl => s.slotAdmitting pl.colour)

/-- The draw basis of a slot at an entry into ADMITTED (R88). -/
def State.basisOf (s : State) (k : Colour) : Option DrawBasis :=
  match (s.slot k).state with
  | .genuine r => some (.genuine r.serial r.factor.toNat)
  | .foreign _ => some (.foreign s.settings.foreignDraw)
  | _ => none

/-- A page as it enters ADMITTED, with its draw basis recorded afresh (R88). -/
def State.enterAdmitted (s : State) (p : Page) : Page :=
  { p with state := .admitted, planes := p.planes.map (fun pl => { pl with basis := s.basisOf pl.colour }) }

/-- Admission is held back while the part enters SLEEP, sleeps or wakes (R89, R106, log 23). -/
def State.holdsAdmission (s : State) : Bool := s.power != .run

/-- One page re-judged (R89). -/
def State.rejudgePage (s : State) (p : Page) : Page :=
  match p.state with
  | .waiting => if s.pageAdmissible p && !s.holdsAdmission then s.enterAdmitted p else p
  | .admitted => if s.pageAdmissible p then p else { p with state := .waiting }
  | .printing => p

/-- Every WAITING and ADMITTED page re-judged (R89). -/
def State.rejudge (s : State) : State := { s with pages := mapVec (Option.map s.rejudgePage) s.pages }

/-- The entry into SLEEP is ended with the part back in RUN (R205): the notice is queued and the pages re-judged. -/
def State.abortEntry (s : State) (c : AbortCause) : State :=
  if s.power == .entering then ({ s with power := .run }.note (.sleepAborted c)).rejudge else s

/-! ## The carry list -/

/-- The carry list with an amount added under a serial that has an entry (R170). -/
def addToEntry (serial : Serial) (amount : Nat) : List CarryEntry → List CarryEntry
  | [] => []
  | e :: rest =>
    if e.serial = serial then { e with amount := min Config.counterMax (e.amount + amount) } :: rest
    else e :: addToEntry serial amount rest

/-- An amount is added to the carry list under a serial (R170). The oldest entry of a full list is dropped first,
with its notice. -/
def State.carryAdd (s : State) (serial : Serial) (amount : Nat) : State :=
  if amount = 0 then s
  else if s.carry.any (fun e => e.serial == serial) then { s with carry := addToEntry serial amount s.carry }
  else
    match s.carry with
    | oldest :: rest =>
      if s.carry.length < Config.carryCapacity then { s with carry := s.carry ++ [⟨serial, amount⟩] }
      else { s.noteDropped oldest with carry := rest ++ [⟨serial, amount⟩] }
    | [] => { s with carry := [⟨serial, amount⟩] }

/-- The amount the carry list holds under a serial, 0 for none (R162). -/
def carryAmount (carry : List CarryEntry) (serial : Serial) : Nat :=
  match carry.find? (fun e => e.serial == serial) with
  | some e => e.amount
  | none => 0

/-! ## Depletion and the low mark -/

/-- The slot is GENUINE or FOREIGN with remaining toner 0 (R140, R157). -/
def State.depleted (s : State) (k : Colour) : Bool :=
  match (s.slot k).state with
  | .genuine _ => decide ((s.gauge k).remaining = 0)
  | .foreign _ => decide ((s.gauge k).remaining = 0)
  | _ => false

/-- The capacity against which the low mark of a slot is taken (R173). Of a slot already FOREIGN it is the foreign capacity
setting now in force, not that of its entry (log 46). -/
def State.capacity (s : State) (k : Colour) : Option Nat :=
  match (s.slot k).state with
  | .genuine r => some r.rated.toNat
  | .foreign _ => some s.settings.foreignCapacity
  | _ => none

/-- The low mark of a slot: the capacity by the low-mark setting, rounded down (R173). -/
def State.lowMarkOf (s : State) (k : Colour) : Nat :=
  match s.capacity k with
  | some c => c * s.settings.lowMark / 100
  | none => 0

/-- The low-mark check (R173). -/
def State.lowMarkCheck (s : State) (k : Colour) : State :=
  match s.capacity k, (s.slot k).state.record with
  | some cap, some r =>
    if (s.gauge k).remaining ≤ s.lowMarkOf k ∧ (s.gauge k).lowSerial = none then
      (s.setGauge k { s.gauge k with lowSerial := some r.serial }).note
        (.cartLow k r.serial (s.gauge k).remaining cap)
    else s
  | _, _ => s

/-- The notice of a change of the depleted condition without a change of state (R172). -/
def State.noteDepletion (s : State) (k : Colour) (reason : Reason) : State :=
  let x := (s.slot k).state
  s.note (.cartState k x.code x.code reason (x.record.map (·.serial)) (s.depleted k))

/-- Remaining changes within GENUINE or FOREIGN (R161, R172, R173): the pages are re-judged, a change of the depleted
condition is reported, and the low mark is checked. -/
def State.setRemaining (s : State) (k : Colour) (value : Nat) : State :=
  let old := (s.gauge k).remaining
  if value = old then s
  else
    let s1 := (s.setGauge k { s.gauge k with remaining := value }).rejudge
    let s2 :=
      if value = 0 then s1.noteDepletion k .depleted
      else if old = 0 then s1.noteDepletion k .restocked
      else s1
    s2.lowMarkCheck k

/-! ## Postings -/

/-- The cartridge key of a slot's record, from the master key held at this moment (R149, R165). -/
def State.cartKey (s : State) (r : Record) : BitVec 256 := Config.deriveKey s.nv.root.masterKey r.serial

/-- A DEBIT message at attempt 1 with amount P and the sequence one above the slot's (R165, R167), its posting
recorded with an SEQ_ERROR count. -/
def State.sendDebit (s : State) (k : Colour) (r : Record) (errors : Nat) : State :=
  let g := s.gauge k
  let seq := g.sequence + 1
  let tag := Config.proofTag (s.cartKey r) (.debitRequest (BitVec.ofNat 32 g.pending) seq r.serial)
  (s.setGauge k { g with posting := some ⟨g.pending, seq, errors⟩ }).setSlot k
    { s.slot k with message := some ⟨.debit g.pending seq tag, 1, .sending⟩ }

/-- A posting begins where one is due: the slot is GENUINE with P above 0, its link has no message in flight and the
part is not in SLEEP (R165). -/
def State.postIfDue (s : State) (k : Colour) : State :=
  match (s.slot k).state, (s.slot k).message with
  | .genuine r, none => if 0 < (s.gauge k).pending ∧ s.power ≠ .sleep then s.sendDebit k r 0 else s
  | _, _ => s

/-! ## Entry and departure -/

/-- The gauge is told that a slot leaves its state (R163): P goes to the carry list, and the gauge is cleared but for
the low-mark serial. -/
def State.departGauge (s : State) (k : Colour) : State :=
  match (s.slot k).state with
  | .genuine r =>
    let g := s.gauge k
    (s.carryAdd r.serial g.pending).setGauge k { lowSerial := g.lowSerial }
  | .foreign _ => s.setGauge k { lowSerial := (s.gauge k).lowSerial }
  | _ => s

/-- The low-mark serial as an entry leaves it: none when it differs from the cartridge's (R162, R171). -/
def keptLowSerial (old : Option Serial) (serial : Serial) : Option Serial :=
  if old = some serial then old else none

/-- The gauge at entry into a state (R162, R171). -/
def State.enterGauge (s : State) (k : Colour) (x : SlotState) : State :=
  match x with
  | .genuine r =>
    let p := carryAmount s.carry r.serial
    let l := r.remaining.toNat
    { s with carry := s.carry.filter (fun e => e.serial != r.serial) }.setGauge k
      { remaining := l - p
        pending := p
        acked := l
        sequence := r.sequence
        posting := none
        lowSerial := keptLowSerial (s.gauge k).lowSerial r.serial }
  | .foreign r =>
    s.setGauge k
      { remaining := s.settings.foreignCapacity
        lowSerial := keptLowSerial (s.gauge k).lowSerial r.serial }
  | _ => s

/-- A cartridge slot changes state (R151). In this order: the departure from GENUINE or FOREIGN, the new state with its
message, the entry of the gauge, the re-judgement of the pages, CART_STATE, the low-mark check, and a posting where
one is due. -/
def State.changeSlot (s : State) (k : Colour) (x : SlotState) (reason : Reason) (m : Option Message) : State :=
  let before := (s.slot k).state
  let s1 := s.departGauge k
  let s2 := s1.setSlot k { s1.slot k with state := x, message := m, lastReason := some reason }
  let s3 := (s2.enterGauge k x).rejudge
  let s4 := s3.note (.cartState k before.code x.code reason (x.record.map (·.serial)) (s3.depleted k))
  (s4.lowMarkCheck k).postIfDue k

/-- The state of a refused proof, or of a refused DEBIT, under the policy in force (R147, R149, R168). -/
def refusedState (p : Policy) (r : Record) : SlotState :=
  match p with
  | .strict => .rejected (some r)
  | .permissive => .foreign r

/-! ## Draws -/

/-- One plane's draw is taken (R164). A draw of 0 is not handed to the gauge. -/
def State.takeDraw (s : State) (k : Colour) (basis : Option DrawBasis) (draw : Nat) : State :=
  if draw = 0 then s
  else
    match basis, (s.slot k).state with
    | some (.genuine serial _), .genuine r =>
      if r.serial = serial then
        let g := s.gauge k
        let s1 := s.setGauge k { g with pending := min Config.counterMax (g.pending + draw) }
        (s1.setRemaining k (g.remaining - draw)).postIfDue k
      else s.carryAdd serial draw
    | some (.genuine serial _), _ => s.carryAdd serial draw
    | some (.foreign _), .foreign _ => s.setRemaining k ((s.gauge k).remaining - draw)
    | _, _ => s

/-- The draws of a page, each in turn (R164), in the order of its planes C, M, Y, K, which R164 leaves open (log 29). -/
def State.takeDraws (s : State) (planes : List Plane) : State :=
  planes.foldl (fun s pl => s.takeDraw pl.colour pl.basis pl.draw) s

end Sys2Proof.Machine
end

