-- ==== Sys2Proof/Machine/Formats.lean ====
section
/-! DEFINITION. The layouts of chapter 12: responses and notices of the management port as bytes (R194, R208, R209, 12.3,
12.5), and the cartridge frames with their CRC-8 (R142, R210, 12.4). Layout choices that R208 leaves are in log 22. -/

namespace Sys2Proof.Machine

/-! ## Small encodings (R208) -/

/-- One byte. -/
def byte1 (n : Nat) : List Byte := leBytes 1 n

/-- A yes or no mark. -/
def mark (x : Bool) : List Byte := byte1 x.toNat

/-- A value or none, all ones in its width (R208). -/
def orOnes (n : Nat) (x : Option Nat) : List Byte :=
  match x with
  | some v => leBytes n v
  | none => List.replicate n (BitVec.allOnes 8)

/-- A serial that may be none: a present byte and 8 bytes, which with no serial are all ones as any value that may be
none (R208, log 22). -/
def serialOrNone (x : Option Serial) : List Byte :=
  byte1 x.isSome.toNat ++ orOnes 8 (x.map (·.toNat))

/-- A set of the four slots as a bit field, slot 0 in bit 0 (R208). -/
def slotSet (xs : List Colour) : Nat :=
  ((List.finRange 4).map (fun k => if xs.contains k then 2 ^ k.val else 0)).sum

def Status.byte : Status → Nat
  | .ok => 0
  | .busy => 1
  | .badCommand => 2
  | .badArgument => 3
  | .noRoom => 4
  | .notFound => 5
  | .state => 6
  | .quota => 7
  | .overlap => 8
  | .belowUsed => 9
  | .locked => 10

def WindowState.byte : WindowState → Nat
  | .free => 0
  | .opened => 1
  | .sealed => 2
  | .retiring _ => 3

def WindowState.phaseByte : WindowState → Nat
  | .retiring .erasing => 1
  | _ => 0

def WindowKind.byte : WindowKind → Nat
  | .scan => 0
  | .print => 1
  | .work => 2

def Mode.byte : Mode → Nat
  | .noAccess => 0
  | .cipher => 1
  | .read => 2
  | .readWrite => 3

def Pattern.byte : Pattern → Nat
  | .zero => 0
  | .ones => 1
  | .random => 2

def PageState.byte : PageState → Nat
  | .waiting => 0
  | .admitted => 1
  | .printing => 2

def SizeClass.byte : SizeClass → Nat
  | .small => 0
  | .large => 1

def PageClass.byte : PageClass → Nat
  | .monoSmall => 0
  | .monoLarge => 1
  | .colorSmall => 2
  | .colorLarge => 3

def AccountState.byte : AccountState → Nat
  | .unused => 0
  | .active => 1
  | .suspended => 2

def SlotCode.byte : SlotCode → Nat
  | .absent => 0
  | .probing => 1
  | .proving => 2
  | .genuine => 3
  | .foreign => 4
  | .rejected => 5
  | .mute => 6

def Presence.byte : Presence → Nat
  | .notPresent => 0
  | .settling => 1
  | .present => 2

/-- The reason codes (R209). -/
def Reason.byte : Reason → Nat
  | .inserted => 0
  | .removed => 1
  | .identified => 2
  | .colourMismatch => 3
  | .badRecord => 4
  | .notProvisioned => 5
  | .proved => 6
  | .proofFailed => 7
  | .noReply => 8
  | .reprobe => 9
  | .policy => 10
  | .wake => 11
  | .depleted => 12
  | .restocked => 13
  | .debitSequence => 14
  | .debitTag => 15
  | .debitNoReply => 16

def MessageName.byte : MessageName → Nat
  | .hello => 0
  | .prove => 1
  | .debit => 2

def ChannelState.byte : ChannelState → Nat
  | .idle => 0
  | .running => 1
  | .suspended => 2
  | .failed => 3

def Step.byte : Step → Nat
  | .waiting => 0
  | .reading => 1
  | .writing => 2
  | .ready => 3

def JobKind.byte : JobKind → Nat
  | .erase _ => 0
  | .rekey => 1

def JobKind.passes : JobKind → List Pattern
  | .erase ps => ps
  | .rekey => []

def MemOp.byte : MemOp → Nat
  | .read => 0
  | .write => 1

def FailCause.byte : FailCause → Nat
  | .memError => 0
  | .memTimeout => 1
  | .rdataParity => 2

def CommitResult.byte : CommitResult → Nat
  | .done => 0
  | .failed => 1

def RestoreResult.byte : RestoreResult → Nat
  | .restored => 0
  | .blank => 1

def LoadResult.byte : LoadResult → Nat
  | .stored => 0
  | .defaults => 1

def ResetKind.byte : ResetKind → Nat
  | .powerOn => 0
  | .linkReset => 1
  | .command => 2

def PowerState.byte : PowerState → Nat
  | .run => 0
  | .entering => 1
  | .sleep => 2
  | .waking => 3

def ReqKind.byte : ReqKind → Nat
  | .read => 0
  | .write => 1
  | .flush => 2

/-! ## Response data, in the order of each command's rule (R208) -/

def Modes.bytes (m : Modes) : List Byte :=
  byte1 m.cpu.byte ++ byte1 m.scan.byte ++ byte1 m.print.byte ++ byte1 m.image.byte ++ byte1 m.net.byte
    ++ byte1 m.service.byte

def RekeyStatus.bytes : RekeyStatus → List Byte
  | .none => byte1 0
  | .queued => byte1 1
  | .onChannel c x => byte1 2 ++ byte1 c.val ++ byte1 x.byte
  | .twoKey => byte1 3

def ErasePlace.bytes : ErasePlace → List Byte
  | .queued => byte1 0
  | .onChannel c => byte1 1 ++ byte1 c.val

/-- WINDOW_QUERY (R35). The counted-slot set is 8 bytes, a bit for each of up to 64 slots, whatever the slot count
(log 22). -/
def windowBytes (w : Window) (rekey : RekeyStatus) (cursor : Option Nat) (erase : Option ErasePlace) : List Byte :=
  byte1 w.state.byte ++ byte1 w.state.phaseByte ++ byte1 w.kind.byte ++ leBytes 5 w.sysBase.toNat
    ++ leBytes 5 w.memBase.toNat ++ byte1 w.sizeCode.val ++ byte1 w.owner.toNat ++ w.modes.bytes
    ++ leBytes 2 w.generation.toNat
    ++ (match w.kind with
        | .scan => leBytes 4 w.stride ++ byte1 w.slotCount ++ byte1 w.scanAccount.val ++ leBytes 8 w.counted.toNat
        | .print => byte1 w.livePages
        | .work => [])
    ++ rekey.bytes ++ (match cursor with | some c => leBytes 4 c | none => [])
    ++ (match erase with | some e => e.bytes | none => [])

/-- The draw basis of a plane (R82): its cartridge slot, which is the plane's colour, its kind, its draw factor and, of
a GENUINE slot, the serial. -/
def DrawBasis.bytes (slot : Colour) : Option DrawBasis → List Byte
  | some (.genuine serial k) => byte1 slot.val ++ byte1 0 ++ leBytes 2 k ++ serialOrNone (some serial)
  | some (.foreign k) => byte1 slot.val ++ byte1 1 ++ leBytes 2 k ++ serialOrNone none
  | none => []

/-- PAGE_QUERY of one page (R101). -/
def pageBytes (p : Page) (notAdmitting : Option (List Colour)) : List Byte :=
  leBytes 4 p.number.toNat ++ byte1 p.account.val ++ byte1 p.window.index.val ++ leBytes 2 p.window.generation.toNat
    ++ byte1 p.planes.length ++ p.planes.flatMap (fun pl => leBytes 4 pl.offset) ++ leBytes 2 p.bytesPerLine
    ++ leBytes 2 p.lines ++ byte1 p.size.byte ++ leBytes 4 p.reservation ++ byte1 p.state.byte
    ++ p.planes.flatMap (fun pl => leBytes 4 pl.mark ++ leBytes 4 pl.dots)
    ++ (match notAdmitting with | some xs => byte1 (slotSet xs) | none => [])
    ++ p.planes.flatMap (fun pl => DrawBasis.bytes pl.colour pl.basis)

def Counters.bytes (c : Counters) : List Byte :=
  leBytes 4 c.monoSmall ++ leBytes 4 c.monoLarge ++ leBytes 4 c.colorSmall ++ leBytes 4 c.colorLarge ++ leBytes 4 c.scan
    ++ leBytes 4 c.foreign ++ leBytes 4 c.cancelled

/-- ACCOUNT_READ (R125); a limit of UNLIMITED is 0xFFFFFFFF (R207). -/
def accountBytes (a : Account) (livePages : Nat) (scanAccount : Bool) : List Byte :=
  byte1 a.state.byte ++ leBytes 4 a.id.toNat ++ orOnes 4 a.limit ++ leBytes 4 a.used ++ leBytes 4 a.reserved
    ++ a.counters.bytes ++ byte1 livePages ++ mark scanAccount

/-- METER_READ (R130). The causes bytes are always there, 0 with no commit in flight or remembered, and the commit number
is all ones where no bank is valid (log 22). -/
def MeterView.bytes (m : MeterView) : List Byte :=
  m.counters.bytes ++ mark m.inFlight.isSome ++ byte1 ((m.inFlight.getD 0).toNat) ++ mark m.remembered.isSome
    ++ byte1 ((m.remembered.getD 0).toNat) ++ leBytes 2 m.since ++ orOnes 4 (m.newest.map (·.toNat))
    ++ orOnes 1 (m.last.map CommitResult.byte) ++ byte1 m.restore.byte

/-- An identity record or none (R156): the serial with its present byte, then the other fields in the order of R146. -/
def recordBytes (x : Option Record) : List Byte :=
  serialOrNone (x.map (·.serial)) ++ orOnes 2 (x.map (·.model.toNat)) ++ orOnes 1 (x.map (·.colour.toNat))
    ++ orOnes 4 (x.map (·.rated.toNat)) ++ orOnes 2 (x.map (·.factor.toNat)) ++ orOnes 4 (x.map (·.remaining.toNat))
    ++ orOnes 4 (x.map (·.sequence.toNat))

def carryBytes (xs : List CarryEntry) : List Byte := xs.flatMap (fun e => leBytes 8 e.serial.toNat ++ leBytes 4 e.amount)

/-- CART_QUERY (R156, R175). -/
def CartView.bytes (v : CartView) : List Byte :=
  byte1 v.state.byte ++ mark v.line ++ byte1 v.presence.byte
    ++ recordBytes v.record
    ++ orOnes 1 (v.message.map (·.1.byte)) ++ orOnes 1 (v.message.map (·.2)) ++ orOnes 1 (v.lastReason.map Reason.byte)
    ++ byte1 v.policy.code ++ leBytes 4 v.gauge.remaining ++ leBytes 4 v.gauge.pending ++ leBytes 4 v.gauge.acked
    ++ leBytes 4 v.gauge.sequence.toNat
    ++ orOnes 4 (v.gauge.posting.map (·.amount)) ++ orOnes 4 (v.gauge.posting.map (·.sequence.toNat))
    ++ orOnes 1 (v.gauge.posting.map (·.seqErrors))
    ++ mark v.depleted ++ leBytes 4 v.lowMark ++ serialOrNone v.gauge.lowSerial ++ byte1 v.carry.length
    ++ carryBytes v.carry

def Job.bytes (j : Job) : List Byte :=
  byte1 j.kind.byte ++ byte1 j.window.index.val ++ leBytes 2 j.window.generation.toNat

/-- One channel of SCRUB_QUERY (R191). Its absent job is 4 bytes of all ones (log 22). -/
def channelBytes (x : Channel × Option Nat) : List Byte :=
  byte1 x.1.state.byte
    ++ (if x.1.state = .running then byte1 x.1.step.byte ++ mark x.1.suspendReq else [])
    ++ (match x.1.job with
        | none => orOnes 1 none ++ orOnes 1 none ++ orOnes 2 none
        | some j =>
          j.bytes ++ (match j.kind with
            | .erase ps => byte1 ps.length ++ ps.flatMap (fun p => byte1 p.byte) ++ byte1 x.1.pass ++ leBytes 4 x.1.offset
            | .rekey => leBytes 4 (x.2.getD 0) ++ orOnes 4 x.1.lock))
    ++ (match x.1.failure with | some (o, c) => byte1 o.byte ++ byte1 c.byte | none => [])

/-- A spare slot of SCRUB_QUERY (R191): its condition and its window, which is 0xFF for a FREE slot (log 22). -/
def SpareView.bytes : SpareView → List Byte
  | .free => byte1 0 ++ orOnes 1 none
  | .reserved w => byte1 1 ++ byte1 w.val
  | .holding w => byte1 2 ++ byte1 w.val

/-- SCRUB_QUERY (R191). -/
def ScrubView.bytes (v : ScrubView) : List Byte :=
  v.chans.flatMap channelBytes ++ byte1 v.queue.length ++ v.queue.flatMap Job.bytes
    ++ v.spares.flatMap SpareView.bytes ++ byte1 v.twoKey.length
    ++ v.twoKey.flatMap (fun x => byte1 x.1.val ++ leBytes 4 x.2)

/-- The settings as 4-byte values in the order of their numbers (R208). -/
def Settings.bytes (c : Settings) : List Byte := allSettings.flatMap (fun n => leBytes 4 (c.get n))

/-- The capture as ERROR_READ gives it (12.5). -/
def captureBytes (c : Option Capture) : List Byte :=
  match c with
  | none => leBytes 15 0
  | some x =>
    byte1 1 ++ byte1 x.flag.bit.val ++ orOnes 1 (x.kind.map ReqKind.byte) ++ orOnes 1 (x.source.map (·.toNat))
      ++ byte1 x.jobTag.toNat ++ orOnes 1 (x.tid.map (·.toNat)) ++ orOnes 5 (x.sysAddr.map (·.toNat))
      ++ orOnes 1 (x.window.map (·.index.val)) ++ orOnes 2 (x.window.map (·.generation.toNat)) ++ mark x.postedLost

/-! ## Notice records (12.3) -/

def Notice.kindCode : Notice → Nat
  | .pageDone _ => 1
  | .pageCancelled _ _ _ => 2
  | .windowFree _ _ => 3
  | .rekeyDone _ => 4
  | .scrubFailed _ _ _ _ _ _ => 5
  | .cartState _ _ _ _ _ _ => 6
  | .cartLow _ _ _ _ => 7
  | .carryDropped _ => 8
  | .commitDone _ _ => 9
  | .commitFailed _ _ => 10
  | .pathError _ => 11
  | .reset _ => 12
  | .sleepEntered => 13
  | .sleepAborted _ => 13

/-- The coverage of a colour in a report; of an absent plane 0xFFFF (R209). -/
def coverageBytes (cov : List (Colour × Nat)) (k : Colour) : List Byte :=
  orOnes 2 ((cov.find? (fun x => x.1 == k)).map (·.2))

def PageReport.bytes (r : PageReport) : List Byte :=
  leBytes 4 r.number.toNat ++ byte1 r.account.val ++ byte1 r.window.index.val ++ leBytes 2 r.window.generation.toNat
    ++ byte1 r.cls.byte ++ (List.finRange 4).flatMap (coverageBytes r.coverage) ++ leBytes 2 r.charge ++ mark r.foreign

def WindowRef.bytes (w : WindowRef) : List Byte := byte1 w.index.val ++ leBytes 2 w.generation.toNat

def AbortCause.byte : AbortCause → Nat
  | .printing => 1
  | .debit => 2
  | .reset => 3

def CancelCause.byte : CancelCause → Nat
  | .command => 0
  | .reset => 1

/-- The fields of a notice (12.3). -/
def Notice.fields : Notice → List Byte
  | .pageDone r => r.bytes
  | .pageCancelled r st c => r.bytes ++ byte1 st.byte ++ byte1 c.byte
  | .windowFree w x => w.bytes ++ mark x
  | .rekeyDone w => w.bytes
  | .scrubFailed c j pass progress op cause =>
    byte1 c.val ++ j.bytes ++ byte1 pass ++ leBytes 4 progress ++ byte1 op.byte ++ byte1 cause.byte
  | .cartState k x y r serial d =>
    byte1 k.val ++ byte1 x.byte ++ byte1 y.byte ++ byte1 r.byte ++ serialOrNone serial ++ mark d
  | .cartLow k serial remaining capacity =>
    byte1 k.val ++ leBytes 8 serial.toNat ++ leBytes 4 remaining ++ leBytes 4 capacity
  | .carryDropped e => leBytes 8 e.serial.toNat ++ leBytes 4 e.amount
  | .commitDone n c => leBytes 4 n.toNat ++ byte1 c.toNat
  | .commitFailed n c => leBytes 4 n.toNat ++ byte1 c.toNat
  | .pathError f => byte1 f.bit.val
  | .reset k => byte1 k.byte
  | .sleepEntered => byte1 0 ++ byte1 0
  | .sleepAborted c => byte1 1 ++ byte1 c.byte

/-- The data of a response (R208). -/
def RespData.bytes : RespData → List Byte
  | .empty => []
  | .windowOpened i g => byte1 i.val ++ leBytes 2 g.toNat
  | .window w r c e => windowBytes w r c e
  | .pageOpened n z r st => leBytes 4 n.toNat ++ byte1 z.byte ++ leBytes 4 r ++ byte1 st.byte
  | .page p x => pageBytes p x
  | .pageList xs => xs.flatMap (fun x => leBytes 4 x.1.toNat ++ byte1 x.2.1.val ++ byte1 x.2.2.1.val ++ byte1 x.2.2.2.byte)
  | .accountCreated a => byte1 a.val
  | .account a n x => accountBytes a n x
  | .meter m => m.bytes
  | .cart v => v.bytes
  | .reprobed xs => byte1 (slotSet xs)
  | .scrub v => v.bytes
  | .workingSettings c l => c.bytes ++ byte1 l.byte
  | .storedSettings (some c) => c.bytes ++ mark true
  | .storedSettings none => allSettings.flatMap (fun _ => leBytes 4 0) ++ mark false
  | .settingWritten v c => leBytes 4 v ++ mark c
  | .notice left n =>
    byte1 left ++ byte1 n.notice.kindCode ++ leBytes 2 n.overflow ++ byte1 n.notice.fields.length ++ n.notice.fields
  | .errors flags c => leBytes 2 flags.toNat ++ captureBytes c
  | .ident serial provisioned locked cause inProgress power =>
    leBytes 2 0x0440 ++ leBytes 2 1 ++ serialOrNone serial ++ mark provisioned ++ mark locked ++ byte1 cause.byte
      ++ mark inProgress ++ byte1 power.byte

/-- The bytes of the held response: ready mark, code, status, data length, data (12.2). With no response held, code 0,
status OK and no data (R194). -/
def responseBytes (r : Option Response) : List Byte :=
  match r with
  | some x => [0x5A, x.code, .ofNat 8 x.status.byte] ++ leBytes 2 x.data.bytes.length ++ x.data.bytes
  | none => [0x5A, 0, 0, 0, 0]

/-- The first `n` bytes a frame clocks out, 0x00 beyond the end (R194). -/
def clockedBytes (n : Nat) (bytes : List Byte) : List Byte := (bytes ++ List.replicate n 0).take n

/-! ## Cartridge frames (R142, 12.4) -/

/-- One bit of the CRC-8: polynomial x^8 + x^5 + x^4 + 1, most significant bit first (R142). -/
def crcBit (c : Byte) : Byte := if c.msb then (c <<< 1) ^^^ 0x31 else c <<< 1

/-- One byte taken into the CRC-8. -/
def crcByte (c b : Byte) : Byte := crcBit (crcBit (crcBit (crcBit (crcBit (crcBit (crcBit (crcBit (c ^^^ b))))))))

/-- The CRC-8 over bytes in the order sent, from the initial value 0xFF (R142). -/
def crc8 (bytes : List Byte) : Byte := bytes.foldl crcByte 0xFF

/-- A frame of a code and a payload: length byte, code, payload, CRC-8 (R142). -/
def cartFrame (code : Byte) (payload : List Byte) : List Byte :=
  let body := BitVec.ofNat 8 (payload.length + 1) :: code :: payload
  body ++ [crc8 body]

/-- The frame among the bytes read from a link in a reply window (R143): its length byte says where it ends, and what
follows is not read. `none` while fewer bytes have arrived than it announces. -/
def delimitFrame (bytes : List Byte) : Option (List Byte) :=
  match bytes with
  | [] => none
  | n :: rest => if n.toNat + 1 ≤ rest.length then some (n :: rest.take (n.toNat + 1)) else none

/-- The payload of a reply frame that is good for a reply code and its fixed payload length; `none` for a bad frame
(R142). -/
def goodPayload (code : Byte) (length : Nat) (frame : List Byte) : Option (List Byte) :=
  match frame with
  | n :: c :: rest =>
    let payload := rest.dropLast
    if rest.length = length + 1 ∧ n.toNat = length + 1 ∧ c = code ∧ rest.getLast? = some (crc8 (n :: c :: payload))
    then some payload else none
  | _ => none

/-- The request frame of a message (12.4). -/
def requestFrame (m : MessageKind) : List Byte :=
  match m with
  | .hello _ => cartFrame 0x01 []
  | .prove n => cartFrame 0x02 (leBytes 16 (n.getD 0).toNat)
  | .debit a q t => cartFrame 0x03 (leBytes 4 a ++ leBytes 4 q.toNat ++ leBytes 8 t.toNat)

/-- The identity record in the payload of a HELLO reply, least significant byte first (R146, R210, 12.4). -/
def recordOf (ps : List Byte) : Record :=
  { serial := .ofNat 64 (fieldAt ps 0 8)
    model := .ofNat 16 (fieldAt ps 8 2)
    colour := .ofNat 8 (fieldAt ps 10 1)
    rated := .ofNat 32 (fieldAt ps 11 4)
    factor := .ofNat 16 (fieldAt ps 15 2)
    remaining := .ofNat 32 (fieldAt ps 17 4)
    sequence := .ofNat 32 (fieldAt ps 21 4) }

/-- The fields of a DEBIT reply (R165, 12.4). -/
structure DebitReply where
  status : Byte
  remaining : BitVec 32
  sequence : BitVec 32
  tag : BitVec 64
deriving DecidableEq, Repr

/-- The fields in the payload of a DEBIT reply (R210, 12.4). -/
def debitReplyOf (ps : List Byte) : DebitReply :=
  { status := .ofNat 8 (fieldAt ps 0 1)
    remaining := .ofNat 32 (fieldAt ps 1 4)
    sequence := .ofNat 32 (fieldAt ps 5 4)
    tag := .ofNat 64 (fieldAt ps 9 8) }

end Sys2Proof.Machine
end

