-- ==== Sys2Proof/Machine/Port.lean ====
section
/-! DEFINITION. The management port's command exchange (R194, R195): how a frame is received, when its command is judged,
and which response it finds. -/

namespace Sys2Proof.Machine

/-- What the part sends in a frame that begins while the previous command is still being judged: the ready mark
clear and no response (R194). -/
def State.sendNotReady (s : State) (f : Frame) : State := s.emit (.spi (clockedBytes f.bytes []))

/-- What the part sends in any other frame: the held response, which is sent in one frame only (R194). What a later
frame then sends is that of a part that holds none (log 19). -/
def State.sendHeld (s : State) (f : Frame) : State :=
  { s.emit (.spi (clockedBytes f.bytes (responseBytes s.held))) with held := none }

/-- An empty frame (R194, R195, log 10): it carries no command, wakes nothing, and sends what the part has to send. -/
def State.emptyFrame (s : State) (f : Frame) : State :=
  if f.early || s.awaiting.isSome then s.sendNotReady f else s.sendHeld f

/-- The frame of a management command is received (R194, R195, R206). One of fewer than 2 bytes is an empty frame.
While the previous command is being judged the command is not taken, and in SLEEP the frame then wakes nothing (log 47).
Otherwise in SLEEP the frame starts a wake, and in a wake its judgement waits for the end (log 13). In every other case
the command is judged. -/
def receive (cmd : Instr) (f : Frame) (judge : State → State) (s : State) : State :=
  if f.bytes < 2 then s.emptyFrame f
  else if f.early || s.awaiting.isSome then s.sendNotReady f
  else
    let s1 := s.sendHeld f
    match s1.power with
    | .sleep => { s1 with power := .waking, awaiting := some cmd }
    | .waking => { s1 with awaiting := some cmd }
    | _ => judge s1

/-- The frame's own checks (R195): a truncated frame and a wrong parameter length are answered BAD_ARGUMENT. -/
def frameFits (f : Frame) (length : Nat) : Bool :=
  decide (f.announced.toNat + 2 ≤ f.bytes) && decide (f.announced.toNat = length)

/-- A command is judged (R195): by its frame, then, unless it is one of the commands judged in every reset, by
whether a reset is in progress, then by its own rule. -/
def judged (code : Nat) (f : Frame) (inReset : Bool) (body : State → State) (s : State) : State :=
  if !frameFits f ((commandLength code).getD 0) then s.answerStatus code .badArgument
  else if s.resetRec.progress.isSome && !inReset then s.answerStatus code .busy
  else body s

end Sys2Proof.Machine
end

