-- ==== Sys2Proof/Machine/Pages.lean ====
section
/-! DEFINITION. Print pages (chapter 5): opening, admission, the kind gate, the coverage counter, completion and cancel. -/

namespace Sys2Proof.Machine

/-! ## The page table -/

/-- The entry that holds the live page of a number; 0 is the number of no page (R82, R83, R98). -/
def State.findPage (s : State) (n : BitVec 32) : Option (Fin 16) :=
  if n = 0 then none else (List.finRange 16).find? (fun i => (s.page i).any (fun p => p.number == n))

/-- The lowest-numbered free entry (R87). -/
def State.freeEntry (s : State) : Option (Fin 16) := (List.finRange 16).find? (fun i => (s.page i).isNone)

/-- The live pages, in the order of the entries. -/
def State.livePages (s : State) : List Page := s.pages.toList.filterMap id

/-- The page number that follows another: 4294967295 is followed by 1 (R83). -/
def nextPageNumber (n : BitVec 32) : BitVec 32 := if n = BitVec.allOnes 32 then 1 else n + 1

/-- The live-page count of a window raised by 1 (R87). -/
def State.raiseLive (s : State) (i : WindowIdx) : State :=
  s.setWindow i { s.window i with livePages := (s.window i).livePages + 1 }

/-- The live-page count of a window lowered by 1 (R96, R98). -/
def State.lowerLive (s : State) (i : WindowIdx) : State :=
  s.setWindow i { s.window i with livePages := (s.window i).livePages - 1 }

/-! ## Page end -/

/-- A charged page's end, at completion or at cancel from PRINTING (R96, R99): charge, settlement, counters, draws,
prefetch lines, notice, entry, live-page count, and last the pages-since-commit count (log 26). -/
def State.endCharged (s : State) (i : Fin 16) (p : Page) (cancel : Option CancelCause) : State :=
  let r := p.charge s.settings
  let foreign := p.foreignFlag
  let report : PageReport := ⟨p.number, p.account, p.window, r.cls, p.coverages, r.charge, foreign⟩
  let s1 := s.setAccount p.account ((s.account p.account).settle p.reservation r.charge r.cls foreign cancel.isSome)
  let s2 := { s1 with meter := s1.meter.raisePage r.cls foreign cancel.isSome }
  let s3 := (s2.takeDraws p.planes).invalidateLines (fun l => l.page == p.number)
  let s4 := s3.note (match cancel with
    | none => .pageDone report
    | some c => .pageCancelled report .printing c)
  ((s4.setPage i none).lowerLive p.window.index).raiseSince

/-- The end of a page cancelled from WAITING or ADMITTED (R98): the reservation is released and nothing is charged. -/
def State.endUncharged (s : State) (i : Fin 16) (p : Page) (c : CancelCause) : State :=
  let a := s.account p.account
  let report : PageReport :=
    ⟨p.number, p.account, p.window, classOf p.size false, p.planes.map (fun pl => (pl.colour, 0)), 0, false⟩
  let s1 := s.setAccount p.account { a with reserved := a.reserved - p.reservation }
  ((s1.note (.pageCancelled report p.state c)).setPage i none).lowerLive p.window.index

/-- A live page is cancelled (R98, R99, R105). -/
def State.cancelPage (s : State) (c : CancelCause) (i : Fin 16) : State :=
  match s.page i with
  | none => s
  | some p =>
    match p.state with
    | .printing => s.endCharged i p (some c)
    | _ => s.endUncharged i p c

/-- Every live page is cancelled by a reset (R105), in the order of the entries, which R105 leaves open (log 30). -/
def State.cancelAll (s : State) : State := (List.finRange 16).foldl (State.cancelPage · .reset) s

/-! ## The coverage counter -/

/-- A beat counted against a plane's mark (R93): at or above the mark, inside the plane, its level sum is added and
the mark moves past it; below the mark nothing is counted. -/
def Plane.count (pl : Plane) (planeSize planeOffset levels : Nat) : Plane :=
  if pl.mark ≤ planeOffset ∧ planeOffset + 32 ≤ planeSize then
    { pl with dots := pl.dots + levels, mark := planeOffset + 32 }
  else pl

/-- A page with a beat at a window offset counted on one of its planes (R93). -/
def Page.count (p : Page) (colour : Colour) (offset : Nat) (b : Beat) : Page :=
  { p with planes := p.planes.map (fun pl =>
      if pl.colour = colour ∧ pl.offset ≤ offset then pl.count p.planeSize (offset - pl.offset) (levelSum b) else pl) }

/-- Every plane of the page is complete (R95). -/
def Page.complete (p : Page) : Bool := p.planes.all (fun pl => pl.mark == p.planeSize)

/-- A beat delivered with OKAY for a read with a page and plane reference (R92, R93, R95): the first beat moves a
live page to PRINTING, the beat is counted, and the page may complete. A reference to a page no longer live counts
nothing (R94). -/
def State.countBeat (s : State) (ref : Option PlaneRef) (offset : Nat) (first : Bool) (b : Beat) : State :=
  match ref with
  | none => s
  | some r =>
    match s.findPage r.page with
    | none => s
    | some i =>
      match s.page i with
      | none => s
      | some p =>
        let moved := if first then { p with state := .printing } else p
        let counted := moved.count r.plane offset b
        if counted.complete then (s.setPage i (some counted)).endCharged i counted none
        else s.setPage i (some counted)

/-- The delivery of this beat moves its page to PRINTING (R92). -/
def State.entersPrinting (s : State) (ref : Option PlaneRef) (first : Bool) : Bool :=
  match ref with
  | none => false
  | some r =>
    match s.findPage r.page with
    | none => false
    | some i => first && (s.page i).any (fun p => p.state != .printing)

/-! ## The kind gate -/

/-- The plane of a page that holds a whole range of window offsets (R90). -/
def Page.planeHolding (p : Page) (offset n : Nat) : Option Plane :=
  p.planes.find? (fun pl => decide (pl.offset ≤ offset) && decide (offset + n ≤ pl.offset + p.planeSize))

/-- The live page of a window and its plane that hold a range (R90). -/
def State.findPlane (s : State) (i : WindowIdx) (offset n : Nat) : Option (Page × Plane) :=
  s.livePages.findSome? (fun p => if p.window.index = i then (p.planeHolding offset n).map (fun pl => (p, pl)) else none)

/-! ## PAGE_OPEN -/

/-- The planes a PAGE_OPEN asks for, in the order C, M, Y, K (R82, R207); `none` for a plane count other than 1 or 4. -/
def planesOf (a : PageOpenArgs) : Option (List (Colour × Nat)) :=
  if a.planeCount = 1 then some [(3, a.offsetK.toNat)]
  else if a.planeCount = 4 then
    some [(0, a.offsetC.toNat), (1, a.offsetM.toNat), (2, a.offsetY.toNat), (3, a.offsetK.toNat)]
  else none

/-- Two planes of a list, each of a size, share a byte (R85). -/
def planesClash (size : Nat) : List (Colour × Nat) → Bool
  | [] => false
  | x :: rest => rest.any (fun y => overlaps x.2 size y.2 size) || planesClash size rest

/-- The arguments of a PAGE_OPEN that pass R85. -/
structure OpenPage where
  account : Fin 128
  window : WindowIdx
  planes : List (Colour × Nat)
  bytesPerLine : Nat
  lines : Nat

/-- The checks of R85 on the arguments. -/
def State.checkOpen (s : State) (a : PageOpenArgs) : Option OpenPage :=
  match accountOf a.account, indexOf a.window, planesOf a with
  | some acc, some w, some planes =>
    let bpl := a.bytesPerLine.toNat
    let lines := a.lines.toNat
    let size := lines * bpl
    let win := s.window w
    if win.kind = .print ∧ (win.state = .opened ∨ win.state = .sealed)
        ∧ 32 ≤ bpl ∧ bpl ≤ 4096 ∧ bpl % 32 = 0 ∧ 1 ≤ lines ∧ lines ≤ 16384
        ∧ planes.all (fun x => x.2 % 256 == 0) = true
        ∧ planes.all (fun x => decide (x.2 + size ≤ win.size)) = true
        ∧ planesClash size planes = false
    then some ⟨acc, w, planes, bpl, lines⟩ else none
  | _, _, _ => none

/-- Some plane of the request shares a byte with a plane of a live page of its window (R86). -/
def State.openOverlaps (s : State) (o : OpenPage) : Bool :=
  s.livePages.any (fun p => p.window.index == o.window && p.planes.any (fun pl =>
    o.planes.any (fun x => overlaps x.2 (o.lines * o.bytesPerLine) pl.offset p.planeSize)))

/-- The page an accepted PAGE_OPEN makes, in WAITING (R87). -/
def State.newPage (s : State) (o : OpenPage) : Page :=
  let size := sizeClassOf (areaOf o.bytesPerLine o.lines) s.settings.aLarge
  let mono := s.settings.baseMono size
  let color := if o.planes.length = 4 then some (s.settings.baseColor size) else none
  { number := s.nextPage
    account := o.account
    window := (s.window o.window).ref o.window
    planes := o.planes.map (fun x => ⟨x.1, x.2, none, 0, 0⟩)
    bytesPerLine := o.bytesPerLine
    lines := o.lines
    size := size
    baseMono := mono
    baseColor := color
    reservation := reservationOf mono color
    state := .waiting }

/-- The page in the state it enters at its opening (R87): ADMITTED when every slot it uses is admitting and the part
is not in ENTERING. -/
def State.firstState (s : State) (p : Page) : Page :=
  if s.pageAdmissible p && s.power != .entering then s.enterAdmitted p else p

/-- PAGE_OPEN against the tables (R86, R87). -/
def State.openPage (s : State) (o : OpenPage) : State :=
  match s.freeEntry with
  | none => s.answerStatus 0x20 .noRoom
  | some i =>
    if s.openOverlaps o then s.answerStatus 0x20 .overlap
    else if s.pins.pfail || (s.account o.account).state != .active then s.answerStatus 0x20 .state
    else
      let p := s.firstState (s.newPage o)
      let a := s.account o.account
      if a.canReserve p.reservation then
        let s1 := (s.setPage i (some p)).setAccount o.account { a with reserved := a.reserved + p.reservation }
        let s2 := { s1.raiseLive o.window with nextPage := nextPageNumber s.nextPage }
        s2.answer 0x20 .ok (.pageOpened p.number p.size p.reservation p.state)
      else s.answerStatus 0x20 .quota

/-- PAGE_OPEN judged (R85 to R87). -/
def judgePageOpen (f : Frame) (a : PageOpenArgs) : State → State :=
  judged 0x20 f false (fun s =>
    match s.checkOpen a with
    | none => s.answerStatus 0x20 .badArgument
    | some o => s.openPage o)

/-- PAGE_CANCEL judged (R98, R99). -/
def judgePageCancel (f : Frame) (n : BitVec 32) : State → State :=
  judged 0x21 f false (fun s =>
    match s.findPage n with
    | none => s.answerStatus 0x21 .notFound
    | some i => (s.cancelPage .command i).answerStatus 0x21 .ok)

/-- The slots of a WAITING page that are not admitting (R101). -/
def State.notAdmitting (s : State) (p : Page) : Option (List Colour) :=
  if p.state = .waiting then some ((p.planes.map (·.colour)).filter (fun k => !s.slotAdmitting k)) else none

/-- PAGE_QUERY judged (R101). -/
def judgePageQuery (f : Frame) (n : BitVec 32) : State → State :=
  judged 0x22 f true (fun s =>
    if n = 0 then
      s.answer 0x22 .ok (.pageList (s.livePages.map (fun p => (p.number, p.account, p.window.index, p.state))))
    else
      match (s.findPage n).bind s.page with
      | none => s.answerStatus 0x22 .notFound
      | some p => s.answer 0x22 .ok (.page p (s.notAdmitting p)))

/-! ## The meanings -/

/-- PAGE_OPEN (R85 to R87). -/
def execPageOpen (f : Frame) (a : PageOpenArgs) (s : State) : Host.Outcome State Fault Refusal :=
  .next (event (receive (.pageOpen f a) f (judgePageOpen f a)) s)

/-- PAGE_CANCEL (R98, R99). -/
def execPageCancel (f : Frame) (n : BitVec 32) (s : State) : Host.Outcome State Fault Refusal :=
  .next (event (receive (.pageCancel f n) f (judgePageCancel f n)) s)

/-- PAGE_QUERY (R101). -/
def execPageQuery (f : Frame) (n : BitVec 32) (s : State) : Host.Outcome State Fault Refusal :=
  .next (event (receive (.pageQuery f n) f (judgePageQuery f n)) s)

end Sys2Proof.Machine
end

