-- ==== Sys2Proof/Machine/Accounts.lean ====
section
/-! DEFINITION. The account commands (R119 to R125). -/

namespace Sys2Proof.Machine

/-- The lowest-numbered UNUSED account slot (R119). -/
def State.unusedAccount (s : State) : Option (Fin 128) :=
  (List.finRange 128).find? (fun a => (s.account a).state == .unused)

/-- How many live pages are billed to an account (R125). -/
def State.livePagesOf (s : State) (a : Fin 128) : Nat := (s.livePages.filter (fun p => p.account == a)).length

/-- The account is the scan account of a window that is not FREE (R124, R125). -/
def State.isScanAccount (s : State) (a : Fin 128) : Bool :=
  (List.finRange 16).any (fun i => (s.window i).live && (s.window i).kind == .scan && (s.window i).scanAccount == a)

/-- ACCOUNT_CREATE judged (R119). -/
def judgeAccountCreate (f : Frame) (id limit : BitVec 32) : State → State :=
  judged 0x30 f false (fun s =>
    match limitOf limit with
    | none => s.answerStatus 0x30 .badArgument
    | some l =>
      match s.unusedAccount with
      | none => s.answerStatus 0x30 .noRoom
      | some a =>
        (s.setAccount a { state := .active, id := id, limit := l }).answer 0x30 .ok (.accountCreated a))

/-- Does a limit lie below the used and reserved units of an account (R120)? -/
def Account.belowUsed (x : Account) (limit : Option Nat) : Bool :=
  match limit with
  | none => false
  | some l => decide (l < x.used + x.reserved)

/-- ACCOUNT_SET_LIMIT judged (R120). -/
def judgeAccountSetLimit (f : Frame) (slot : Byte) (limit : BitVec 32) : State → State :=
  judged 0x31 f false (fun s =>
    match accountOf slot, limitOf limit with
    | some a, some l =>
      if (s.account a).state = .unused then s.answerStatus 0x31 .notFound
      else if (s.account a).belowUsed l then s.answerStatus 0x31 .belowUsed
      else (s.setAccount a { s.account a with limit := l }).answerStatus 0x31 .ok
    | _, _ => s.answerStatus 0x31 .badArgument)

/-- ACCOUNT_RESET_USAGE judged (R121). -/
def judgeAccountResetUsage (f : Frame) (slot : Byte) : State → State :=
  judged 0x32 f false (fun s =>
    match accountOf slot with
    | none => s.answerStatus 0x32 .badArgument
    | some a =>
      if (s.account a).state = .unused then s.answerStatus 0x32 .notFound
      else (s.setAccount a { s.account a with used := 0 }).answerStatus 0x32 .ok)

/-- ACCOUNT_CLEAR_COUNTERS judged (R122). -/
def judgeAccountClearCounters (f : Frame) (slot : Byte) : State → State :=
  judged 0x33 f false (fun s =>
    match accountOf slot with
    | none => s.answerStatus 0x33 .badArgument
    | some a =>
      if (s.account a).state = .unused then s.answerStatus 0x33 .notFound
      else (s.setAccount a { s.account a with counters := {} }).answerStatus 0x33 .ok)

/-- ACCOUNT_SUSPEND judged (R123). -/
def judgeAccountSuspend (f : Frame) (slot : Byte) : State → State :=
  judged 0x34 f false (fun s =>
    match accountOf slot with
    | none => s.answerStatus 0x34 .badArgument
    | some a =>
      if a = 0 then s.answerStatus 0x34 .state
      else if (s.account a).state = .unused then s.answerStatus 0x34 .notFound
      else (s.setAccount a { s.account a with state := .suspended }).answerStatus 0x34 .ok)

/-- ACCOUNT_RESUME judged (R123). -/
def judgeAccountResume (f : Frame) (slot : Byte) : State → State :=
  judged 0x35 f false (fun s =>
    match accountOf slot with
    | none => s.answerStatus 0x35 .badArgument
    | some a =>
      if (s.account a).state = .unused then s.answerStatus 0x35 .notFound
      else (s.setAccount a { s.account a with state := .active }).answerStatus 0x35 .ok)

/-- ACCOUNT_DELETE judged (R124). -/
def judgeAccountDelete (f : Frame) (slot : Byte) : State → State :=
  judged 0x36 f false (fun s =>
    match accountOf slot with
    | none => s.answerStatus 0x36 .badArgument
    | some a =>
      if a = 0 then s.answerStatus 0x36 .state
      else if (s.account a).state = .unused then s.answerStatus 0x36 .notFound
      else if s.livePagesOf a ≠ 0 ∨ s.isScanAccount a = true then s.answerStatus 0x36 .busy
      else (s.setAccount a {}).answerStatus 0x36 .ok)

/-- ACCOUNT_READ judged (R125). -/
def judgeAccountRead (f : Frame) (slot : Byte) : State → State :=
  judged 0x37 f true (fun s =>
    match accountOf slot with
    | none => s.answerStatus 0x37 .badArgument
    | some a => s.answer 0x37 .ok (.account (s.account a) (s.livePagesOf a) (s.isScanAccount a)))

/-- ACCOUNT_CREATE (R119). -/
def execAccountCreate (f : Frame) (id limit : BitVec 32) (s : State) : Host.Outcome State Fault Refusal :=
  .next (event (receive (.accountCreate f id limit) f (judgeAccountCreate f id limit)) s)

/-- ACCOUNT_SET_LIMIT (R120). -/
def execAccountSetLimit (f : Frame) (slot : Byte) (limit : BitVec 32) (s : State) : Host.Outcome State Fault Refusal :=
  .next (event (receive (.accountSetLimit f slot limit) f (judgeAccountSetLimit f slot limit)) s)

/-- ACCOUNT_RESET_USAGE (R121). -/
def execAccountResetUsage (f : Frame) (slot : Byte) (s : State) : Host.Outcome State Fault Refusal :=
  .next (event (receive (.accountResetUsage f slot) f (judgeAccountResetUsage f slot)) s)

/-- ACCOUNT_CLEAR_COUNTERS (R122). -/
def execAccountClearCounters (f : Frame) (slot : Byte) (s : State) : Host.Outcome State Fault Refusal :=
  .next (event (receive (.accountClearCounters f slot) f (judgeAccountClearCounters f slot)) s)

/-- ACCOUNT_SUSPEND (R123). -/
def execAccountSuspend (f : Frame) (slot : Byte) (s : State) : Host.Outcome State Fault Refusal :=
  .next (event (receive (.accountSuspend f slot) f (judgeAccountSuspend f slot)) s)

/-- ACCOUNT_RESUME (R123). -/
def execAccountResume (f : Frame) (slot : Byte) (s : State) : Host.Outcome State Fault Refusal :=
  .next (event (receive (.accountResume f slot) f (judgeAccountResume f slot)) s)

/-- ACCOUNT_DELETE (R124). -/
def execAccountDelete (f : Frame) (slot : Byte) (s : State) : Host.Outcome State Fault Refusal :=
  .next (event (receive (.accountDelete f slot) f (judgeAccountDelete f slot)) s)

/-- ACCOUNT_READ (R125). -/
def execAccountRead (f : Frame) (slot : Byte) (s : State) : Host.Outcome State Fault Refusal :=
  .next (event (receive (.accountRead f slot) f (judgeAccountRead f slot)) s)

end Sys2Proof.Machine
end

