-- ==== Sys2Proof/Machine/Carts.lean ====
section
/-! DEFINITION. Cartridge slots: presence, messages and their attempts, replies and their judgement, reprobes (chapter 8),
and the replies of the toner gauge's exchanges (R166 to R169). -/

namespace Sys2Proof.Machine

/-! ## Messages -/

/-- A message at its first attempt (R144). -/
def firstAttempt (kind : MessageKind) : Message := ⟨kind, 1, .sending⟩

/-- A HELLO of identification at attempt 1 (R146). -/
def newHello : Option Message := some (firstAttempt (.hello false))

/-- A message with the nonce of its ended attempt discarded (R148). -/
def MessageKind.dropNonce : MessageKind → MessageKind
  | .prove _ => .prove none
  | m => m

/-- The slot's message replaced. -/
def State.setMessage (s : State) (k : Colour) (m : Option Message) : State :=
  s.setSlot k { s.slot k with message := m }

/-- The reason given when a message is exhausted: NO_REPLY for identification and proof (R152), DEBIT_NO_REPLY for a
message of the toner gauge (R169). -/
def MessageKind.exhaustedReason : MessageKind → Reason
  | .hello false => .noReply
  | .prove _ => .noReply
  | .hello true => .debitNoReply
  | .debit _ _ _ => .debitNoReply

/-- The attempt under way fails (R143, R144): the gap before the next attempt begins, or after attempt 3 the slot
enters MUTE with the record it holds. -/
def State.failAttempt (s : State) (k : Colour) : State :=
  match (s.slot k).message with
  | none => s
  | some m =>
    if m.attempt < 3 then s.setMessage k (some ⟨m.kind.dropNonce, m.attempt, .gap⟩)
    else s.changeSlot k (.mute (s.slot k).state.record) m.kind.exhaustedReason none

/-- The value the generator gives at the next draw as a nonce (R38). -/
def State.nextNonce (s : State) : BitVec 128 := Config.randomNonce s.draws

/-- One draw of the generator is used up (R38). -/
def State.drawn (s : State) : State := { s with draws := s.draws + 1 }

/-- The next attempt begins (R144): the same request again, a PROVE with a fresh nonce (R148). -/
def State.nextAttempt (s : State) (k : Colour) (m : Message) : State :=
  match m.kind with
  | .prove _ => (s.setMessage k (some ⟨.prove (some s.nextNonce), m.attempt + 1, .sending⟩)).drawn
  | _ => s.setMessage k (some ⟨m.kind, m.attempt + 1, .sending⟩)

/-! ## Reprobes -/

/-- One slot is reprobed (R154). -/
def State.reprobeSlot (s : State) (k : Colour) (reason : Reason) : State :=
  if (s.slot k).presence ≠ .present then s
  else if (s.slot k).state = .probing then s.setSlot k { s.slot k with message := newHello, lastReason := some reason }
  else s.changeSlot k .probing reason newHello

/-- Every present slot is reprobed, in slot order (R154, R157). -/
def State.reprobeAll (s : State) (reason : Reason) : State :=
  (List.finRange 4).foldl (State.reprobeSlot · · reason) s

/-! ## Replies -/

/-- A good HELLO reply of identification (R147). -/
def State.judgeHello (s : State) (k : Colour) (r : Record) : State :=
  if r.colour.toNat ≠ k.val then s.changeSlot k (.rejected (some r)) .colourMismatch none
  else if r.rated = 0 ∨ r.factor = 0 ∨ r.rated.toNat < r.remaining.toNat then
    s.changeSlot k (.rejected none) .badRecord none
  else if !s.nv.root.provisioned then s.changeSlot k (refusedState s.settings.policy r) .notProvisioned none
  else (s.changeSlot k (.proving r) .identified (some (firstAttempt (.prove (some s.nextNonce))))).drawn

/-- The tag expected of a PROVE reply (R149). -/
def State.proveTag (s : State) (r : Record) (nonce : BitVec 128) : BitVec 64 :=
  Config.proofTag (s.cartKey r) (.prove nonce r.serial r.remaining r.sequence)

/-- A sleep entry is ended by a GENUINE slot's pending debit that is above 0 (R205). -/
def State.abortIfOwed (s : State) (k : Colour) : State :=
  if 0 < (s.gauge k).pending then s.abortEntry .debit else s

/-- A good PROVE reply (R149). -/
def State.judgeProve (s : State) (k : Colour) (r : Record) (nonce : BitVec 128) (tag : BitVec 64) : State :=
  if tag = s.proveTag r nonce then (s.changeSlot k (.genuine r) .proved none).abortIfOwed k
  else s.changeSlot k (refusedState s.settings.policy r) .proofFailed none

/-- The posting is acknowledged (R166, R167): P is lowered by its amount and the posting ends. -/
def Gauge.acknowledge (g : Gauge) (amount : Nat) : Gauge := { g with pending := g.pending - amount, posting := none }

/-- Remaining is recomputed from L and P (R161). -/
def State.recompute (s : State) (k : Colour) : State := s.setRemaining k ((s.gauge k).acked - (s.gauge k).pending)

/-- A DEBIT reply with status OK, a matching tag and the sequence sent (R166). -/
def State.ackDebit (s : State) (k : Colour) (p : Posting) (reply : DebitReply) : State :=
  let g := { (s.gauge k).acknowledge p.amount with acked := reply.remaining.toNat, sequence := p.sequence }
  (((s.setMessage k none).setGauge k g).recompute k).postIfDue k

/-- A SEQ_ERROR reply (R167): a resynchronising HELLO, or MUTE at the third. -/
def State.seqError (s : State) (k : Colour) (r : Record) (p : Posting) : State :=
  if 2 ≤ p.seqErrors then s.changeSlot k (.mute (some r)) .debitSequence none
  else
    (s.setGauge k { s.gauge k with posting := some { p with seqErrors := p.seqErrors + 1 } }).setMessage k
      (some (firstAttempt (.hello true)))

/-- The tag expected of a DEBIT reply (R165), under the master key held now (log 15). -/
def State.debitTag (s : State) (r : Record) (p : Posting) (reply : DebitReply) : BitVec 64 :=
  Config.proofTag (s.cartKey r)
    (.debitReply reply.status reply.remaining reply.sequence r.serial (BitVec.ofNat 32 p.amount))

/-- A good DEBIT reply (R165 to R168). -/
def State.judgeDebit (s : State) (k : Colour) (r : Record) (p : Posting) (reply : DebitReply) : State :=
  if reply.tag ≠ s.debitTag r p reply then s.changeSlot k (refusedState s.settings.policy r) .debitTag none
  else if reply.status = 0 ∧ reply.sequence = p.sequence then s.ackDebit k p reply
  else s.seqError k r p

/-- A resynchronising HELLO's record agrees with the slot's (R167). -/
def Record.agrees (r x : Record) : Bool :=
  x.serial == r.serial && x.model == r.model && x.colour == r.colour && x.rated == r.rated && x.factor == r.factor
    && decide (x.remaining.toNat ≤ x.rated.toNat)

/-- A good reply to a resynchronising HELLO (R167, R168). -/
def State.judgeResync (s : State) (k : Colour) (r : Record) (p : Posting) (x : Record) : State :=
  if !r.agrees x then s.changeSlot k (refusedState s.settings.policy r) .debitTag none
  else
    let r' := { r with remaining := x.remaining, sequence := x.sequence }
    let g := { s.gauge k with acked := x.remaining.toNat, sequence := x.sequence }
    let s1 := s.setSlot k { s.slot k with state := .genuine r', message := none }
    if x.sequence = p.sequence then ((s1.setGauge k (g.acknowledge p.amount)).recompute k).postIfDue k
    else ((s1.setGauge k g).recompute k).sendDebit k r' p.seqErrors

/-- A reply frame has ended on a slot's link (R142, R143). It is judged against the message whose reply window runs: a
good frame by the rules of its kind, any other as BAD_FRAME. Outside a reply window the part does not read the link
(log 34). -/
def State.judgeReply (s : State) (k : Colour) (frame : List Byte) : State :=
  match (s.slot k).message with
  | some ⟨kind, _, .awaiting⟩ =>
    match kind, (s.slot k).state, (s.gauge k).posting with
    | .hello false, _, _ =>
      match goodPayload 0x81 25 frame with
      | some ps => s.judgeHello k (recordOf ps)
      | none => s.failAttempt k
    | .hello true, .genuine r, some p =>
      match goodPayload 0x81 25 frame with
      | some ps => s.judgeResync k r p (recordOf ps)
      | none => s.failAttempt k
    | .prove (some n), .proving r, _ =>
      match goodPayload 0x82 8 frame with
      | some ps => s.judgeProve k r n (.ofNat 64 (fieldAt ps 0 8))
      | none => s.failAttempt k
    | .debit _ _ _, .genuine r, some p =>
      match goodPayload 0x83 17 frame with
      | some ps =>
        let reply := debitReplyOf ps
        if reply.status.toNat ≤ 1 then s.judgeDebit k r p reply else s.failAttempt k
      | none => s.failAttempt k
    | _, _, _ => s
  | _ => s

/-- Bytes arrive on a slot's link (R143). The frame among them ends where its length byte says, and is judged there; while
it is incomplete nothing happens before the reply window's end. -/
def State.takeReply (s : State) (k : Colour) (bytes : List Byte) : State :=
  match delimitFrame bytes with
  | some frame => s.judgeReply k frame
  | none => s

/-! ## Queries -/

/-- The name of a message kind (R156). -/
def MessageKind.name : MessageKind → MessageName
  | .hello _ => .hello
  | .prove _ => .prove
  | .debit _ _ _ => .debit

/-- The answer of CART_QUERY for a slot (R156, R175). -/
def State.cartView (s : State) (k : Colour) : CartView :=
  { state := (s.slot k).state.code
    line := s.pins.lines[k]
    presence := (s.slot k).presence
    record := (s.slot k).state.record
    message := (s.slot k).message.map (fun m => (m.kind.name, m.attempt))
    lastReason := (s.slot k).lastReason
    policy := s.settings.policy
    gauge := s.gauge k
    depleted := s.depleted k
    lowMark := s.lowMarkOf k
    carry := s.carry }

/-- CART_QUERY judged (R156). -/
def judgeCartQuery (f : Frame) (slot : Byte) : State → State :=
  judged 0x40 f true (fun s =>
    match cartSlotOf slot with
    | none => s.answerStatus 0x40 .badArgument
    | some k => s.answer 0x40 .ok (.cart (s.cartView k)))

/-- The slots whose presence is PRESENT (R155). -/
def State.presentSlots (s : State) : List Colour := (List.finRange 4).filter (fun k => (s.slot k).presence == .present)

/-- CART_REPROBE judged (R155). -/
def judgeCartReprobe (f : Frame) (selector : Byte) : State → State :=
  judged 0x41 f false (fun s =>
    if selector = 0xFF then (s.reprobeAll .reprobe).answer 0x41 .ok (.reprobed s.presentSlots)
    else
      match cartSlotOf selector with
      | none => s.answerStatus 0x41 .badArgument
      | some k =>
        if (s.slot k).presence ≠ .present then s.answerStatus 0x41 .state
        else (s.reprobeSlot k .reprobe).answerStatus 0x41 .ok)

/-! ## Presence -/

/-- The presence line of a slot set to a level. -/
def State.setPresenceLine (s : State) (k : Colour) (level : Bool) : State :=
  { s with pins := { s.pins with lines := s.pins.lines.set k level } }

/-- The debounced presence of a slot replaced. -/
def State.setPresence (s : State) (k : Colour) (p : Presence) : State :=
  s.setSlot k { s.slot k with presence := p }

/-- A presence line becomes asserted (R141). -/
def State.lineRises (s : State) (k : Colour) : State :=
  if (s.slot k).presence = .notPresent then s.setPresence k .settling else s

/-- A presence line becomes deasserted (R141, R153). -/
def State.lineDrops (s : State) (k : Colour) : State :=
  match (s.slot k).presence with
  | .notPresent => s
  | .settling => s.setPresence k .notPresent
  | .present =>
    let s1 := s.setPresence k .notPresent
    if (s.slot k).state = .absent then s1 else s1.changeSlot k .absent .removed none

/-- The settling timer of a slot expires with its line still asserted (R141, R160). -/
def State.settled (s : State) (k : Colour) : State :=
  if (s.slot k).presence = .settling ∧ s.pins.lines[k] = true then
    let s1 := s.setPresence k .present
    if (s.slot k).state = .absent ∧ s.power ≠ .sleep then s1.changeSlot k .probing .inserted newHello else s1
  else s

/-! ## The meanings -/

/-- PRESENCE_ASSERT (R141). -/
def execPresenceAssert (k : Colour) (s : State) : Host.Outcome State Fault Refusal :=
  .next (event (State.lineRises · k) (s.setPresenceLine k true))

/-- PRESENCE_DEASSERT (R141, R153). -/
def execPresenceDeassert (k : Colour) (s : State) : Host.Outcome State Fault Refusal :=
  .next (event (State.lineDrops · k) (s.setPresenceLine k false))

/-- SETTLING_EXPIRY (R141). -/
def execSettlingExpiry (k : Colour) (s : State) : Host.Outcome State Fault Refusal :=
  .next (event (State.settled · k) s)

/-- CART_REQUEST_SENT (R143): the request frame has been sent whole, and the reply window starts. -/
def execCartRequestSent (k : Colour) (s : State) : Host.Outcome State Fault Refusal :=
  .next (event (fun s => match (s.slot k).message with
    | some ⟨kind, n, .sending⟩ =>
      (s.emit (.cartFrame k (requestFrame kind))).setMessage k (some ⟨kind, n, .awaiting⟩)
    | _ => s) s)

/-- CART_REQUEST_REFUSED (R143): the cartridge does not take the request, and the attempt fails at once. -/
def execCartRequestRefused (k : Colour) (s : State) : Host.Outcome State Fault Refusal :=
  .next (event (fun s => match (s.slot k).message with
    | some ⟨_, _, .sending⟩ => s.failAttempt k
    | _ => s) s)

/-- REPLY_WINDOW_EXPIRY (R143): no complete frame has arrived by the end of the window. -/
def execReplyWindowExpiry (k : Colour) (s : State) : Host.Outcome State Fault Refusal :=
  .next (event (fun s => match (s.slot k).message with
    | some ⟨_, _, .awaiting⟩ => s.failAttempt k
    | _ => s) s)

/-- ATTEMPT_GAP_EXPIRY (R144): 5 ms after a failed attempt the next begins. -/
def execAttemptGapExpiry (k : Colour) (s : State) : Host.Outcome State Fault Refusal :=
  .next (event (fun s => match (s.slot k).message with
    | some ⟨kind, n, .gap⟩ => s.nextAttempt k ⟨kind, n, .gap⟩
    | _ => s) s)

/-- HELLO_REPLY (R147, R167). -/
def execHelloReply (k : Colour) (bytes : List Byte) (s : State) : Host.Outcome State Fault Refusal :=
  .next (event (State.takeReply · k bytes) s)

/-- PROVE_REPLY (R149). -/
def execProveReply (k : Colour) (bytes : List Byte) (s : State) : Host.Outcome State Fault Refusal :=
  .next (event (State.takeReply · k bytes) s)

/-- DEBIT_REPLY (R166 to R168). -/
def execDebitReply (k : Colour) (bytes : List Byte) (s : State) : Host.Outcome State Fault Refusal :=
  .next (event (State.takeReply · k bytes) s)

/-- CART_QUERY (R156). -/
def execCartQuery (f : Frame) (slot : Byte) (s : State) : Host.Outcome State Fault Refusal :=
  .next (event (receive (.cartQuery f slot) f (judgeCartQuery f slot)) s)

/-- CART_REPROBE (R155). -/
def execCartReprobe (f : Frame) (selector : Byte) (s : State) : Host.Outcome State Fault Refusal :=
  .next (event (receive (.cartReprobe f selector) f (judgeCartReprobe f selector)) s)

end Sys2Proof.Machine
end

