-- ==== Sys2Proof/Machine/Queue.lean ====
section
/-! DEFINITION. The posted-write queue and the flush list as their neighbours see them: entries joining and leaving, flush
marks, wait sets (R47, R51, R54, R58 to R60). -/

namespace Sys2Proof.Machine

/-- Every mask bit of the entry is clear: it has nothing to write (R54). -/
def PwqEntry.allClear (e : PwqEntry) : Bool := e.beats.all (fun b => b.mask == 0)

/-- The capture of an entry's loss (R55). Its request kind is WRITE, that of the posted write, also where the READ of a
read-modify-write failed, for which no rule names the kind (log 49). -/
def PwqEntry.lossCapture (e : PwqEntry) (flag : PathFlag) : Capture :=
  ⟨flag, some .write, some e.source.code, e.jobTag, some e.tid, some e.sysAddr, e.window, true⟩

/-- A flush is told that an entry with the given marks has left the queue (R60). -/
def Flush.told (fl : Flush) (marks : List Nat) (lost : Bool) : Flush :=
  if marks.contains fl.id then { fl with count := fl.count - 1, lost := fl.lost || lost } else fl

/-- A read is told that an entry has left the queue (R58). -/
def TrackerEntry.told (e : TrackerEntry) (id : Nat) : TrackerEntry :=
  match e.state with
  | .held ws => { e with state := .held (ws.filter (· != id)) }
  | _ => e

/-- The head leaves the queue, written or dropped (R52, R55): the flushes that mark it and the reads that wait on it
are told. -/
def State.leaveHead (s : State) (lost : Bool) : State :=
  match s.pwq with
  | [] => s
  | e :: rest =>
    { s with
      pwq := rest
      flushes := s.flushes.map (·.told e.marks lost)
      tracker := s.tracker.map (·.told e.id) }

/-- Up to `n` heads with nothing to write leave the queue as written (R54). -/
def State.leaveEmpties : Nat → State → State
  | 0, s => s
  | n + 1, s =>
    match s.pwq with
    | e :: _ => if e.allClear then State.leaveEmpties n (s.leaveHead false) else s
    | [] => s

/-- The new head, and each after it, leaves as written if it has nothing to write (R54). -/
def State.settleHead (s : State) : State := s.leaveEmpties s.pwq.length

/-- The head entry replaced. -/
def State.setHead (s : State) (e : PwqEntry) : State :=
  match s.pwq with
  | [] => s
  | _ :: rest => { s with pwq := e :: rest }

/-- The head's memory work is done (R52). -/
def State.headWritten (s : State) : State := (s.leaveHead false).settleHead

/-- The head's memory work has failed (R55): flag, capture, and the whole entry dropped. -/
def State.headDropped (s : State) (flag : PathFlag) : State :=
  match s.pwq with
  | [] => s
  | e :: _ => ((s.raiseError (e.lossCapture flag)).leaveHead true).settleHead

/-- The entry of the head's partial units: the first and the last beat that hold one, by number within the entry
(R53). -/
def PwqEntry.rmwBeats (e : PwqEntry) : Nat × Nat :=
  ((e.units.headD e.offset - e.offset) / 32, (e.units.getLastD e.offset - e.offset) / 32)

/-- The head merged with the data its read-modify-write read returned (R53). -/
def PwqEntry.merge (e : PwqEntry) (data : List Beat) : PwqEntry :=
  let start := e.offset + 32 * e.rmwBeats.1
  { e with
    beats := mergeBeats e.key (fun off => data.getD ((off - start) / 32) 0) e.offset e.beats
    units := []
    rmw := false
    state := .merged }

/-- The numbers of the entries that overlap a memory range (R57). -/
def State.overlapping (s : State) (a n : Nat) : List Nat :=
  (s.pwq.filter (fun e => e.overlapsRange a n)).map (·.id)

end Sys2Proof.Machine
end

