-- ==== Sys2Proof/Machine/Windows.lean ====
section
/-! DEFINITION. The window commands and the end of a window's drain (chapter 2, R182). -/

namespace Sys2Proof.Machine

/-! ## Scrub jobs of a window -/

/-- The job is a REKEY of a window. -/
def Job.isRekeyOf (j : Job) (i : WindowIdx) : Bool := j.kind == .rekey && j.window.index == i

/-- The job is an ERASE of a window. -/
def Job.isEraseOf (j : Job) (i : WindowIdx) : Bool := j.kind != .rekey && j.window.index == i

/-- The channel that holds a job of a sort. -/
def State.channelWith (s : State) (p : Job → Bool) : Option ChannelId :=
  (List.finRange 2).find? (fun c => (s.chan c).job.any p)

/-- The window has a REKEY job, queued or held by a channel (R182). -/
def State.hasRekey (s : State) (i : WindowIdx) : Bool :=
  s.scrub.queue.any (·.isRekeyOf i) || (s.channelWith (·.isRekeyOf i)).isSome

/-- A REKEY job of the window runs on a channel in state RUNNING (R30). -/
def State.rekeyRunning (s : State) (i : WindowIdx) : Bool :=
  (List.finRange 2).any (fun c => (s.chan c).state == .running && (s.chan c).job.any (·.isRekeyOf i))

/-- Assignment of scrub jobs is not held back (R178, R192, R193, log 23). -/
def State.assigns (s : State) : Bool := s.power == .run && s.resetRec.progress.isNone

/-- The mark as channel `c` becomes IDLE (R178, log 24). The two channels became IDLE together where the other one did
so last, nothing was assigned in between and two jobs or more wait. -/
def State.markAtIdle (s : State) (c : ChannelId) : IdleMark :=
  if s.assigns = false ∨ s.scrub.queue = [] then .settled
  else if s.scrub.idleMark = .fresh (1 - c) ∧ 2 ≤ s.scrub.queue.length then .together
  else .fresh c

/-- A channel becomes IDLE (R178). -/
def State.idleChannel (s : State) (c : ChannelId) : State :=
  let s' := s.setChan c {}
  { s' with scrub := { s'.scrub with idleMark := s.markAtIdle c } }

/-- A job joins the newest end of the scrub queue (R177). -/
def State.joinQueue (s : State) (j : Job) : State := { s with scrub := { s.scrub with queue := s.scrub.queue ++ [j] } }

/-! ## Drain -/

/-- No posted write and no tracked read belongs to the window (R33). -/
def State.drained (s : State) (w : WindowRef) : Bool :=
  s.pwq.all (fun e => e.window != some w) && s.tracker.all (fun e => e.window != some w)

/-- The drain of a RETIRING window ends (R34): the keys are destroyed and the window becomes FREE or is queued for its
erase. In a reset it stays RETIRING. -/
def State.endDrain (s : State) (i : WindowIdx) : State :=
  let w := s.window i
  let s1 := s.destroyKeys i
  if s.resetRec.progress.isSome then s1
  else if w.passes = [] then s1.freeWindow i false
  else (s1.setWindow i { w with state := .retiring .erasing }).joinQueue ⟨.erase w.passes, w.ref i⟩

/-- The drain of a window ends where nothing of the window is left in the queue and the tracker (R33). -/
def State.endDrainIfDone (s : State) (i : WindowIdx) : State :=
  if (s.window i).state = .retiring .draining ∧ s.drained ((s.window i).ref i) = true then s.endDrain i else s

/-! ## WINDOW_OPEN -/

/-- The arguments of a WINDOW_OPEN that pass R26. -/
structure OpenWindow where
  kind : WindowKind
  sysBase : Addr
  memBase : Addr
  sizeCode : Fin 20
  owner : JobTag
  modes : Modes
  stride : Nat
  scanAccount : Fin 128

/-- The stride and the scan account of a WINDOW_OPEN, where they pass R26: the scan account of a window of another kind
is ignored. -/
def State.scanFields (s : State) (kind : WindowKind) (size stride : Nat) (account : Byte) : Option (Nat × Fin 128) :=
  match kind with
  | .scan =>
    match accountOf account with
    | some a =>
      if stride ≠ 0 ∧ stride % 4096 = 0 ∧ stride ≤ size ∧ (s.account a).state ≠ .unused then some (stride, a) else none
    | none => none
  | _ => if stride = 0 then some (0, 0) else none

/-- The checks of R26 on the arguments. -/
def State.checkWindow (s : State) (a : WindowOpenArgs) : Option OpenWindow :=
  match kindOf a.kind, sizeCodeOf a.sizeCode, addrOf a.sysBase, addrOf a.memBase, modesOf a.modes with
  | some kind, some code, some sys, some mem, some modes =>
    match s.scanFields kind (sizeOfCode code) a.stride.toNat a.scanAccount with
    | some (stride, acc) =>
      if sys.toNat % sizeOfCode code = 0 ∧ mem.toNat % sizeOfCode code = 0 then
        some ⟨kind, sys, mem, code, a.owner, modes, stride, acc⟩
      else none
    | none => none
  | _, _, _, _, _ => none

/-- The lowest-numbered FREE index (R27). -/
def State.freeIndex (s : State) : Option WindowIdx := (List.finRange 16).find? (fun i => (s.window i).state == .free)

/-- A new range shares a byte with that of a window that is not FREE (R21). -/
def State.rangeTaken (s : State) (o : OpenWindow) : Bool :=
  (List.finRange 16).any (fun i =>
    let w := s.window i
    w.live && (overlaps o.sysBase.toNat (sizeOfCode o.sizeCode) w.sysBase.toNat w.size
      || overlaps o.memBase.toNat (sizeOfCode o.sizeCode) w.memBase.toNat w.size))

/-- The entry an accepted WINDOW_OPEN makes (R27). -/
def OpenWindow.entry (o : OpenWindow) (generation : BitVec 16) : Window :=
  { state := .opened
    kind := o.kind
    sysBase := o.sysBase
    memBase := o.memBase
    sizeCode := o.sizeCode
    owner := o.owner
    modes := o.modes
    stride := o.stride
    slotCount := if o.kind = .scan then slotCountOf (sizeOfCode o.sizeCode) o.stride else 0
    scanAccount := o.scanAccount
    generation := generation }

/-- A fresh key is drawn into a window's key slot (R36, R38). -/
def State.drawKey (s : State) (i : WindowIdx) : State :=
  { s with keys := { s.keys with slots := s.keys.slots.set i (some s.draws) }, draws := s.draws + 1 }

/-- WINDOW_OPEN judged (R26, R27). -/
def judgeWindowOpen (f : Frame) (a : WindowOpenArgs) : State → State :=
  judged 0x10 f false (fun s =>
    match s.checkWindow a with
    | none => s.answerStatus 0x10 .badArgument
    | some o =>
      match s.freeIndex with
      | none => s.answerStatus 0x10 .noRoom
      | some i =>
        if s.rangeTaken o then s.answerStatus 0x10 .overlap
        else
          let g := (s.window i).generation + 1
          ((s.drawKey i).setWindow i (o.entry g)).answer 0x10 .ok (.windowOpened i g))

/-! ## WINDOW_POLICY and WINDOW_SEAL -/

/-- WINDOW_POLICY judged (R28). A mode code that names no mode is BAD_ARGUMENT on a FREE or RETIRING index too, where R28
has NOT_FOUND or STATE and nothing gives the order (log 44). -/
def judgeWindowPolicy (f : Frame) (index : Byte) (owner : JobTag) (modes : ModeBytes) : State → State :=
  judged 0x11 f false (fun s =>
    match indexOf index, modesOf modes with
    | some i, some m =>
      match (s.window i).state with
      | .free => s.answerStatus 0x11 .notFound
      | .retiring _ => s.answerStatus 0x11 .state
      | _ => (s.setWindow i { s.window i with owner := owner, modes := m }).answerStatus 0x11 .ok
    | _, _ => s.answerStatus 0x11 .badArgument)

/-- WINDOW_SEAL judged (R29). -/
def judgeWindowSeal (f : Frame) (index : Byte) : State → State :=
  judged 0x12 f false (fun s =>
    match indexOf index with
    | none => s.answerStatus 0x12 .badArgument
    | some i =>
      match (s.window i).state with
      | .free => s.answerStatus 0x12 .notFound
      | .retiring _ => s.answerStatus 0x12 .state
      | _ => (s.setWindow i { s.window i with state := .sealed }).answerStatus 0x12 .ok)

/-! ## WINDOW_RETIRE -/

/-- The capture of an error of a tracked read (R14, R32, R67). -/
def TrackerEntry.capture (e : TrackerEntry) (flag : PathFlag) : Capture :=
  ⟨flag, some .read, some e.source.code, e.jobTag, some e.tid, some e.sysAddr, e.window, false⟩

/-- A held read of a window. -/
def TrackerEntry.heldFor (e : TrackerEntry) (w : WindowRef) : Bool :=
  match e.state with
  | .held _ => e.window == some w
  | _ => false

/-- A held read is answered DENIED (R32). -/
def State.denyHeld (s : State) (e : TrackerEntry) : State :=
  ((s.respond e.source.code e.tid .denied).raiseError (e.capture .denied)).freeTid e.source e.tid

/-- Every held read of a window is answered DENIED and freed (R32), in the order of the tracker, the oldest first, which
R32 and R79 leave open (log 20). -/
def State.denyHeldReads (s : State) (w : WindowRef) : State :=
  let s1 := (s.tracker.filter (·.heldFor w)).foldl State.denyHeld s
  { s1 with tracker := s.tracker.filter (fun e => !e.heldFor w) }

/-- The spare slots with one that is reserved for a window and holds no key freed (R32, R37). -/
def freeReserved (i : WindowIdx) (spares : Vector Spare 2) : Vector Spare 2 :=
  mapVec (fun x => if x = .reserved i then .free else x) spares

/-- The scrub engine with the window's REKEY job out of the queue (R32, R177). Where that was the last job waiting, no
channel waits for one any more (log 24). -/
def ScrubEngine.dropRekey (e : ScrubEngine) (i : WindowIdx) : ScrubEngine :=
  let rest := e.queue.filter (fun j => !j.isRekeyOf i)
  { e with
    queue := rest
    idleMark := if e.queue.any (·.isRekeyOf i) && rest.isEmpty then .settled else e.idleMark }

/-- The window's REKEY job is ended (R32). A channel that holds it is SUSPENDED or FAILED. -/
def State.endRekey (s : State) (i : WindowIdx) : State :=
  let s1 := { s with
    scrub := s.scrub.dropRekey i
    keys := { s.keys with spares := freeReserved i s.keys.spares } }
  match s1.channelWith (·.isRekeyOf i) with
  | some c => s1.idleChannel c
  | none => s1

/-- An accepted WINDOW_RETIRE (R31, R32, R33). -/
def State.retire (s : State) (i : WindowIdx) (passes : List Pattern) : State :=
  let w := (s.window i).ref i
  let s1 := s.setWindow i { s.window i with state := .retiring .draining, passes := passes }
  let s2 := (s1.denyHeldReads w).invalidateLines (fun l => l.window == w)
  (s2.endRekey i).endDrainIfDone i

/-- WINDOW_RETIRE judged (R30). -/
def judgeWindowRetire (f : Frame) (index count p q r : Byte) : State → State :=
  judged 0x13 f false (fun s =>
    match indexOf index, passesOf count p q r with
    | some i, some passes =>
      match (s.window i).state with
      | .free => s.answerStatus 0x13 .notFound
      | .retiring _ => s.answerStatus 0x13 .state
      | _ =>
        if ((s.window i).kind = .print ∧ 0 < (s.window i).livePages) ∨ s.rekeyRunning i = true then
          s.answerStatus 0x13 .busy
        else (s.retire i passes).answerStatus 0x13 .ok
    | _, _ => s.answerStatus 0x13 .badArgument)

/-! ## WINDOW_REKEY -/

/-- The lowest-numbered FREE spare slot (R37). -/
def State.freeSpare (s : State) : Option (Fin 2) := (List.finRange 2).find? (fun k => s.keys.spares[k] == .free)

/-- A spare slot is reserved for a window (R37, R182). -/
def State.reserveSpare (s : State) (k : Fin 2) (i : WindowIdx) : State :=
  { s with keys := { s.keys with spares := s.keys.spares.set k (.reserved i) } }

/-- WINDOW_REKEY judged (R182). -/
def judgeWindowRekey (f : Frame) (index : Byte) : State → State :=
  judged 0x14 f false (fun s =>
    match indexOf index with
    | none => s.answerStatus 0x14 .badArgument
    | some i =>
      match (s.window i).state with
      | .free => s.answerStatus 0x14 .notFound
      | .retiring _ => s.answerStatus 0x14 .state
      | _ =>
        let job : Job := ⟨.rekey, (s.window i).ref i⟩
        if s.hasRekey i then s.answerStatus 0x14 .busy
        else if (s.spareKey i).isSome then (s.joinQueue job).answerStatus 0x14 .ok
        else
          match s.freeSpare with
          | none => s.answerStatus 0x14 .busy
          | some k => ((s.reserveSpare k i).joinQueue job).answerStatus 0x14 .ok)

/-! ## WINDOW_QUERY -/

/-- The re-key status of a window (R35). -/
def State.rekeyStatus (s : State) (i : WindowIdx) : RekeyStatus :=
  if s.scrub.queue.any (·.isRekeyOf i) then .queued
  else
    match s.channelWith (·.isRekeyOf i) with
    | some c => .onChannel c (s.chan c).state
    | none => if (s.spareKey i).isSome then .twoKey else .none

/-- Where the erase job of a window in ERASING is (R35). In a reset, which has discarded the job (R192), it is given as
queued until the window is FREE (log 45). -/
def State.erasePlace (s : State) (i : WindowIdx) : Option ErasePlace :=
  if (s.window i).state = .retiring .erasing then
    match s.channelWith (·.isEraseOf i) with
    | some c => some (.onChannel c)
    | none => some .queued
  else none

/-- WINDOW_QUERY judged (R35). -/
def judgeWindowQuery (f : Frame) (index : Byte) : State → State :=
  judged 0x15 f true (fun s =>
    match indexOf index with
    | none => s.answerStatus 0x15 .badArgument
    | some i =>
      let w := s.window i
      if w.state = .free then s.answer 0x15 .ok (.window w.freed .none none none)
      else
        s.answer 0x15 .ok
          (.window w (s.rekeyStatus i) (if (s.spareKey i).isSome then some w.cursor else none) (s.erasePlace i)))

/-! ## The meanings -/

/-- WINDOW_OPEN (R26, R27). -/
def execWindowOpen (f : Frame) (a : WindowOpenArgs) (s : State) : Host.Outcome State Fault Refusal :=
  .next (event (receive (.windowOpen f a) f (judgeWindowOpen f a)) s)

/-- WINDOW_POLICY (R28). -/
def execWindowPolicy (f : Frame) (index : Byte) (owner : JobTag) (modes : ModeBytes) (s : State) :
    Host.Outcome State Fault Refusal :=
  .next (event (receive (.windowPolicy f index owner modes) f (judgeWindowPolicy f index owner modes)) s)

/-- WINDOW_SEAL (R29). -/
def execWindowSeal (f : Frame) (index : Byte) (s : State) : Host.Outcome State Fault Refusal :=
  .next (event (receive (.windowSeal f index) f (judgeWindowSeal f index)) s)

/-- WINDOW_RETIRE (R30 to R34). -/
def execWindowRetire (f : Frame) (index count p q r : Byte) (s : State) : Host.Outcome State Fault Refusal :=
  .next (event (receive (.windowRetire f index count p q r) f (judgeWindowRetire f index count p q r)) s)

/-- WINDOW_REKEY (R182). -/
def execWindowRekey (f : Frame) (index : Byte) (s : State) : Host.Outcome State Fault Refusal :=
  .next (event (receive (.windowRekey f index) f (judgeWindowRekey f index)) s)

/-- WINDOW_QUERY (R35). -/
def execWindowQuery (f : Frame) (index : Byte) (s : State) : Host.Outcome State Fault Refusal :=
  .next (event (receive (.windowQuery f index) f (judgeWindowQuery f index)) s)

/-- WINDOW_DRAIN_END (R33, R34). -/
def execWindowDrainEnd (i : WindowIdx) (s : State) : Host.Outcome State Fault Refusal :=
  .next (event (State.endDrainIfDone · i) s)

end Sys2Proof.Machine
end

