-- ==== Sys2Proof/Machine/Scrub.lean ====
section
/-! DEFINITION. The scrub engine (chapter 10): assignment, chunk lock, the ends of its reads and writes, failure, and the
commands on channels. -/

namespace Sys2Proof.Machine

/-! ## Progress -/

/-- The chunk offset a channel's progress names: the pass offset of an erase, the cursor of a re-key (R176). -/
def State.chunkOf (s : State) (c : ChannelId) : Nat :=
  match (s.chan c).job with
  | some j =>
    match j.kind with
    | .erase _ => (s.chan c).offset
    | .rekey => (s.window j.window.index).cursor
  | none => 0

/-- A channel at the start of a chunk it may take at once (R179). -/
def Channel.toReady (x : Channel) : Channel := { x with state := .running, step := .ready }

/-- A channel that waits for the chunk at its window's cursor (R183). -/
def Channel.toWaiting (x : Channel) : Channel :=
  { x with state := .running, step := .waiting, lock := none, buffer := none }

/-- A channel that enters SUSPENDED with its progress kept (R187). -/
def Channel.toSuspended (x : Channel) : Channel :=
  { x with state := .suspended, step := .waiting, lock := none, suspendReq := false, buffer := none }

/-- The step a job of a kind takes up after a point of rest: an erase asks at once, a re-key waits (R180, R183). -/
def Channel.takeUp (x : Channel) (kind : JobKind) : Channel :=
  match kind with
  | .erase _ => x.toReady
  | .rekey => x.toWaiting

/-- A channel at a point of rest (R187): it suspends if asked to, and otherwise takes up its next chunk. -/
def Channel.rest (x : Channel) (kind : JobKind) : Channel :=
  if x.suspendReq then x.toSuspended else x.takeUp kind

/-! ## Assignment -/

/-- A reserved spare slot of a window filled with a fresh key (R183). -/
def fillSpare (i : WindowIdx) (key : KeyRef) (spares : Vector Spare 2) : Vector Spare 2 :=
  mapVec (fun x => if x = .reserved i then .holding i key else x) spares

/-- The window's spare key is settled as its re-key job starts (R183): a HOLDING slot is kept with the cursor, a
RESERVED one is filled and the cursor starts at 0. -/
def State.settleSpare (s : State) (i : WindowIdx) : State :=
  match s.spareKey i with
  | some _ => s
  | none =>
    { s.setWindow i { s.window i with cursor := 0 } with
      keys := { s.keys with spares := fillSpare i s.draws s.keys.spares }
      draws := s.draws + 1 }

/-- A job is given to a channel (R178, R180, R183). -/
def State.assignJob (s : State) (c : ChannelId) (j : Job) : State :=
  match j.kind with
  | .erase _ => s.setChan c ({ job := some j, pass := 1, offset := 0 : Channel }.toReady)
  | .rekey => (s.settleSpare j.window.index).setChan c ({ job := some j : Channel }.toWaiting)

/-- The channel that takes the oldest job (R178); `first` is the choice left when both became IDLE together (log 24). -/
def State.assignee (s : State) (first : ChannelId) : Option ChannelId :=
  match (s.chan 0).state, (s.chan 1).state with
  | .idle, .idle => if s.scrub.idleMark = .together && decide (2 ≤ s.scrub.queue.length) then some first else some 0
  | .idle, _ => some 0
  | _, .idle => some 1
  | _, _ => none

/-- The oldest queued job is assigned, where one waits, a channel is IDLE and assignment is not held back (R178). -/
def State.assignOldest (s : State) (first : ChannelId) : State :=
  if s.assigns then
    match s.scrub.queue, s.assignee first with
    | j :: rest, some c => { s with scrub := { s.scrub with queue := rest, idleMark := .settled } }.assignJob c j
    | _, _ => s
  else s

/-! ## The chunk lock -/

/-- A tracked read that keeps a chunk from being locked: HELD or ISSUED (R184). -/
def TrackerEntry.waitsOnMemory (e : TrackerEntry) : Bool :=
  match e.state with
  | .delivering _ => false
  | _ => true

/-- Is a memory range free of posted writes and of held and issued reads (R184)? -/
def State.quiet (s : State) (a n : Nat) : Bool :=
  s.pwq.all (fun e => !e.overlapsRange a n)
    && s.tracker.all (fun e => !(e.waitsOnMemory && overlaps e.memAddr.toNat (32 * e.length) a n))

/-- The chunk at the cursor is locked (R184): its prefetch lines are invalidated, and the channel is READY. -/
def State.lockChunk (s : State) (c : ChannelId) : State :=
  match (s.chan c).job with
  | some j =>
    let x := s.chan c
    let off := (s.window j.window.index).cursor
    let a := ((s.window j.window.index).memAt off).toNat
    if x.state = .running ∧ x.step = .waiting ∧ j.kind = .rekey ∧ s.quiet a 256 = true then
      (s.setChan c { x with step := .ready, lock := some off }).invalidateLines
        (fun l => overlaps (s.lineAddr l) 256 a 256)
    else s
  | none => s

/-! ## The ends of a channel's memory work -/

/-- One unit moved from the window's current key to its new key (R185). -/
def State.moveUnit (s : State) (i : WindowIdx) (offset : Nat) (u : CipherUnit) : CipherUnit :=
  encryptUnit (s.spareKey i) offset (decryptUnit s.keys.slots[i] offset u)

/-- The new key moves from the spare slot into the window's key slot (R186). -/
def State.moveKey (s : State) (i : WindowIdx) : State :=
  { s with keys := { slots := s.keys.slots.set i (s.spareKey i), spares := freeSpares i s.keys.spares } }

/-- A re-key ends (R186). -/
def State.endRekeyJob (s : State) (c : ChannelId) (i : WindowIdx) : State :=
  let w := s.window i
  let s1 := ((s.moveKey i).setWindow i { w with cursor := 0 }).note (.rekeyDone (w.ref i))
  s1.idleChannel c

/-- The write of an erase chunk is answered OKAY (R180, R181). -/
def State.eraseWritten (s : State) (c : ChannelId) (i : WindowIdx) (passes : List Pattern) : State :=
  let x := s.chan c
  let off := x.offset + 256
  if off < (s.window i).size then s.setChan c ({ x with offset := off }.rest (.erase passes))
  else if x.pass < passes.length then s.setChan c ({ x with pass := x.pass + 1, offset := 0 }.rest (.erase passes))
  else (s.freeWindow i false).idleChannel c

/-- The write of a re-keyed chunk is answered OKAY (R185): the cursor advances and the lock is released. -/
def State.rekeyWritten (s : State) (c : ChannelId) (i : WindowIdx) : State :=
  let w := s.window i
  let s1 := s.setWindow i { w with cursor := w.cursor + 256 }
  let x := { s.chan c with lock := none, buffer := none }
  if w.cursor + 256 < w.size then s1.setChan c (x.rest .rekey) else (s1.setChan c x).endRekeyJob c i

/-- A channel's request completes (R179, R180, R185). A read's data is moved to the new key and held for the write. -/
def State.scrubDone (s : State) (c : ChannelId) (data : List Beat) : State :=
  let x := s.chan c
  match x.job with
  | none => s
  | some j =>
    match j.kind, x.step with
    | .erase passes, .writing => s.eraseWritten c j.window.index passes
    | .rekey, .reading =>
      let i := j.window.index
      s.setChan c { x with step := .ready, buffer := some (mapUnits (s.moveUnit i) (s.window i).cursor data) }
    | .rekey, .writing => s.rekeyWritten c j.window.index
    | _, _ => s

/-- The flag of a failure cause (R189). -/
def FailCause.flag : FailCause → PathFlag
  | .memError => .memError
  | .memTimeout => .memTimeout
  | .rdataParity => .rdataParity

/-- The request kind of a memory operation. -/
def MemOp.kind : MemOp → ReqKind
  | .read => .read
  | .write => .write

/-- The pass that SCRUB_FAILED names (R189): an erase's pass under way; a re-key has none, and 0 stands for it (log 43). -/
def Channel.failedPass (x : Channel) (j : Job) : Nat :=
  match j.kind with
  | .erase _ => x.pass
  | .rekey => 0

/-- A channel's request fails (R189): flag and capture, FAILED with its progress kept, lock released, SCRUB_FAILED. -/
def State.scrubFailed (s : State) (c : ChannelId) (op : MemOp) (cause : FailCause) : State :=
  let x := s.chan c
  match x.job with
  | none => s
  | some j =>
    let off := s.chunkOf c
    let addr := (s.window j.window.index).sysBase + BitVec.ofNat 36 off
    let s1 := s.raiseError ⟨cause.flag, some op.kind, none, 0, none, some addr, some j.window, false⟩
    (s1.setChan c { x with
      state := .failed, step := .waiting, lock := none, suspendReq := false, buffer := none
      failure := some (op, cause) }).note (.scrubFailed c j (x.failedPass j) off op cause)

/-! ## Commands on channels -/

/-- A channel is at a point of rest now (R187): an erase with no request outstanding, a re-key that waits. -/
def Channel.atRest (x : Channel) (kind : JobKind) : Bool :=
  match kind with
  | .erase _ => x.step == .ready
  | .rekey => x.step == .waiting

/-- SCRUB_SUSPEND judged (R187). -/
def judgeScrubSuspend (f : Frame) (channel : Byte) : State → State :=
  judged 0x51 f false (fun s =>
    match channelOf channel with
    | none => s.answerStatus 0x51 .badArgument
    | some c =>
      let x := s.chan c
      match x.state, x.job with
      | .running, some j =>
        if x.atRest j.kind then (s.setChan c x.toSuspended).answerStatus 0x51 .ok
        else (s.setChan c { x with suspendReq := true }).answerStatus 0x51 .ok
      | .suspended, _ => s.answerStatus 0x51 .ok
      | _, _ => s.answerStatus 0x51 .state)

/-- SCRUB_RESUME judged (R188). A channel value that names none is BAD_ARGUMENT in ENTERING too, where R188 would have
BUSY and nothing gives the order (log 42). -/
def judgeScrubResume (f : Frame) (channel : Byte) : State → State :=
  judged 0x52 f false (fun s =>
    match channelOf channel with
    | none => s.answerStatus 0x52 .badArgument
    | some c =>
      let x := s.chan c
      if s.power = .entering then s.answerStatus 0x52 .busy
      else
        match x.state, x.job with
        | .running, _ => (s.setChan c { x with suspendReq := false }).answerStatus 0x52 .ok
        | .suspended, some j => (s.setChan c ({ x with failure := none }.takeUp j.kind)).answerStatus 0x52 .ok
        | .failed, some j => (s.setChan c ({ x with failure := none }.takeUp j.kind)).answerStatus 0x52 .ok
        | _, _ => s.answerStatus 0x52 .state)

/-- The job of a channel is abandoned (R190): the window of an erase becomes FREE with the incomplete flag, that of a
re-key keeps its two keys. -/
def State.abandon (s : State) (c : ChannelId) (j : Job) : State :=
  match j.kind with
  | .erase _ => (s.freeWindow j.window.index true).idleChannel c
  | .rekey => s.idleChannel c

/-- SCRUB_ABANDON judged (R190). -/
def judgeScrubAbandon (f : Frame) (channel : Byte) : State → State :=
  judged 0x53 f false (fun s =>
    match channelOf channel with
    | none => s.answerStatus 0x53 .badArgument
    | some c =>
      match (s.chan c).state, (s.chan c).job with
      | .suspended, some j => (s.abandon c j).answerStatus 0x53 .ok
      | .failed, some j => (s.abandon c j).answerStatus 0x53 .ok
      | _, _ => s.answerStatus 0x53 .state)

/-- A channel as SCRUB_QUERY shows it: without its buffer, with the cursor of a re-key (R191). -/
def State.channelView (s : State) (c : ChannelId) : Channel × Option Nat :=
  ({ s.chan c with buffer := none },
    match (s.chan c).job with
    | some j => if j.kind = .rekey then some (s.window j.window.index).cursor else none
    | none => none)

/-- The windows in the two-key state with no job, with their cursors (R190, R191). -/
def State.twoKeyWindows (s : State) : List (WindowIdx × Nat) :=
  ((List.finRange 16).filter (fun i => (s.spareKey i).isSome && !s.hasRekey i)).map (fun i => (i, (s.window i).cursor))

/-- The condition of a spare slot without its key (R191). -/
def Spare.view : Spare → SpareView
  | .free => .free
  | .reserved i => .reserved i
  | .holding i _ => .holding i

/-- SCRUB_QUERY judged (R191). -/
def judgeScrubQuery (f : Frame) : State → State :=
  judged 0x50 f true (fun s =>
    s.answer 0x50 .ok
      (.scrub ⟨[s.channelView 0, s.channelView 1], s.scrub.queue, s.keys.spares.toList.map Spare.view, s.twoKeyWindows⟩))

/-! ## The meanings -/

/-- SCRUB_JOB_ASSIGN (R178). -/
def execScrubJobAssign (first : ChannelId) (s : State) : Host.Outcome State Fault Refusal :=
  .next (event (State.assignOldest · first) s)

/-- CHUNK_LOCK (R184). -/
def execChunkLock (c : ChannelId) (s : State) : Host.Outcome State Fault Refusal :=
  .next (event (State.lockChunk · c) s)

/-- SCRUB_SUSPEND (R187). -/
def execScrubSuspend (f : Frame) (channel : Byte) (s : State) : Host.Outcome State Fault Refusal :=
  .next (event (receive (.scrubSuspend f channel) f (judgeScrubSuspend f channel)) s)

/-- SCRUB_RESUME (R188). -/
def execScrubResume (f : Frame) (channel : Byte) (s : State) : Host.Outcome State Fault Refusal :=
  .next (event (receive (.scrubResume f channel) f (judgeScrubResume f channel)) s)

/-- SCRUB_ABANDON (R190). -/
def execScrubAbandon (f : Frame) (channel : Byte) (s : State) : Host.Outcome State Fault Refusal :=
  .next (event (receive (.scrubAbandon f channel) f (judgeScrubAbandon f channel)) s)

/-- SCRUB_QUERY (R191). -/
def execScrubQuery (f : Frame) (s : State) : Host.Outcome State Fault Refusal :=
  .next (event (receive (.scrubQuery f) f (judgeScrubQuery f)) s)

end Sys2Proof.Machine
end

