-- ==== Sys2Proof/Machine/MemPort.lean ====
section
/-! DEFINITION. The memory port and its arbiter: MEMORY_GRANT, MEMORY_RESPONSE, MEMORY_TIMEOUT and TID_QUARANTINE_END
(R13, R14, R52 to R55, R66 to R68, R71, R75 to R77, R179). -/

namespace Sys2Proof.Machine

/-! ## The choice of a grant -/

/-- The requesters of the arbiter (R75). -/
inductive Grantee where
  | rmwRead
  | demand (age : Nat)
  | drain
  | prefetch (line : Fin 8)
  | scrub (channel : ChannelId)
deriving DecidableEq, Repr

/-- The head waits for its read-modify-write read (R75). -/
def State.rmwWaits (s : State) : Bool :=
  match s.pwq with
  | e :: _ => e.state == .queued && e.rmw
  | [] => false

/-- The head waits for its write (R52, R53, R75). -/
def State.drainWaits (s : State) : Bool :=
  match s.pwq with
  | e :: _ => (e.state == .queued && !e.rmw && !e.allClear) || e.state == .merged
  | [] => false

/-- A tracker entry waits for a demand-read slot (R66). -/
def TrackerEntry.asks (e : TrackerEntry) : Bool := e.state == .issued none

/-- The smallest of a list of numbers. -/
def leastOf : List Nat → Option Nat
  | [] => none
  | x :: xs =>
    match leastOf xs with
    | some y => some (min x y)
    | none => some x

/-- The age of the oldest demand read that waits (R66). -/
def State.oldestDemand (s : State) : Option Nat := leastOf ((s.tracker.filter (·.asks)).map (·.age))

/-- The line waits for a prefetch slot (R70). -/
def Line.asks (l : Line) : Bool := l.state == .filling none

/-- The waiting line that was allocated first (R70, R75). -/
def State.firstPrefetch (s : State) : Option (Fin 8) :=
  let waiting := (List.finRange 8).filterMap (fun i => match s.line i with
    | some l => if l.asks then some (l.order, i) else none
    | none => none)
  match leastOf (waiting.map (·.1)) with
  | some o => (waiting.find? (fun x => x.1 == o)).map (·.2)
  | none => none

/-- The choice at precedence 2: alternating when both wait (R75, R80). -/
def State.chooseSecond (s : State) : Option Grantee :=
  match s.oldestDemand, s.drainWaits with
  | some a, true => if s.mem.lastSecond = some .demand then some .drain else some (.demand a)
  | some a, false => some (.demand a)
  | none, true => some .drain
  | none, false => none

/-- The choice between the scrub channels: round robin when both wait (R75, R80). -/
def State.chooseScrub (s : State) : Option Grantee :=
  match (s.chan 0).asks, (s.chan 1).asks with
  | true, true => if s.mem.lastScrub = some 0 then some (.scrub 1) else some (.scrub 0)
  | true, false => some (.scrub 0)
  | false, true => some (.scrub 1)
  | false, false => none

/-- The requester of highest precedence that waits (R75). -/
def State.chooseByPrecedence (s : State) : Option Grantee :=
  if s.rmwWaits then some .rmwRead
  else
    match s.chooseSecond with
    | some g => some g
    | none =>
      match s.firstPrefetch with
      | some i => some (.prefetch i)
      | none => s.chooseScrub

/-- The scrub share forces the next grant to a scrub channel (R76). -/
def State.shareDue (s : State) : Bool := anyAsks s.scrub.chans && decide (s.settings.scrubShare - 1 ≤ s.mem.share)

/-- The requester the arbiter grants next (R75, R76). -/
def State.chooseGrant (s : State) : Option Grantee := if s.shareDue then s.chooseScrub else s.chooseByPrecedence

/-- The lowest memory tid that is neither outstanding nor quarantined (R77). -/
def State.freeMemTid (s : State) : Option MemTid := (List.finRange 32).find? (fun t => s.memTid t == .free)

/-! ## The issue of a request -/

/-- A beat with freshly generated parity (R13, R52). -/
def driveBeat (b : QueuedBeat) : DrivenBeat := ⟨b.data, b.mask, dataParityOf b.data⟩

/-- A whole beat with freshly generated parity (R179). -/
def driveWhole (d : Beat) : DrivenBeat := driveBeat ⟨d, BitVec.allOnes 32⟩

/-- A memory request is issued under a tid, timed by the memory timeout in force (R13, R68, R77). -/
def State.issue (s : State) (t : MemTid) (op : MemOp) (who : Consumer) (src : Source) (tag : JobTag) (a : Addr) (n : Nat)
    (beats : List DrivenBeat) : State :=
  (s.setMemTid t (.outstanding ⟨op, who, src, tag, a, n, s.settings.memTimeout⟩)).emit
    (.memRequest t op src tag a (addrParityOf a) n beats)

/-- The grant of the head's read-modify-write read (R53). -/
def State.grantRmw (s : State) (t : MemTid) : State :=
  match s.pwq with
  | [] => s
  | e :: _ =>
    let b := e.rmwBeats
    (s.setHead { e with state := .rmwRead }).issue t .read (.rmwRead e.id) e.source e.jobTag
      (e.memAddr + BitVec.ofNat 36 (32 * b.1)) (b.2 + 1 - b.1) []

/-- The grant of the head's write (R52). -/
def State.grantDrain (s : State) (t : MemTid) : State :=
  match s.pwq with
  | [] => s
  | e :: _ =>
    (s.setHead { e with state := .writing }).issue t .write (.drain e.id) e.source e.jobTag e.memAddr e.length
      (e.beats.map driveBeat)

/-- The tracker entry of an age. -/
def State.entryOf (s : State) (age : Nat) : Option TrackerEntry := s.tracker.find? (fun e => e.age == age)

/-- The tracker entry of an age replaced. -/
def State.setEntry (s : State) (age : Nat) (e : TrackerEntry) : State :=
  { s with tracker := s.tracker.map (fun x => if x.age == age then e else x) }

/-- The tracker entry of an age freed. -/
def State.dropEntry (s : State) (age : Nat) : State := { s with tracker := s.tracker.filter (fun x => x.age != age) }

/-- The grant of a demand read (R66). -/
def State.grantDemand (s : State) (t : MemTid) (age : Nat) : State :=
  match s.entryOf age with
  | none => s
  | some e =>
    (s.setEntry age { e with state := .issued (some t) }).issue t .read (.demand age) e.source e.jobTag e.memAddr e.length []

/-- The grant of a prefetch, which carries source PRINT and the job tag of the read that started it (R71). -/
def State.grantPrefetch (s : State) (t : MemTid) (i : Fin 8) : State :=
  match s.line i with
  | none => s
  | some l =>
    (s.setLine i (some { l with state := .filling (some t) })).issue t .read (.prefetch i) .print l.jobTag
      (BitVec.ofNat 36 (s.lineAddr l)) l.beats []

/-- The data of an erase write (R180); RANDOM draws it from the generator. -/
def eraseData (p : Pattern) (draw : Nat) : List Beat :=
  match p with
  | .zero => List.replicate 8 0
  | .ones => List.replicate 8 (BitVec.allOnes 256)
  | .random => (List.range 8).map (Config.randomBeat draw)

/-- The pattern of the pass an erase runs. -/
def Channel.pattern (x : Channel) (passes : List Pattern) : Pattern := passes.getD (x.pass - 1) .zero

/-- One draw used where a RANDOM pattern is written (R38, R180). -/
def State.drawFor (s : State) (p : Pattern) : State := if p = .random then { s with draws := s.draws + 1 } else s

/-- The grant of a scrub channel's read or write, with source SERVICE and job tag 0 (R179). -/
def State.grantScrub (s : State) (t : MemTid) (c : ChannelId) : State :=
  let x := s.chan c
  match x.job with
  | none => s
  | some j =>
    let a := (s.window j.window.index).memAt (s.chunkOf c)
    match j.kind, x.buffer with
    | .erase passes, _ =>
      let p := x.pattern passes
      ((s.setChan c { x with step := .writing }).issue t .write (.scrub c) .service 0 a 8
        ((eraseData p s.draws).map driveWhole)).drawFor p
    | .rekey, none => (s.setChan c { x with step := .reading }).issue t .read (.scrub c) .service 0 a 8 []
    | .rekey, some beats =>
      (s.setChan c { x with step := .writing }).issue t .write (.scrub c) .service 0 a 8 (beats.map driveWhole)

/-- The share count and the alternation state after a grant (R75, R76). -/
def MemPort.booked (m : MemPort) (g : Grantee) (scrubWaits : Bool) : MemPort :=
  match g with
  | .scrub c => { m with share := 0, lastScrub := some c }
  | .demand _ => { m with share := if scrubWaits then m.share + 1 else m.share, lastSecond := some .demand }
  | .drain => { m with share := if scrubWaits then m.share + 1 else m.share, lastSecond := some .drain }
  | _ => { m with share := if scrubWaits then m.share + 1 else m.share }

/-- A grant is made (R75 to R77). -/
def State.grant (s : State) (t : MemTid) (g : Grantee) : State :=
  let s1 := { s with mem := s.mem.booked g (anyAsks s.scrub.chans) }
  match g with
  | .rmwRead => s1.grantRmw t
  | .demand age => s1.grantDemand t age
  | .drain => s1.grantDrain t
  | .prefetch i => s1.grantPrefetch t i
  | .scrub c => s1.grantScrub t c

/-- The next grant, where a tid is free and a requester waits (R75). -/
def State.grantNext (s : State) : State :=
  match s.freeMemTid, s.chooseGrant with
  | some t, some g => s.grant t g
  | _, _ => s

/-! ## The end of a request -/

/-- A demand read's data is decrypted where its access says so, under the key the cursor selects now (R67). -/
def State.readData (s : State) (e : TrackerEntry) (data : List Beat) : List Beat :=
  match e.access, e.window with
  | .decrypt, some w => s.decryptBeats w.index e.offset data
  | _, _ => data

/-- A demand read's data has come (R67). -/
def State.demandDone (s : State) (age : Nat) (data : List Beat) : State :=
  match s.entryOf age with
  | none => s
  | some e => s.setEntry age { e with state := .delivering (s.readData e data) }

/-- The capture of a failed demand read (R67). -/
def TrackerEntry.failure (e : TrackerEntry) (cause : FailCause) : Capture :=
  ⟨cause.flag, some .read, some e.source.code, e.jobTag, some e.tid, some e.sysAddr, e.window, false⟩

/-- A demand read has failed (R67, R68): FAULT, flag, capture, and the entry freed. -/
def State.demandFailed (s : State) (age : Nat) (cause : FailCause) : State :=
  match s.entryOf age with
  | none => s
  | some e =>
    (((s.raiseError (e.failure cause)).respond e.source.code e.tid .fault).dropEntry age).freeTid e.source e.tid

/-- The head's read-modify-write read has returned (R53). -/
def State.rmwDone (s : State) (data : List Beat) : State :=
  match s.pwq with
  | [] => s
  | e :: _ => s.setHead (e.merge data)

/-- A prefetch has returned (R71). -/
def State.prefetchDone (s : State) (i : Fin 8) (data : List Beat) : State :=
  match s.line i with
  | none => s
  | some l =>
    (s.setLine i (some { l with
      state := .valid s.seq s.settings.discardTime 0 false (s.decryptBeats l.window.index l.chunk data) })).nextSeq

/-- The channel is RUNNING with a request outstanding (R179). -/
def Channel.hasRequest (x : Channel) : Bool := x.state == .running && (x.step == .reading || x.step == .writing)

/-- A request completes with OKAY and good parity (R14). -/
def State.requestDone (s : State) (r : MemRequest) (data : List Beat) : State :=
  match r.consumer with
  | .demand age => s.demandDone age data
  | .rmwRead _ => s.rmwDone data
  | .drain _ => s.headWritten
  | .prefetch i => s.prefetchDone i data
  | .scrub c => if (s.chan c).hasRequest then s.scrubDone c data else s
  | .discarded => s

/-- A request fails (R14, R68). -/
def State.requestFailed (s : State) (r : MemRequest) (cause : FailCause) : State :=
  match r.consumer with
  | .demand age => s.demandFailed age cause
  | .rmwRead _ => s.headDropped cause.flag
  | .drain _ => s.headDropped cause.flag
  | .prefetch i => s.setLine i none
  | .scrub c => if (s.chan c).hasRequest then s.scrubFailed c r.op cause else s
  | .discarded => s

/-- Some 8-byte group of returned data has bad parity (R14). -/
def badReadParity (beats : List MemBeat) : Bool := beats.any (fun b => dataParityOf b.data != b.parity)

/-- How a response to a request ends it (R14). -/
def responseCause (r : MemRequest) (error : Bool) (beats : List MemBeat) : Option FailCause :=
  if error then some .memError
  else if r.op = .read ∧ badReadParity beats = true then some .rdataParity
  else none

/-- The capture of a response without a request (R77). -/
def unsolicitedCapture (t : MemTid) : Capture :=
  ⟨.unsolicited, none, none, 0, some (BitVec.ofNat 6 t.val), none, none, false⟩

/-- A memory response (R14, R77). -/
def State.memoryResponse (s : State) (t : MemTid) (error : Bool) (beats : Vector MemBeat 8) : State :=
  match s.memTid t with
  | .free => s.raiseError (unsolicitedCapture t)
  | .quarantined _ => (s.setMemTid t .free).raiseError (unsolicitedCapture t)
  | .outstanding r =>
    let data := beats.toList.take r.length
    match responseCause r error data with
    | none => (s.setMemTid t .free).requestDone r (data.map (·.data))
    | some cause => (s.setMemTid t .free).requestFailed r cause

/-- A request's timer expires (R68): its tid is quarantined for four memory timeouts (R77). -/
def State.memoryTimeout (s : State) (t : MemTid) : State :=
  match s.memTid t with
  | .outstanding r => (s.setMemTid t (.quarantined (4 * s.settings.memTimeout))).requestFailed r .memTimeout
  | _ => s

/-- A quarantine has run out (R77). -/
def State.quarantineEnd (s : State) (t : MemTid) : State :=
  match s.memTid t with
  | .quarantined _ => s.setMemTid t .free
  | _ => s

/-! ## The meanings -/

/-- MEMORY_GRANT (R75 to R77). -/
def execMemoryGrant (s : State) : Host.Outcome State Fault Refusal := .next (event State.grantNext s)

/-- MEMORY_RESPONSE (R14). -/
def execMemoryResponse (t : MemTid) (error : Bool) (beats : Vector MemBeat 8) (s : State) :
    Host.Outcome State Fault Refusal :=
  .next (event (fun s => s.memoryResponse t error beats) s)

/-- MEMORY_TIMEOUT (R68). -/
def execMemoryTimeout (t : MemTid) (s : State) : Host.Outcome State Fault Refusal :=
  .next (event (State.memoryTimeout · t) s)

/-- TID_QUARANTINE_END (R77). -/
def execTidQuarantineEnd (t : MemTid) (s : State) : Host.Outcome State Fault Refusal :=
  .next (event (State.quarantineEnd · t) s)

end Sys2Proof.Machine
end

