-- ==== Sys2Proof/Machine/Meter.lean ====
section
/-! DEFINITION. The meter and the commit: METER_READ, COMMIT, and the ends of a commit (R130, R133, R134). -/

namespace Sys2Proof.Machine

/-- METER_READ judged (R130). -/
def judgeMeterRead (f : Frame) (selector : Byte) : State → State :=
  judged 0x38 f true (fun s =>
    match selector.toNat with
    | 0 => s.answer 0x38 .ok (.meter (s.meterView s.meter))
    | 1 =>
      s.answer 0x38 .ok (.meter (s.meterView (match s.nv.newest with
        | some (_, x) => x.meter
        | none => {})))
    | _ => s.answerStatus 0x38 .badArgument)

/-- COMMIT judged (R133). -/
def judgeCommit (f : Frame) : State → State :=
  judged 0x39 f false (fun s =>
    match s.commit.inFlight with
    | some _ => s.answerStatus 0x39 .busy
    | none => (s.startCommit Cause.command.bits).answerStatus 0x39 .ok)

/-- METER_READ (R130). -/
def execMeterRead (f : Frame) (selector : Byte) (s : State) : Host.Outcome State Fault Refusal :=
  .next (event (receive (.meterRead f selector) f (judgeMeterRead f selector)) s)

/-- COMMIT (R133). -/
def execCommit (f : Frame) (s : State) : Host.Outcome State Fault Refusal :=
  .next (event (receive (.commit f) f (judgeCommit f)) s)

/-- COMMIT_END (R134): the bank was written and verified, or the store reported a write error. -/
def execCommitEnd (verified : Bool) (s : State) : Host.Outcome State Fault Refusal :=
  .next (event (fun s => if verified then s.commitDone else s.commitFailed) s)

/-- COMMIT_TIMEOUT (R134): 8 ms passed since the commit's start without a verified write. -/
def execCommitTimeout (s : State) : Host.Outcome State Fault Refusal :=
  .next (event State.commitFailed s)

end Sys2Proof.Machine
end

