-- ==== Sys2Proof/Machine/PageLink.lean ====
section
/-! DEFINITION. The system port: READ, WRITE and FLUSH, judged by the checks of R8 in their order (chapters 1 to 5). -/

namespace Sys2Proof.Machine

/-! ## Intake -/

/-- The capture of a request refused at intake or later, with the fields as received (R5, R8, log 12). A FLUSH has no
address. -/
def requestCapture (flag : PathFlag) (kind : Option ReqKind) (r : PageRequest) (window : Option WindowRef) : Capture :=
  ⟨flag, kind, some r.source, r.jobTag, some r.tid, if kind = some .flush then none else some r.addr, window, false⟩

/-- A refusal: flag, offer to the capture, and DENIED (R7, R8). -/
def State.refuse (s : State) (flag : PathFlag) (kind : Option ReqKind) (r : PageRequest) (window : Option WindowRef) :
    State :=
  (s.raiseError (requestCapture flag kind r window)).respond r.source r.tid .denied

/-- A RETRY, which leaves no trace (R7, R10). -/
def State.retry (s : State) (r : PageRequest) : State := s.respond r.source r.tid .retry

/-- A request that arrives in SLEEP starts the wake (R9, R206). -/
def State.startWake (s : State) : State := if s.power = .sleep then { s with power := .waking } else s

/-- The part of the intake that comes before step 1c (R5, R8, R9): parity, wake and reset, kind, source. `serve` makes
the remaining steps for the source class. A request with the invalid kind code has no address to check (log 11). -/
def State.intake (s : State) (kind : ReqKind) (r : PageRequest) (serve : Source → State → State) : State :=
  if kind ≠ .flush ∧ r.kind ≠ 3 ∧ addrParityGood r = false then s.raiseError (requestCapture .addrParity (some kind) r none)
  else if !s.accepting then s.startWake.retry r
  else if r.kind = 3 then s.refuse .badKind none r none
  else
    match sourceOf r.source with
    | none => s.refuse .badSource (some kind) r none
    | some src => serve src s

/-- The tid is outstanding for the source (R4). -/
def State.tidTaken (s : State) (src : Source) (tid : Tid) : Bool := s.tids.contains (src, tid)

/-! ## Steps 2 and 3 -/

/-- What steps 2 and 3 of R8 decide of a READ or WRITE: refused with a flag and a window; passed through outside every
window (R11); taken in a window as stored, or as plaintext (R23). -/
inductive Verdict where
  | refused (flag : PathFlag) (window : Option WindowRef)
  | pass
  | raw (index : WindowIdx)
  | plain (index : WindowIdx)
deriving DecidableEq, Repr

/-- The owner check (R24). -/
def Window.ownerPasses (w : Window) (tag : JobTag) : Bool := w.owner == 0 || w.owner == tag

/-- Step 3: mode and owner (R23, R24). -/
def Window.judgeMode (w : Window) (i : WindowIdx) (src : Source) (tag : JobTag) (isWrite : Bool) : Verdict :=
  match w.modes.of src with
  | .noAccess => .refused .denied (some (w.ref i))
  | .cipher => .raw i
  | .read => if isWrite || !w.ownerPasses tag then .refused .denied (some (w.ref i)) else .plain i
  | .readWrite => if w.ownerPasses tag then .plain i else .refused .denied (some (w.ref i))

/-- Steps 2 and 3 (R11, R20, R22, R23). -/
def State.judgeAccess (s : State) (src : Source) (r : PageRequest) (isWrite : Bool) : Verdict :=
  match s.findWindow r.addr with
  | none =>
    if src = .scan ∨ src = .print then .refused .denied none
    else if s.aliased r.addr then .refused .aliasHit none
    else .pass
  | some i =>
    let w := s.window i
    if w.retiring || (isWrite && w.state == .sealed) then .refused .denied (some (w.ref i))
    else w.judgeMode i src r.jobTag isWrite

/-- Where a request that passed steps 2 and 3 goes: window and generation, window offset, memory address. -/
structure Place where
  window : Option WindowRef
  offset : Nat
  memAddr : Addr

/-- The place of a pass-through request (R11). -/
def passPlace (r : PageRequest) : Place := ⟨none, 0, r.addr⟩

/-- The place of a request in a window (R19, R20). -/
def State.placeIn (s : State) (i : WindowIdx) (r : PageRequest) : Place :=
  let w := s.window i
  ⟨some (w.ref i), w.offsetOf r.addr, w.memAt (w.offsetOf r.addr)⟩

/-! ## READ -/

/-- A line that a read hits whole (R72). -/
def State.hitLine (s : State) (w : WindowRef) (offset length : Nat) : Option (Fin 8 × Line × List Beat) :=
  (List.finRange 8).findSome? (fun i => match s.line i with
    | some l =>
      match l.state with
      | .valid _ _ _ false data =>
        if l.window = w ∧ l.chunk = offset / 256 * 256 ∧ (offset - l.chunk) / 32 + length ≤ l.beats then
          some (i, l, (data.drop ((offset - l.chunk) / 32)).take length)
        else none
      | _ => none
    | none => none)

/-- A line's deliveries raised by 1 (R72). -/
def Line.raiseDeliveries (l : Line) : Line :=
  match l.state with
  | .valid t us n d data => { l with state := .valid t us (n + 1) d data }
  | _ => l

/-- A read is taken with a tracker entry, where one is free (R64, R65). -/
def State.takeTracked (s : State) (src : Source) (r : PageRequest) (access : ReadAccess) (p : Place)
    (ref : Option PlaneRef) (state : ReadState) : State :=
  if s.tracker.length < Config.trackerCapacity then
    let e : TrackerEntry :=
      { age := s.seq, source := src, tid := r.tid, jobTag := r.jobTag, sysAddr := r.addr, memAddr := p.memAddr
        length := r.length.toNat, access := access, window := p.window, offset := p.offset, ref := ref
        state := state, sent := 0, ownsTid := true }
    ({ s with tracker := s.tracker ++ [e] }.nextSeq).takeTid src r.tid
  else s.retry r

/-- A read is answered from a prefetch line (R72). -/
def State.takeHit (s : State) (src : Source) (r : PageRequest) (w : WindowRef) (offset : Nat) (ref : Option PlaneRef)
    (i : Fin 8) (l : Line) (beats : List Beat) : State :=
  let h : Hit :=
    { age := s.seq, source := src, tid := r.tid, jobTag := r.jobTag, offset := offset, window := w, ref := ref
      line := i, beats := beats, sent := 0, ownsTid := true }
  (({ s with hits := s.hits ++ [h] }.setLine i (some l.raiseDeliveries)).nextSeq).takeTid src r.tid

/-- Step 5 of a READ (R65): chunk lock, posted writes, prefetch buffer, tracker. -/
def State.takeRead (s : State) (src : Source) (r : PageRequest) (access : ReadAccess) (p : Place)
    (ref : Option PlaneRef) : State :=
  let a := p.memAddr.toNat
  let n := 32 * r.length.toNat
  if s.chunkLocked a n then s.retry r
  else
    match s.overlapping a n with
    | id :: ids => s.takeTracked src r access p ref (.held (id :: ids))
    | [] =>
      match access, p.window with
      | .decrypt, some w =>
        match s.hitLine w p.offset r.length.toNat with
        | some (i, l, beats) => s.takeHit src r w p.offset ref i l beats
        | none => s.takeTracked src r access p ref (.issued none)
      | _, _ => s.takeTracked src r access p ref (.issued none)

/-- Step 4 for a READ (R90, R91): a PRINT-source read of a PRINT window in plaintext access, or any other. -/
def State.gateRead (s : State) (src : Source) (r : PageRequest) (i : WindowIdx) : State :=
  let p := s.placeIn i r
  if src = .print ∧ (s.window i).kind = .print then
    match s.findPlane i p.offset (32 * r.length.toNat) with
    | none => s.refuse .unbilled (some .read) r p.window
    | some (page, plane) =>
      if page.state = .waiting then s.retry r else s.takeRead src r .decrypt p (some ⟨page.number, plane.colour⟩)
  else s.takeRead src r .decrypt p none

/-- Steps 1c to 5 of a READ (R8). -/
def State.serveRead (s : State) (r : PageRequest) (src : Source) : State :=
  if !legalShape r then s.refuse .badShape (some .read) r none
  else if s.tidTaken src r.tid then s.refuse .dupTid (some .read) r none
  else
    match s.judgeAccess src r false with
    | .refused flag w => s.refuse flag (some .read) r w
    | .pass => s.takeRead src r .pass (passPlace r) none
    | .raw i =>
      if src = .print ∧ (s.window i).kind = .print then s.refuse .unbilled (some .read) r (s.placeIn i r).window
      else s.takeRead src r .raw (s.placeIn i r) none
    | .plain i => s.gateRead src r i

/-! ## WRITE -/

/-- Some 8-byte group of a write has bad parity (R6). -/
def badWriteParity (beats : List WriteBeat) : Bool := beats.any (fun b => dataParityOf b.data != b.parity)

/-- The scan slot whose final beat a write covers with a mask bit set (R102, R103). -/
def Window.finalSlot (w : Window) (offset : Nat) (beats : List QueuedBeat) : Option Nat :=
  (List.range w.slotCount).find? (fun k =>
    let final := (k + 1) * w.stride - 32
    decide (offset ≤ final) && (beats[(final - offset) / 32]?).any (fun b => b.mask != 0))

/-- The scan slot counter is offered a write accepted into a window (R103). -/
def State.countScan (s : State) (src : Source) (i : WindowIdx) (offset : Nat) (beats : List QueuedBeat) : State :=
  let w := s.window i
  if src = .scan ∧ w.kind = .scan then
    match w.finalSlot offset beats with
    | some k =>
      if w.counted.getLsbD k then s
      else
        let a := s.account w.scanAccount
        let s1 := s.setWindow i { w with counted := w.counted ||| BitVec.twoPow 64 k }
        let s2 := s1.setAccount w.scanAccount { a with counters := a.counters.raiseScan }
        { s2 with meter := s.meter.raiseScan }
    | none => s
  else s

/-- The entry an accepted write makes (R47 to R50). -/
def State.newEntry (s : State) (src : Source) (r : PageRequest) (access : WriteAccess) (p : Place)
    (beats : List QueuedBeat) : PwqEntry :=
  let key := match access, p.window with
    | .encrypt, some w => s.selectKey w.index p.offset
    | _, _ => none
  let units := if access = .encrypt then partialUnits p.offset beats else []
  { id := s.seq, source := src, tid := r.tid, jobTag := r.jobTag, sysAddr := r.addr, memAddr := p.memAddr
    length := r.length.toNat, access := access, window := p.window, offset := p.offset, key := key
    beats := if access = .encrypt then treatBeats key p.offset beats else beats
    rmw := !units.isEmpty, units := units, state := .queued, marks := [] }

/-- A write is accepted, in the order of R48. -/
def State.acceptWrite (s : State) (src : Source) (r : PageRequest) (access : WriteAccess) (p : Place)
    (received : List WriteBeat) : State :=
  let beats := received.map (fun b => (⟨b.data, b.mask⟩ : QueuedBeat))
  let s1 := if badWriteParity received then s.raiseError (requestCapture .wdataParity (some .write) r p.window) else s
  let e := s1.newEntry src r access p beats
  let s2 := s1.invalidateLines (fun l => e.overlapsRange (s1.lineAddr l) 256)
  let s3 := match p.window with
    | some w => s2.countScan src w.index p.offset beats
    | none => s2
  (({ s3 with pwq := s3.pwq ++ [e] }.nextSeq).respond r.source r.tid .okay).settleHead

/-- Step 5 of a WRITE (R48). -/
def State.takeWrite (s : State) (src : Source) (r : PageRequest) (access : WriteAccess) (p : Place)
    (received : List WriteBeat) : State :=
  if s.chunkLocked p.memAddr.toNat (32 * r.length.toNat) then s.retry r
  else if s.pwq.length < Config.pwqCapacity then s.acceptWrite src r access p received
  else s.retry r

/-- Steps 1c to 5 of a WRITE (R8). A write meets no kind gate (R90). -/
def State.serveWrite (s : State) (r : PageRequest) (beats : Vector WriteBeat 8) (src : Source) : State :=
  let received := beats.toList.take r.length.toNat
  if !legalShape r then s.refuse .badShape (some .write) r none
  else if s.tidTaken src r.tid then s.refuse .dupTid (some .write) r none
  else
    match s.judgeAccess src r true with
    | .refused flag w => s.refuse flag (some .write) r w
    | .pass => s.takeWrite src r .pass (passPlace r) received
    | .raw i => s.takeWrite src r .raw (s.placeIn i r) received
    | .plain i => s.takeWrite src r .encrypt (s.placeIn i r) received

/-! ## FLUSH -/

/-- A flush marks every entry of the queue and takes a place of the flush list (R59). -/
def State.takeFlush (s : State) (src : Source) (r : PageRequest) : State :=
  let fl : Flush := ⟨s.seq, src, r.tid, s.pwq.length, false⟩
  ({ s with
      flushes := s.flushes ++ [fl]
      pwq := s.pwq.map (fun e : PwqEntry => { e with marks := e.marks ++ [s.seq] }) }.nextSeq).takeTid src r.tid

/-- Steps 1d and 5 of a FLUSH (R59). With the queue empty it is answered at once. -/
def State.serveFlush (s : State) (r : PageRequest) (src : Source) : State :=
  if s.tidTaken src r.tid then s.refuse .dupTid (some .flush) r none
  else if s.pwq = [] then s.respond r.source r.tid .okay
  else if s.flushes.length < Config.flushCapacity then s.takeFlush src r
  else s.retry r

/-! ## The meanings -/

/-- READ (R8, R65). -/
def execRead (r : PageRequest) (s : State) : Host.Outcome State Fault Refusal :=
  .next (event (fun s => s.intake .read r (fun src s => s.serveRead r src)) s)

/-- WRITE (R8, R48). -/
def execWrite (r : PageRequest) (beats : Vector WriteBeat 8) (s : State) : Host.Outcome State Fault Refusal :=
  .next (event (fun s => s.intake .write r (fun src s => s.serveWrite r beats src)) s)

/-- FLUSH (R8, R59). -/
def execFlush (r : PageRequest) (s : State) : Host.Outcome State Fault Refusal :=
  .next (event (fun s => s.intake .flush r (fun src s => s.serveFlush r src)) s)

end Sys2Proof.Machine
end

