-- ==== Sys2Proof/Machine/Settings.lean ====
section
/-! DEFINITION. The commands of the management port itself: settings, notices, the error record, identity, the root store,
and codes that name no command (R39, R40, R79, R194 to R203). -/

namespace Sys2Proof.Machine

/-! ## Settings -/

/-- The effects of a change of the consumable policy (R89, R150): the present slots are reprobed and the pages
re-judged. -/
def State.policyChanged (s : State) : State := (s.reprobeAll .policy).rejudge

/-- The commit interval is at or below the pages-since-commit count (R132, R200). -/
def State.intervalReached (s : State) : Bool := decide (s.settings.commitInterval ≤ s.commit.since)

/-- What a write of a setting to another value brings about as part of the same event (R200). -/
def State.settingChanged (s : State) (n : SettingName) : State :=
  match n with
  | .policy => s.policyChanged
  | .commitInterval => if s.intervalReached then s.triggerCommit .interval else s
  | _ => s

/-- One working setting is written with a value of its range (R200). Writing the value it has changes nothing. -/
def State.writeSetting (s : State) (n : SettingName) (v : Nat) : State :=
  if s.settings.get n = v then s else { s with settings := s.settings.put n v }.settingChanged n

/-- CONFIG_WRITE judged (R200). -/
def judgeConfigWrite (f : Frame) (number : Byte) (value : BitVec 32) : State → State :=
  judged 0x61 f false (fun s =>
    match settingOf number with
    | none => s.answerStatus 0x61 .badArgument
    | some n =>
      let v := clampSetting n value.toNat
      (s.writeSetting n v).answer 0x61 .ok (.settingWritten v (v != value.toNat)))

/-- CONFIG_READ judged (R201). -/
def judgeConfigRead (f : Frame) (selector : Byte) : State → State :=
  judged 0x60 f true (fun s =>
    match selector.toNat with
    | 0 => s.answer 0x60 .ok (.workingSettings s.settings s.loadResult)
    | 1 => s.answer 0x60 .ok (.storedSettings s.nv.stored)
    | _ => s.answerStatus 0x60 .badArgument)

/-- CONFIG_STORE judged (R201); the outcome is what the nonvolatile store does with the write (log 27). -/
def judgeConfigStore (f : Frame) (o : StoreOutcome) : State → State :=
  judged 0x62 f false (fun s =>
    if s.pins.pfail then s.answerStatus 0x62 .state
    else
      match o with
      | .verified => { s with nv := { s.nv with stored := some s.settings } }.answerStatus 0x62 .ok
      | _ => s.answerStatus 0x62 .state)

/-! ## Notices, errors and identity -/

/-- NOTICE_READ judged (R197). -/
def judgeNoticeRead (f : Frame) : State → State :=
  judged 0x70 f true (fun s =>
    match s.notices with
    | [] => s.answerStatus 0x70 .ok
    | n :: rest => { s with notices := rest }.answer 0x70 .ok (.notice rest.length n))

/-- ERROR_READ judged (R79): the record is returned and cleared. -/
def judgeErrorRead (f : Frame) : State → State :=
  judged 0x71 f true (fun s => { s with path := {} }.answer 0x71 .ok (.errors s.path.flags s.path.capture))

/-- IDENT judged (R203). -/
def judgeIdent (f : Frame) : State → State :=
  judged 0x7A f true (fun s =>
    let root := s.nv.root
    s.answer 0x7A .ok (.ident (if root.provisioned then some root.serial else none) root.provisioned root.locked
      s.resetRec.cause s.resetRec.progress.isSome s.power))

/-! ## The root store -/

/-- The root store replaced. -/
def State.setRoot (s : State) (r : RootStore) : State := { s with nv := { s.nv with root := r } }

/-- PROVISION judged (R39). -/
def judgeProvision (f : Frame) (masterKey : BitVec 256) (serial : Serial) (o : StoreOutcome) : State → State :=
  judged 0x7E f false (fun s =>
    if s.nv.root.locked then s.answerStatus 0x7E .locked
    else if s.pins.pfail then s.answerStatus 0x7E .state
    else
      match o with
      | .verified => (s.setRoot ⟨masterKey, serial, true, false⟩).answerStatus 0x7E .ok
      | _ => s.answerStatus 0x7E .state)

/-- LOCK judged (R40). -/
def judgeLock (f : Frame) (o : StoreOutcome) : State → State :=
  judged 0x7F f false (fun s =>
    if !s.nv.root.provisioned then s.answerStatus 0x7F .state
    else if s.nv.root.locked then s.answerStatus 0x7F .locked
    else if s.pins.pfail then s.answerStatus 0x7F .state
    else
      match o with
      | .verified => (s.setRoot { s.nv.root with locked := true }).answerStatus 0x7F .ok
      | _ => s.answerStatus 0x7F .state)

/-! ## Codes that name no command -/

/-- A code that names no command is answered BAD_COMMAND, in a reset too (R195). -/
def judgeUnknown (code : Byte) (s : State) : State := s.answerStatus code.toNat .badCommand

/-- A frame whose code names no command (R195). One of code 0 or of fewer than 2 bytes is an empty frame, which neither
is judged nor wakes the part. A code that names a command is no term of this row. -/
def State.unknownFrame (s : State) (f : Frame) (code : Byte) : State :=
  if code = 0 ∨ f.bytes < 2 then s.emptyFrame f
  else if (commandLength code.toNat).isSome then s
  else receive (.unknownCommand f code) f (judgeUnknown code) s

/-! ## The meanings -/

/-- CONFIG_READ (R201). -/
def execConfigRead (f : Frame) (selector : Byte) (s : State) : Host.Outcome State Fault Refusal :=
  .next (event (receive (.configRead f selector) f (judgeConfigRead f selector)) s)

/-- CONFIG_WRITE (R200). -/
def execConfigWrite (f : Frame) (number : Byte) (value : BitVec 32) (s : State) : Host.Outcome State Fault Refusal :=
  .next (event (receive (.configWrite f number value) f (judgeConfigWrite f number value)) s)

/-- CONFIG_STORE (R201). -/
def execConfigStore (f : Frame) (o : StoreOutcome) (s : State) : Host.Outcome State Fault Refusal :=
  .next (event (receive (.configStore f o) f (judgeConfigStore f o)) s)

/-- NOTICE_READ (R197). -/
def execNoticeRead (f : Frame) (s : State) : Host.Outcome State Fault Refusal :=
  .next (event (receive (.noticeRead f) f (judgeNoticeRead f)) s)

/-- ERROR_READ (R79). -/
def execErrorRead (f : Frame) (s : State) : Host.Outcome State Fault Refusal :=
  .next (event (receive (.errorRead f) f (judgeErrorRead f)) s)

/-- IDENT (R203). -/
def execIdent (f : Frame) (s : State) : Host.Outcome State Fault Refusal :=
  .next (event (receive (.ident f) f (judgeIdent f)) s)

/-- PROVISION (R39). -/
def execProvision (f : Frame) (masterKey : BitVec 256) (serial : Serial) (o : StoreOutcome) (s : State) :
    Host.Outcome State Fault Refusal :=
  .next (event (receive (.provision f masterKey serial o) f (judgeProvision f masterKey serial o)) s)

/-- LOCK (R40). -/
def execLock (f : Frame) (o : StoreOutcome) (s : State) : Host.Outcome State Fault Refusal :=
  .next (event (receive (.lock f o) f (judgeLock f o)) s)

/-- UNKNOWN_COMMAND (R194, R195). -/
def execUnknownCommand (f : Frame) (code : Byte) (s : State) : Host.Outcome State Fault Refusal :=
  .next (event (State.unknownFrame · f code) s)

end Sys2Proof.Machine
end

