-- ==== Sys2Proof/Machine/Power.lean ====
section
/-! DEFINITION. Pins, resets, power states and power itself (chapter 11 with R15, R41, R42, R80, R81, R105, R135, R136, R158,
R174, R192): PFAIL, LINKRST, POWER_ON, POWER_LOSS, SLEEP, RESET, the ends of a sleep entry, of a wake and of a reset. -/

namespace Sys2Proof.Machine

/-! ## The beginning of a reset -/

/-- A memory request whose consumer a reset has dropped (R15, R80, R192): its outcome will be discarded. The work of
the posted-write queue goes on. -/
def TidState.dropByReset (x : TidState) : TidState :=
  match x with
  | .outstanding r =>
    match r.consumer with
    | .rmwRead _ => x
    | .drain _ => x
    | _ => .outstanding { r with consumer := .discarded }
  | _ => x

/-- The entry has begun its answer (R80). -/
def TrackerEntry.isDelivering (e : TrackerEntry) : Bool :=
  match e.state with
  | .delivering _ => true
  | _ => false

/-- The first part of a reset's work (R15, R42, R62, R80): every read and flush not yet answered is dropped without a
response, and every tid is freed. Deliveries that have begun go on (log 28). -/
def State.dropTraffic (s : State) : State :=
  let s1 := { s with
    tids := []
    flushes := []
    pwq := s.pwq.map (fun e : PwqEntry => { e with marks := [] })
    tracker := (s.tracker.filter TrackerEntry.isDelivering).map (fun e : TrackerEntry => { e with ownsTid := false })
    hits := s.hits.map (fun h : Hit => { h with ownsTid := false })
    mem := { s.mem with tids := mapVec TidState.dropByReset s.mem.tids } }
  s1.invalidateLines (fun _ => true)

/-- The third part (R192): both channels IDLE, every lock released, the queue empty. -/
def State.stopScrub (s : State) : State :=
  let s1 := (s.setChan 0 {}).setChan 1 {}
  { s1 with scrub := { s1.scrub with queue := [], idleMark := .settled } }

/-- A reset of a kind is on record, and its notice queued; a COMMAND reset has emptied the queue and the error record
before (R202, R203). -/
def State.recordReset (s : State) (kind : ResetKind) : State :=
  let s1 := { s with resetRec := ⟨kind, some ⟨kind == ResetKind.command, false⟩⟩ }
  let s2 := if kind = .command then { s1 with notices := [], path := {} } else s1
  s2.note (.reset kind)

/-- A LINK_RESET or COMMAND reset begins (R202, R205, R42). -/
def State.beginReset (s : State) (kind : ResetKind) : State :=
  (((s.recordReset kind).abortEntry .reset).dropTraffic).cancelAll.stopScrub

/-! ## The end of a reset -/

/-- The windows are forced FREE once the posted writes have drained (R42): keys and spare keys destroyed, no notice. -/
def State.freeAllWindows (s : State) : State := { s with windows := mapVec Window.freed s.windows, keys := {} }

/-- The last part of the window and page work of a reset (R42). -/
def State.resetWindows (s : State) : State :=
  match s.resetRec.progress with
  | some p =>
    if p.windowsFreed = false ∧ s.pwq = [] then
      { s.freeAllWindows with resetRec := { s.resetRec with progress := some { p with windowsFreed := true } } }
    else s
  | none => s

/-- The working settings are loaded from the stored settings, or set to the defaults (R199). -/
def State.loadSettings (s : State) : State :=
  match s.nv.stored with
  | some c => { s with settings := c, loadResult := .stored }
  | none => { s with settings := {}, loadResult := .defaults }

/-- The reload of a COMMAND reset (R159, R137): a changed policy reprobes, and a changed commit interval at or below the
count triggers a commit (log 17). Where both change, the reprobe comes first, so the commit copies what it leaves
(log 50). -/
def State.reloadSettings (s : State) : State :=
  let s1 := s.loadSettings
  let s2 := if s1.settings.policy = s.settings.policy then s1 else s1.policyChanged
  if s1.settings.commitInterval ≠ s.settings.commitInterval ∧ s2.intervalReached = true then s2.triggerCommit .interval
  else s2

/-- A reset completes (R15, R202): its work is done and LINKRST is deasserted. -/
def State.completeReset (s : State) : State :=
  match s.resetRec.progress with
  | some p =>
    if p.windowsFreed = true ∧ s.pins.linkrst = false then
      let s1 := if p.asCommand then s.reloadSettings else s
      ({ s1 with resetRec := { s1.resetRec with progress := none } }).triggerCommit .reset
    else s
  | none => s

/-! ## LINKRST -/

/-- The cause becomes LINK_RESET during a reset in progress, and a further notice is queued (R202). -/
def State.joinReset (s : State) : State :=
  { s with resetRec := { s.resetRec with cause := .linkReset } }.note (.reset .linkReset)

/-- LINKRST becomes asserted (R202, R206). Several assertions before a wake's end bring one LINK_RESET there, with one
RESET notice (log 48). -/
def State.linkAsserted (s : State) : State :=
  if s.resetRec.progress.isSome then s.joinReset
  else
    match s.power with
    | .sleep => { s with power := .waking, wakeReset := true }
    | .waking => { s with wakeReset := true }
    | _ => s.beginReset .linkReset

/-- The level of LINKRST. -/
def State.setLinkrst (s : State) (level : Bool) : State := { s with pins := { s.pins with linkrst := level } }

/-- The level of PFAIL. -/
def State.setPfail (s : State) (level : Bool) : State := { s with pins := { s.pins with pfail := level } }

/-! ## SLEEP -/

/-- What keeps the part from accepting SLEEP (R204). -/
def State.sleepBlocked (s : State) : Bool :=
  s.livePages.any (fun p => p.state != .waiting)
    || (List.finRange 2).any (fun c => (s.chan c).state == .running)
    || (List.finRange 4).any (fun k => (match (s.slot k).state with
        | .genuine _ => decide (0 < (s.gauge k).pending)
        | _ => false))

/-- An accepted SLEEP (R204): the part is in ENTERING, and a commit is triggered. -/
def State.enterSleep (s : State) : State :=
  { s with power := .entering, scrub := { s.scrub with idleMark := .settled } }.triggerCommit .sleep

/-- SLEEP judged (R204). -/
def judgeSleep (f : Frame) : State → State :=
  judged 0x78 f false (fun s =>
    if s.power = .entering then s.answerStatus 0x78 .ok
    else if s.sleepBlocked then s.answerStatus 0x78 .busy
    else s.enterSleep.answerStatus 0x78 .ok)

/-- The line is FILLING (R205). -/
def Line.isFilling (l : Line) : Bool :=
  match l.state with
  | .filling _ => true
  | _ => false

/-- Everything the entry into SLEEP waits for has come (R205). -/
def State.readyToSleep (s : State) : Bool :=
  s.power == .entering && s.pwq.isEmpty && s.tracker.isEmpty && s.flushes.isEmpty && s.hits.isEmpty
    && (List.finRange 8).all (fun i => !(s.line i).any (·.isFilling))
    && s.commit.inFlight.isNone && s.commit.remembered.isNone

/-- The part is in SLEEP (R81, R160, R205): lines freed, messages abandoned, notice queued. -/
def State.fallAsleep (s : State) : State :=
  { s with
    power := .sleep
    lines := Vector.replicate 8 none
    slots := mapVec (fun x : Slot => { x with message := none }) s.slots }.note .sleepEntered

/-! ## RESET -/

/-- RESET judged (R202). -/
def judgeReset (f : Frame) : State → State :=
  judged 0x79 f false (fun s => (s.answerStatus 0x79 .ok).beginReset .command)

/-! ## The wake -/

/-- The judgement of a management command (R195). Every other command of the table is judged by no frame. -/
def judge (i : Instr) : State → State :=
  match i with
  | .windowOpen f a => judgeWindowOpen f a
  | .windowPolicy f i o m => judgeWindowPolicy f i o m
  | .windowSeal f i => judgeWindowSeal f i
  | .windowRetire f i n p q r => judgeWindowRetire f i n p q r
  | .windowRekey f i => judgeWindowRekey f i
  | .windowQuery f i => judgeWindowQuery f i
  | .pageOpen f a => judgePageOpen f a
  | .pageCancel f n => judgePageCancel f n
  | .pageQuery f n => judgePageQuery f n
  | .accountCreate f i l => judgeAccountCreate f i l
  | .accountSetLimit f a l => judgeAccountSetLimit f a l
  | .accountResetUsage f a => judgeAccountResetUsage f a
  | .accountClearCounters f a => judgeAccountClearCounters f a
  | .accountSuspend f a => judgeAccountSuspend f a
  | .accountResume f a => judgeAccountResume f a
  | .accountDelete f a => judgeAccountDelete f a
  | .accountRead f a => judgeAccountRead f a
  | .meterRead f x => judgeMeterRead f x
  | .commit f => judgeCommit f
  | .cartQuery f x => judgeCartQuery f x
  | .cartReprobe f x => judgeCartReprobe f x
  | .scrubSuspend f c => judgeScrubSuspend f c
  | .scrubResume f c => judgeScrubResume f c
  | .scrubAbandon f c => judgeScrubAbandon f c
  | .scrubQuery f => judgeScrubQuery f
  | .configRead f x => judgeConfigRead f x
  | .configWrite f n v => judgeConfigWrite f n v
  | .configStore f o => judgeConfigStore f o
  | .noticeRead f => judgeNoticeRead f
  | .errorRead f => judgeErrorRead f
  | .sleep f => judgeSleep f
  | .reset f => judgeReset f
  | .ident f => judgeIdent f
  | .provision f k n o => judgeProvision f k n o
  | .lock f o => judgeLock f o
  | .unknownCommand _ code => judgeUnknown code
  | .read _ | .write _ _ | .flush _ | .memoryGrant | .memoryResponse _ _ _ | .memoryTimeout _ | .tidQuarantineEnd _
  | .heldReadRelease _ | .flushComplete _ | .beatDelivery _ | .discardTimerExpiry _ | .windowDrainEnd _ | .commitEnd _
  | .commitTimeout | .presenceAssert _ | .presenceDeassert _ | .settlingExpiry _ | .cartRequestSent _
  | .cartRequestRefused _ | .replyWindowExpiry _ | .attemptGapExpiry _ | .helloReply _ _ | .proveReply _ _
  | .debitReply _ _ | .scrubJobAssign _ | .chunkLock _ | .pfailAssert | .pfailDeassert | .linkReset
  | .resetWindowsFreed | .linkrstDeassert | .resetComplete | .powerOn | .sleepEntered | .wakeEnd _ | .powerLoss => id

/-- The command taken in SLEEP or in the wake is judged (R194, R206). -/
def State.judgeAwaiting (s : State) : State :=
  match s.awaiting with
  | some c => judge c { s with awaiting := none }
  | none => s

/-- The LINK_RESET whose assertion came in SLEEP or in the wake begins, or joins a reset begun meanwhile (R202, R206). -/
def State.beginWakeReset (s : State) : State :=
  if s.wakeReset then
    let s1 := { s with wakeReset := false }
    if s1.resetRec.progress.isSome then s1.joinReset else s1.beginReset .linkReset
  else s

/-- The wake ends (R206): the present slots are reprobed, slot by slot with the part in RUN (log 40); then the waiting
command is judged and a waiting reset begins, in the order of the operand (log 14). The notices of each of the three
have joined the queue before the next, so a waiting NOTICE_READ finds them (R197). Channels take queued jobs after
all of this, at SCRUB_JOB_ASSIGN (log 41). -/
def State.endWake (s : State) (resetFirst : Bool) : State :=
  if s.power = .waking then
    let s1 := closeEvent ({ s with power := .run }.reprobeAll .wake)
    if resetFirst then (closeEvent s1.beginWakeReset).judgeAwaiting
    else (closeEvent s1.judgeAwaiting).beginWakeReset
  else s

/-! ## Power -/

/-- What stays through a loss of power: the nonvolatile store, the levels of the input lines, the waiting commands and
the generator's count of draws (R41, log 5). -/
def State.unpowered (s : State) : State :=
  { State.blank with pending := s.pending, pins := s.pins, nv := s.nv, draws := s.draws }

/-- The debts of the slots of a snapshot, added to the carry list in slot order (R174). -/
def State.carryDebts (s : State) (x : Snapshot) : State :=
  x.debits.toList.foldl (fun s d => match d with
    | some e => s.carryAdd e.serial e.amount
    | none => s) s

/-- The restore of the newest valid snapshot, or the factory state (R136, R174). -/
def State.restore (s : State) : State :=
  match s.nv.newest with
  | some (_, x) =>
    { s with
      accounts := mapVec SavedAccount.restore x.accounts
      meter := x.meter
      carry := x.carry
      commit := { restore := .restored } }.carryDebts x
  | none => { s with accounts := factoryAccounts }

/-- The presence lines found asserted start to settle (R158). -/
def State.settleLines (s : State) : State :=
  (List.finRange 4).foldl (fun s k => if s.pins.lines[k] then s.setPresence k .settling else s) s

/-- POWER_ON (R202): every block is set up, the settings are loaded and the snapshot restored. A LINKRST found asserted
begins a LINK_RESET. -/
def State.powerUp (s : State) : State :=
  let s1 := { s.unpowered with powered := true }.loadSettings.note (.reset .powerOn)
  let s2 := s1.restore.settleLines
  if s2.pins.linkrst then s2.beginReset .linkReset else s2

/-! ## The meanings -/

/-- SLEEP (R204). -/
def execSleep (f : Frame) (s : State) : Host.Outcome State Fault Refusal :=
  .next (event (receive (.sleep f) f (judgeSleep f)) s)

/-- RESET (R202). -/
def execReset (f : Frame) (s : State) : Host.Outcome State Fault Refusal :=
  .next (event (receive (.reset f) f (judgeReset f)) s)

/-- PFAIL_ASSERT (R132, R135). -/
def execPfailAssert (s : State) : Host.Outcome State Fault Refusal :=
  .next (event (fun x => if s.pins.pfail then x else x.triggerCommit .pfail) (s.setPfail true))

/-- PFAIL_DEASSERT (R135). -/
def execPfailDeassert (s : State) : Host.Outcome State Fault Refusal := .next (event id (s.setPfail false))

/-- LINK_RESET (R202). -/
def execLinkReset (s : State) : Host.Outcome State Fault Refusal :=
  .next (event (fun x => if s.pins.linkrst then x else x.linkAsserted) (s.setLinkrst true))

/-- RESET_WINDOWS_FREED (R42). -/
def execResetWindowsFreed (s : State) : Host.Outcome State Fault Refusal := .next (event State.resetWindows s)

/-- LINKRST_DEASSERT (R202). -/
def execLinkrstDeassert (s : State) : Host.Outcome State Fault Refusal := .next (event id (s.setLinkrst false))

/-- RESET_COMPLETE (R202). -/
def execResetComplete (s : State) : Host.Outcome State Fault Refusal := .next (event State.completeReset s)

/-- POWER_ON (R202). -/
def execPowerOn (s : State) : Host.Outcome State Fault Refusal := .next (closeEvent s.powerUp)

/-- SLEEP_ENTERED (R205). -/
def execSleepEntered (s : State) : Host.Outcome State Fault Refusal :=
  .next (event (fun s => if s.readyToSleep then s.fallAsleep else s) s)

/-- WAKE_END (R206). -/
def execWakeEnd (resetFirst : Bool) (s : State) : Host.Outcome State Fault Refusal :=
  .next (event (State.endWake · resetFirst) s)

/-- POWER_LOSS (R41). -/
def execPowerLoss (s : State) : Host.Outcome State Fault Refusal := .next s.unpowered

end Sys2Proof.Machine
end

