-- ==== Sys2Proof/Machine/Reads.lean ====
section
/-! DEFINITION. Reads and flushes on their way to an answer: HELD_READ_RELEASE, FLUSH_COMPLETE, BEAT_DELIVERY with the
prefetch it may start, and DISCARD_TIMER_EXPIRY (R58, R60, R67, R70, R72, R74, R92 to R96). -/

namespace Sys2Proof.Machine

/-! ## Prefetch -/

/-- A line holds a chunk of a window, unless it is marked for discard (R70, R73). -/
def Line.holds (l : Line) (w : WindowRef) (chunk : Nat) : Bool :=
  l.window == w && l.chunk == chunk && (match l.state with
    | .valid _ _ _ true _ => false
    | _ => true)

/-- The conditions of R70 on a chunk that lies before its plane's end. -/
def State.mayPrefetch (s : State) (w : WindowRef) (chunk : Nat) : Bool :=
  let a := ((s.window w.index).memAt chunk).toNat
  (List.finRange 8).all (fun i => !(s.line i).any (·.holds w chunk)) && !s.chunkLocked a 256 && (s.overlapping a 256).isEmpty

/-- The fill order of a line that a new prefetch may take: VALID with no delivery in progress (R70). -/
def Line.unclaimed (l : Line) : Option Nat :=
  match l.state with
  | .valid filled _ 0 _ _ => some filled
  | _ => none

/-- The line a new prefetch takes: the lowest-numbered FREE line, or the oldest unclaimed VALID line (R70). -/
def State.lineToFill (s : State) : Option (Fin 8) :=
  match (List.finRange 8).find? (fun i => (s.line i).isNone) with
  | some i => some i
  | none =>
    let open_ := (List.finRange 8).filterMap (fun i => ((s.line i).bind Line.unclaimed).map (fun t => (t, i)))
    match leastOf (open_.map (·.1)) with
    | some t => (open_.find? (fun x => x.1 == t)).map (·.2)
    | none => none

/-- What a prefetch is started from: the window, the page, the plane and its end, and the job tag (R70, R71). -/
structure PrefetchSource where
  window : WindowRef
  ref : PlaneRef
  planeEnd : Nat
  jobTag : JobTag

/-- A line is allocated for a chunk (R70). -/
def State.allocate (s : State) (p : PrefetchSource) (chunk : Nat) (i : Fin 8) : State :=
  (s.setLine i (some
    { window := p.window, page := p.ref.page, plane := p.ref.plane, chunk := chunk
      beats := min 8 ((p.planeEnd - chunk) / 32), order := s.seq, jobTag := p.jobTag, state := .filling none })).nextSeq

/-- Chunks from one on are considered, up to a number of them; where no line can be taken the rest are not fetched
(R70). -/
def State.prefetchFrom (p : PrefetchSource) : Nat → Nat → State → State
  | 0, _, s => s
  | n + 1, chunk, s =>
    if chunk < p.planeEnd ∧ s.mayPrefetch p.window chunk = true then
      match s.lineToFill with
      | some i => State.prefetchFrom p n (chunk + 256) (s.allocate p chunk i)
      | none => s
    else State.prefetchFrom p n (chunk + 256) s

/-- The completed delivery of a PRINT-source read in plaintext access whose page is PRINTING starts a prefetch (R70). -/
def State.startPrefetch (s : State) (w : WindowRef) (ref : PlaneRef) (offset : Nat) (tag : JobTag) : State :=
  match (s.findPage ref.page).bind s.page with
  | none => s
  | some p =>
    match p.state, p.planes.find? (fun pl => pl.colour == ref.plane) with
    | .printing, some pl =>
      State.prefetchFrom ⟨w, ref, pl.offset + p.planeSize, tag⟩ s.settings.readAhead (offset / 256 * 256 + 256) s
    | _, _ => s

/-! ## Beats -/

/-- What a delivery needs of a read: the response it belongs to and the place of its beats. -/
structure Delivery where
  source : Source
  tid : Tid
  jobTag : JobTag
  window : Option WindowRef
  offset : Nat
  ref : Option PlaneRef
  beats : List Beat
  sent : Nat
  ownsTid : Bool

/-- The next beat is the read's last. -/
def Delivery.isLast (d : Delivery) : Bool := decide (d.beats.length ≤ d.sent + 1)

/-- The next beat is sent, and counted where the read has a page and plane reference (R67, R93). -/
def State.sendBeat (s : State) (d : Delivery) : State :=
  let b := d.beats.getD d.sent 0
  (s.emit (.beat d.source d.tid d.sent b d.isLast)).countBeat d.ref (d.offset + 32 * d.sent) (d.sent == 0) b

/-- A read has been answered whole: its tid is free, and its delivery may start a prefetch (R4, R67, R70). -/
def State.endDelivery (s : State) (d : Delivery) : State :=
  let s1 := if d.ownsTid then s.freeTid d.source d.tid else s
  match d.window, d.ref with
  | some w, some ref => s1.startPrefetch w ref d.offset d.jobTag
  | _, _ => s1

/-- A sleep entry is ended by the beat that moves a page to PRINTING, after every other effect of the beat (R205). -/
def State.abortIfPrinting (s : State) (moved : Bool) : State := if moved then s.abortEntry .printing else s

/-- The delivery of a tracked read. -/
def TrackerEntry.delivery (e : TrackerEntry) (beats : List Beat) : Delivery :=
  ⟨e.source, e.tid, e.jobTag, e.window, e.offset, e.ref, beats, e.sent, e.ownsTid⟩

/-- The delivery of a hit. -/
def Hit.delivery (h : Hit) : Delivery :=
  ⟨h.source, h.tid, h.jobTag, some h.window, h.offset, h.ref, h.beats, h.sent, h.ownsTid⟩

/-- A beat of a tracked read is taken (R67). -/
def State.deliverTracked (s : State) (e : TrackerEntry) (beats : List Beat) : State :=
  let d := e.delivery beats
  let moved := s.entersPrinting d.ref (d.sent == 0)
  let s1 := s.sendBeat d
  let s2 := if d.isLast then (s1.dropEntry e.age).endDelivery d else s1.setEntry e.age { e with sent := e.sent + 1 }
  s2.abortIfPrinting moved

/-- A line's delivery has ended (R72, R73): a line marked for discard becomes FREE with its last delivery. -/
def State.endLineDelivery (s : State) (i : Fin 8) : State :=
  match s.line i with
  | some l =>
    match l.state with
    | .valid t us n d data =>
      if d && decide (n ≤ 1) then s.setLine i none else s.setLine i (some { l with state := .valid t us (n - 1) d data })
    | _ => s
  | none => s

/-- A beat of a hit is taken (R72). -/
def State.deliverHit (s : State) (h : Hit) : State :=
  let d := h.delivery
  let moved := s.entersPrinting d.ref (d.sent == 0)
  let s1 := s.sendBeat d
  let s2 :=
    if d.isLast then
      (({ s1 with hits := s1.hits.filter (fun x => x.age != h.age) }).endLineDelivery h.line).endDelivery d
    else { s1 with hits := s1.hits.map (fun x => if x.age == h.age then { h with sent := h.sent + 1 } else x) }
  s2.abortIfPrinting moved

/-- A beat of the read of an age is taken by its requester (R93). -/
def State.deliverBeat (s : State) (age : Nat) : State :=
  match s.entryOf age with
  | some e =>
    match e.state with
    | .delivering beats => s.deliverTracked e beats
    | _ => s
  | none =>
    match s.hits.find? (fun h => h.age == age) with
    | some h => s.deliverHit h
    | none => s

/-! ## Release and flush -/

/-- A held read whose wait set is empty leaves HELD (R58). -/
def State.releaseHeld (s : State) (age : Nat) : State :=
  match s.entryOf age with
  | some e => if e.state = .held [] then s.setEntry age { e with state := .issued none } else s
  | none => s

/-- A flush whose count is 0 is answered (R60). -/
def State.completeFlush (s : State) (id : Nat) : State :=
  match s.flushes.find? (fun fl => fl.id == id) with
  | some fl =>
    if fl.count = 0 then
      (({ s with flushes := s.flushes.filter (fun x => x.id != id) }).respond fl.source.code fl.tid
        (if fl.lost then .fault else .okay)).freeTid fl.source fl.tid
    else s
  | none => s

/-- The discard timer of a line expires (R74). A line that is not VALID has none. -/
def State.discardExpiry (s : State) (i : Fin 8) : State :=
  match s.line i with
  | some l =>
    match l.state with
    | .valid _ _ _ _ _ => s.invalidateLine i
    | .filling _ => s
  | none => s

/-! ## The meanings -/

/-- HELD_READ_RELEASE (R58). -/
def execHeldReadRelease (age : Nat) (s : State) : Host.Outcome State Fault Refusal :=
  .next (event (State.releaseHeld · age) s)

/-- FLUSH_COMPLETE (R60). -/
def execFlushComplete (id : Nat) (s : State) : Host.Outcome State Fault Refusal :=
  .next (event (State.completeFlush · id) s)

/-- BEAT_DELIVERY (R92 to R96). -/
def execBeatDelivery (age : Nat) (s : State) : Host.Outcome State Fault Refusal :=
  .next (event (State.deliverBeat · age) s)

/-- DISCARD_TIMER_EXPIRY (R74). -/
def execDiscardTimerExpiry (i : Fin 8) (s : State) : Host.Outcome State Fault Refusal :=
  .next (event (State.discardExpiry · i) s)

end Sys2Proof.Machine
end

