-- ==== Sys2Proof/Machine/Dispatch.lean ====
section
/-! DEFINITION. The meaning of every command: one arm per constructor, each one call of its meaning. -/

namespace Sys2Proof.Machine

/-- The effect of a command on everything but the queue of waiting commands. -/
def exec (i : Instr) (s : State) : Host.Outcome State Fault Refusal :=
  match i with
  | .read r => Sys2Proof.Machine.execRead r s
  | .write r beats => Sys2Proof.Machine.execWrite r beats s
  | .flush r => Sys2Proof.Machine.execFlush r s
  | .memoryGrant => Sys2Proof.Machine.execMemoryGrant s
  | .memoryResponse tid error beats => Sys2Proof.Machine.execMemoryResponse tid error beats s
  | .memoryTimeout tid => Sys2Proof.Machine.execMemoryTimeout tid s
  | .tidQuarantineEnd tid => Sys2Proof.Machine.execTidQuarantineEnd tid s
  | .heldReadRelease age => Sys2Proof.Machine.execHeldReadRelease age s
  | .flushComplete id => Sys2Proof.Machine.execFlushComplete id s
  | .beatDelivery age => Sys2Proof.Machine.execBeatDelivery age s
  | .discardTimerExpiry line => Sys2Proof.Machine.execDiscardTimerExpiry line s
  | .windowOpen f a => Sys2Proof.Machine.execWindowOpen f a s
  | .windowPolicy f index owner modes => Sys2Proof.Machine.execWindowPolicy f index owner modes s
  | .windowSeal f index => Sys2Proof.Machine.execWindowSeal f index s
  | .windowRetire f index count pass1 pass2 pass3 => Sys2Proof.Machine.execWindowRetire f index count pass1 pass2 pass3 s
  | .windowRekey f index => Sys2Proof.Machine.execWindowRekey f index s
  | .windowQuery f index => Sys2Proof.Machine.execWindowQuery f index s
  | .windowDrainEnd index => Sys2Proof.Machine.execWindowDrainEnd index s
  | .pageOpen f a => Sys2Proof.Machine.execPageOpen f a s
  | .pageCancel f number => Sys2Proof.Machine.execPageCancel f number s
  | .pageQuery f number => Sys2Proof.Machine.execPageQuery f number s
  | .accountCreate f id limit => Sys2Proof.Machine.execAccountCreate f id limit s
  | .accountSetLimit f slot limit => Sys2Proof.Machine.execAccountSetLimit f slot limit s
  | .accountResetUsage f slot => Sys2Proof.Machine.execAccountResetUsage f slot s
  | .accountClearCounters f slot => Sys2Proof.Machine.execAccountClearCounters f slot s
  | .accountSuspend f slot => Sys2Proof.Machine.execAccountSuspend f slot s
  | .accountResume f slot => Sys2Proof.Machine.execAccountResume f slot s
  | .accountDelete f slot => Sys2Proof.Machine.execAccountDelete f slot s
  | .accountRead f slot => Sys2Proof.Machine.execAccountRead f slot s
  | .meterRead f selector => Sys2Proof.Machine.execMeterRead f selector s
  | .commit f => Sys2Proof.Machine.execCommit f s
  | .commitEnd verified => Sys2Proof.Machine.execCommitEnd verified s
  | .commitTimeout => Sys2Proof.Machine.execCommitTimeout s
  | .presenceAssert slot => Sys2Proof.Machine.execPresenceAssert slot s
  | .presenceDeassert slot => Sys2Proof.Machine.execPresenceDeassert slot s
  | .settlingExpiry slot => Sys2Proof.Machine.execSettlingExpiry slot s
  | .cartRequestSent slot => Sys2Proof.Machine.execCartRequestSent slot s
  | .cartRequestRefused slot => Sys2Proof.Machine.execCartRequestRefused slot s
  | .replyWindowExpiry slot => Sys2Proof.Machine.execReplyWindowExpiry slot s
  | .attemptGapExpiry slot => Sys2Proof.Machine.execAttemptGapExpiry slot s
  | .helloReply slot frame => Sys2Proof.Machine.execHelloReply slot frame s
  | .proveReply slot frame => Sys2Proof.Machine.execProveReply slot frame s
  | .debitReply slot frame => Sys2Proof.Machine.execDebitReply slot frame s
  | .cartQuery f slot => Sys2Proof.Machine.execCartQuery f slot s
  | .cartReprobe f selector => Sys2Proof.Machine.execCartReprobe f selector s
  | .scrubJobAssign first => Sys2Proof.Machine.execScrubJobAssign first s
  | .chunkLock channel => Sys2Proof.Machine.execChunkLock channel s
  | .scrubSuspend f channel => Sys2Proof.Machine.execScrubSuspend f channel s
  | .scrubResume f channel => Sys2Proof.Machine.execScrubResume f channel s
  | .scrubAbandon f channel => Sys2Proof.Machine.execScrubAbandon f channel s
  | .scrubQuery f => Sys2Proof.Machine.execScrubQuery f s
  | .configRead f selector => Sys2Proof.Machine.execConfigRead f selector s
  | .configWrite f number value => Sys2Proof.Machine.execConfigWrite f number value s
  | .configStore f outcome => Sys2Proof.Machine.execConfigStore f outcome s
  | .noticeRead f => Sys2Proof.Machine.execNoticeRead f s
  | .errorRead f => Sys2Proof.Machine.execErrorRead f s
  | .sleep f => Sys2Proof.Machine.execSleep f s
  | .reset f => Sys2Proof.Machine.execReset f s
  | .ident f => Sys2Proof.Machine.execIdent f s
  | .provision f masterKey serial outcome => Sys2Proof.Machine.execProvision f masterKey serial outcome s
  | .lock f outcome => Sys2Proof.Machine.execLock f outcome s
  | .unknownCommand f code => Sys2Proof.Machine.execUnknownCommand f code s
  | .pfailAssert => Sys2Proof.Machine.execPfailAssert s
  | .pfailDeassert => Sys2Proof.Machine.execPfailDeassert s
  | .linkReset => Sys2Proof.Machine.execLinkReset s
  | .resetWindowsFreed => Sys2Proof.Machine.execResetWindowsFreed s
  | .linkrstDeassert => Sys2Proof.Machine.execLinkrstDeassert s
  | .resetComplete => Sys2Proof.Machine.execResetComplete s
  | .powerOn => Sys2Proof.Machine.execPowerOn s
  | .sleepEntered => Sys2Proof.Machine.execSleepEntered s
  | .wakeEnd resetFirst => Sys2Proof.Machine.execWakeEnd resetFirst s
  | .powerLoss => Sys2Proof.Machine.execPowerLoss s

end Sys2Proof.Machine
end

