-- ==== Sys2Proof/Safety.lean ====
section
/-! DEFINITION. The terms in which claims about the part are made: when a command is judged at once, what an event with no
other effect leaves, and the laws the spec says the part keeps. -/

namespace Sys2Proof.Machine

/-! ## Events -/

/-- The management port judges a command now, in a reset or outside one (R194, R195, R206). -/
def State.judges (s : State) : Prop :=
  s.powered = true ∧ s.awaiting = none ∧ (s.power = .run ∨ s.power = .entering)

/-- The management port judges every command now: the part is in RUN or ENTERING and no reset is in progress. -/
def State.ready (s : State) : Prop := s.judges ∧ s.resetRec.progress = none

/-- The system port judges requests by R8 (R9). -/
def State.serving (s : State) : Prop := s.powered = true ∧ s.accepting = true

/-- A frame that carries its command whole: it does not begin while the previous command is being judged, it announces
the command's parameter length, and at least that many bytes are clocked after code and length (R194, R195). -/
def wholeFrame (f : Frame) (length : Nat) : Prop :=
  f.early = false ∧ f.announced.toNat = length ∧ length + 2 ≤ f.bytes

/-- The state an event starts from: nothing driven yet, no notice of its own. -/
def State.quietened (s : State) : State := { s with outbox := [], emitted := [] }

/-- The state with the response held before the frame clocked out, and another response held. It changes nothing
else. -/
def State.answered (s : State) (f : Frame) (code : Byte) (status : Status) (data : RespData) : State :=
  { s with
    outbox := []
    emitted := [.spi (clockedBytes f.bytes (responseBytes s.held))]
    held := some ⟨code, status, data⟩ }

/-- The state with notices queued in order (R196). -/
def State.notified (s : State) (ns : List Notice) : State := { s with notices := ns.foldl pushNotice s.notices }

/-- The state after an event that drives a response without data on the system port and changes nothing else. -/
def State.responded (s : State) (r : PageRequest) (st : SysStatus) : State :=
  { s with outbox := [], emitted := [.response r.source r.tid st] }

/-- The state after an event that drives some things on the ports and changes nothing else. -/
def State.driving (s : State) (es : List Emission) : State := { s with outbox := [], emitted := es }

/-- The state with an error on record (R78, R79): its flag set, and, where the capture was empty, the capture filled and
PATH_ERROR queued. -/
def State.erred (s : State) (c : Capture) : State :=
  { s with
    path := { flags := withFlag s.path.flags c.flag, capture := some (s.path.capture.getD c) }
    notices := if s.path.capture = none then pushNotice s.notices (.pathError c.flag) else s.notices }

/-- A READ or WRITE that passes every check of step 1 of R8, from a source class. -/
def State.admits (s : State) (r : PageRequest) (src : Source) : Prop :=
  s.serving ∧ r.kind ≠ 3 ∧ addrParityGood r = true ∧ sourceOf r.source = some src ∧ legalShape r = true
    ∧ (src, r.tid) ∉ s.tids

/-- The state after a READ has been taken with a tracker entry at its tail (R64, R65): HELD with the overlapping posted
writes as its wait set, or ISSUED where there are none. -/
def State.reading (s : State) (src : Source) (r : PageRequest) (access : ReadAccess) (p : Place)
    (ref : Option PlaneRef) : State :=
  let waits := s.overlapping p.memAddr.toNat (32 * r.length.toNat)
  { s with
    outbox := []
    emitted := []
    seq := s.seq + 1
    tids := (src, r.tid) :: s.tids
    tracker := s.tracker ++ [
      { age := s.seq, source := src, tid := r.tid, jobTag := r.jobTag, sysAddr := r.addr, memAddr := p.memAddr
        length := r.length.toNat, access := access, window := p.window, offset := p.offset, ref := ref
        state := if waits = [] then .issued none else .held waits, sent := 0, ownsTid := true }] }

/-- The room and the lock that a READ needs at step 5 of R8 (R65). -/
def State.roomForRead (s : State) (r : PageRequest) (p : Place) : Prop :=
  s.chunkLocked p.memAddr.toNat (32 * r.length.toNat) = false ∧ s.tracker.length < 16

/-- The line is marked for discard (R73). -/
def Line.discarding (l : Line) : Bool :=
  match l.state with
  | .valid _ _ _ true _ => true
  | _ => false

/-- A page with a beat at a window offset counted on its plane of a colour, and in PRINTING (R92, R93): at or above the
mark, inside the plane, the beat's level sum is added and the mark moves past it. -/
def Page.printedBeat (p : Page) (colour : Colour) (offset : Nat) (b : Beat) : Page :=
  { p with
    state := .printing
    planes := p.planes.map (fun pl =>
      if pl.colour = colour ∧ pl.offset + pl.mark ≤ offset ∧ offset + 32 ≤ pl.offset + p.planeSize then
        { pl with dots := pl.dots + levelSum b, mark := offset - pl.offset + 32 }
      else pl) }

/-- The arguments of a PAGE_OPEN pass R85, and name this account, window, planes and geometry (R82, R207). -/
def State.opens (s : State) (a : PageOpenArgs) (o : OpenPage) : Prop :=
  let w := s.window o.window
  let size := o.lines * o.bytesPerLine
  a.account.toNat = o.account.val ∧ a.window.toNat = o.window.val ∧ o.bytesPerLine = a.bytesPerLine.toNat
    ∧ o.lines = a.lines.toNat
    ∧ ((a.planeCount = 1 ∧ o.planes = [(3, a.offsetK.toNat)])
      ∨ (a.planeCount = 4
        ∧ o.planes = [(0, a.offsetC.toNat), (1, a.offsetM.toNat), (2, a.offsetY.toNat), (3, a.offsetK.toNat)]))
    ∧ w.kind = .print ∧ (w.state = .opened ∨ w.state = .sealed)
    ∧ 32 ≤ o.bytesPerLine ∧ o.bytesPerLine ≤ 4096 ∧ o.bytesPerLine % 32 = 0 ∧ 1 ≤ o.lines ∧ o.lines ≤ 16384
    ∧ (∀ x ∈ o.planes, x.2 % 256 = 0 ∧ x.2 + size ≤ w.size)
    ∧ o.planes.Pairwise (fun x y => overlaps x.2 size y.2 size = false)

/-! ## Toner -/

/-- The notices that a change of remaining toner to a value brings about (R172, R173): DEPLETED or RESTOCKED where the
depleted condition changes, then CART_LOW where the value is at or below the low mark of the capacity and no serial is
on record for it. -/
def State.tonerNotices (s : State) (k : Colour) (capacity : Nat) (serial : Serial) (value : Nat) : List Notice :=
  let g := s.gauge k
  let x := (s.slot k).state.code
  if value = g.remaining then []
  else
    (if value = 0 then [.cartState k x x .depleted (some serial) true]
      else if g.remaining = 0 then [.cartState k x x .restocked (some serial) false] else [])
    ++ (if value ≤ capacity * s.settings.lowMark / 100 ∧ g.lowSerial = none then [.cartLow k serial value capacity] else [])

/-- The notices of one plane's draw (R164, R172, R173). The low mark of a FOREIGN slot follows the setting in force
(log 46). -/
def State.drawNotices (s : State) (pl : Plane) : List Notice :=
  let left := (s.gauge pl.colour).remaining - pl.draw
  if pl.draw = 0 then []
  else
    match pl.basis, (s.slot pl.colour).state with
    | some (.genuine serial _), .genuine r =>
      if r.serial = serial then s.tonerNotices pl.colour r.rated.toNat serial left else []
    | some (.foreign _), .foreign r => s.tonerNotices pl.colour s.settings.foreignCapacity r.serial left
    | _, _ => []

/-- The notice is one of those a toner draw may bring about (R164, R170, R172, R173). -/
def Notice.ofToner (n : Notice) : Prop :=
  (∃ k x r serial d, n = .cartState k x x r serial d) ∨ (∃ k serial left capacity, n = .cartLow k serial left capacity)
    ∨ ∃ e, n = .carryDropped e

/-- The carry list has room for a new entry of every plane of the page, and each plane has a slot of its own. -/
def State.roomForDraws (s : State) (p : Page) : Prop :=
  (p.planes.map (·.colour)).Nodup ∧ s.carry.length + p.planes.length ≤ 8

/-- What the toner draws of a charged page leave (R164). On a GENUINE slot that holds the cartridge of the draw basis, P
rises by the draw, saturating, remaining falls by it, and where the link is free a posting begins; on a FOREIGN slot
with a FOREIGN basis remaining falls. The draw of a cartridge no longer there joins the carry list under its serial.
A slot the page does not use, and one whose draw is 0, is left alone. -/
def State.drawnFrom (t s : State) (p : Page) : Prop :=
  (p.planes.map (·.colour)).Nodup →
    (∀ k, (∀ pl ∈ p.planes, pl.colour ≠ k) → t.gauge k = s.gauge k ∧ t.slot k = s.slot k)
    ∧ ∀ pl ∈ p.planes,
      let x := s.slot pl.colour
      let g := s.gauge pl.colour
      let g' := t.gauge pl.colour
      (pl.draw = 0 → g' = g)
      ∧ (0 < pl.draw → ∀ serial factor, pl.basis = some (.genuine serial factor) →
        (∀ r, x.state = .genuine r → r.serial = serial →
          g'.pending = min 4294967295 (g.pending + pl.draw) ∧ g'.remaining = g.remaining - pl.draw
          ∧ g'.acked = g.acked ∧ g'.sequence = g.sequence
          ∧ (x.message = none → s.power ≠ .sleep → ∃ tag,
            (t.slot pl.colour).message = some ⟨.debit g'.pending (g.sequence + 1) tag, 1, .sending⟩))
        ∧ ((∀ r, x.state = .genuine r → r.serial ≠ serial) →
          g' = g ∧ (s.roomForDraws p → pl.draw ≤ 4294967295 →
            (∀ q ∈ p.planes, q.colour ≠ pl.colour → ∀ f, q.basis ≠ some (.genuine serial f)) →
              carryAmount t.carry serial = min 4294967295 (carryAmount s.carry serial + pl.draw))))
      ∧ (0 < pl.draw → ∀ factor, pl.basis = some (.foreign factor) →
        (∀ r, x.state = .foreign r → g'.remaining = g.remaining - pl.draw ∧ g'.pending = g.pending)
        ∧ ((∀ r, x.state ≠ .foreign r) → g' = g))

/-- What a charged page leaves (R96, R99, R127 to R129, R132, R164). In its account, the meter, its window and the page
table: the reservation released, the charge added with saturation, the class counter and, where it applies, the
foreign and the cancelled counters of account and meter raised by 1, and the entry free. In the gauges and the carry
list: the draws of its planes. In the notice queue, after the notices `before` it: those of the draws, in the order
C, M, Y, K that is the model's choice (log 29), then PAGE_DONE, or PAGE_CANCELLED with its cause. And in the commit
state: the pages-since-commit count raised by 1, with an INTERVAL commit triggered where it reaches the interval. -/
def State.chargedFrom (t s : State) (i : Fin 16) (p : Page) (cancel : Option CancelCause) (before : List QueuedNotice) :
    Prop :=
  let cls := (p.charge s.settings).cls
  let charge := (p.charge s.settings).charge
  let raise (c : Counters) : Counters := c.raisePage cls p.foreignFlag cancel.isSome
  let acc := s.account p.account
  let report : PageReport := ⟨p.number, p.account, p.window, cls, p.coverages, charge, p.foreignFlag⟩
  let last : Notice := match cancel with
    | none => .pageDone report
    | some c => .pageCancelled report .printing c
  let since := min 1024 (s.commit.since + 1)
  t.account p.account = { acc with
      reserved := acc.reserved - p.reservation, used := min 2147483647 (acc.used + charge), counters := raise acc.counters }
    ∧ (∀ a, a ≠ p.account → t.account a = s.account a)
    ∧ t.meter = raise s.meter
    ∧ t.page i = none
    ∧ (t.window p.window.index).livePages = (s.window p.window.index).livePages - 1
    ∧ (∀ k, (t.line k).all (fun l => l.page != p.number || l.discarding) = true)
    ∧ t.drawnFrom s p
    ∧ (∃ ns : List Notice, (∀ n ∈ ns, n.ofToner) ∧ t.notices = (ns ++ [last]).foldl pushNotice before
      ∧ (s.roomForDraws p → ns = p.planes.flatMap s.drawNotices))
    ∧ (since < s.settings.commitInterval → t.commit = { s.commit with since := since })
    ∧ (s.settings.commitInterval ≤ since → s.commit.inFlight = none →
      ∃ job, t.commit.inFlight = some job ∧ job.causes = 2 ∧ job.foundSince = since ∧ job.snapshot.meter = t.meter
        ∧ t.commit.since = 0)
    ∧ (s.settings.commitInterval ≤ since → s.commit.inFlight ≠ none →
      t.commit = { s.commit with since := since, remembered := some (s.commit.remembered.getD 0 ||| 2) })

/-! ## Cartridge messages -/

/-- The code and the payload length of the reply to a message (12.4). -/
def MessageKind.replyForm (m : MessageKind) : Byte × Nat :=
  match m with
  | .hello _ => (0x81, 25)
  | .prove _ => (0x82, 8)
  | .debit _ _ _ => (0x83, 17)

/-- A slot that waits for the reply to a message, in the state in which the part sends it (R146, R148, R165, R167). -/
def State.awaits (s : State) (k : Colour) (m : MessageKind) : Prop :=
  match m with
  | .hello false => True
  | .prove nonce => nonce ≠ none ∧ ∃ r, (s.slot k).state = .proving r
  | _ => (∃ r, (s.slot k).state = .genuine r) ∧ (s.gauge k).posting ≠ none

/-- A slot leaves GENUINE (R163, R170): its gauge keeps nothing but the low-mark serial, and its pending debit joins the
carry list under its serial. The carry list is stated where it has room, or an entry for the serial, or nothing is
owed. -/
def State.departedFrom (t s : State) (k : Colour) (r : Record) : Prop :=
  let p := (s.gauge k).pending
  let known := s.carry.any (fun e => e.serial == r.serial)
  (p = 0 ∨ known = true ∨ s.carry.length < 8 →
    t.carry = (if p = 0 then s.carry
      else if known then addToEntry r.serial p s.carry else s.carry ++ [⟨r.serial, p⟩]))

/-- A step keeps a property of states. -/
def keptByStep (p : State → Prop) : Prop := ∀ s t : State, p s → step s = .next t → p t

/-! ## Frames of commands -/

/-- A management command with its frame and its store outcome replaced; every other command as it is. -/
def reframe (f : Frame) (o : StoreOutcome) (i : Instr) : Instr :=
  match i with
  | .windowOpen _ a => .windowOpen f a
  | .windowPolicy _ x y m => .windowPolicy f x y m
  | .windowSeal _ x => .windowSeal f x
  | .windowRetire _ x n p q r => .windowRetire f x n p q r
  | .windowRekey _ x => .windowRekey f x
  | .windowQuery _ x => .windowQuery f x
  | .pageOpen _ a => .pageOpen f a
  | .pageCancel _ n => .pageCancel f n
  | .pageQuery _ n => .pageQuery f n
  | .accountCreate _ x l => .accountCreate f x l
  | .accountSetLimit _ x l => .accountSetLimit f x l
  | .accountResetUsage _ x => .accountResetUsage f x
  | .accountClearCounters _ x => .accountClearCounters f x
  | .accountSuspend _ x => .accountSuspend f x
  | .accountResume _ x => .accountResume f x
  | .accountDelete _ x => .accountDelete f x
  | .accountRead _ x => .accountRead f x
  | .meterRead _ x => .meterRead f x
  | .commit _ => .commit f
  | .cartQuery _ x => .cartQuery f x
  | .cartReprobe _ x => .cartReprobe f x
  | .scrubQuery _ => .scrubQuery f
  | .scrubSuspend _ x => .scrubSuspend f x
  | .scrubResume _ x => .scrubResume f x
  | .scrubAbandon _ x => .scrubAbandon f x
  | .configRead _ x => .configRead f x
  | .configWrite _ n v => .configWrite f n v
  | .configStore _ _ => .configStore f o
  | .noticeRead _ => .noticeRead f
  | .errorRead _ => .errorRead f
  | .sleep _ => .sleep f
  | .reset _ => .reset f
  | .ident _ => .ident f
  | .provision _ k n _ => .provision f k n o
  | .lock _ _ => .lock f o
  | i => i

/-! ## Which command may change which block -/

/-- The command may change the window table. -/
def touchesWindows (c : Instr) : Bool :=
  match c with
  | .write _ _ | .memoryResponse _ _ _ | .beatDelivery _ | .windowOpen _ _ | .windowPolicy _ _ _ _ |
    .windowSeal _ _ | .windowRetire _ _ _ _ _ _ | .windowDrainEnd _ | .pageOpen _ _ | .pageCancel _ _ |
    .scrubJobAssign _ | .scrubAbandon _ _ | .reset _ | .linkReset | .resetWindowsFreed | .powerOn | .wakeEnd _ |
    .powerLoss => true
  | _ => false

/-- The command may change the key store. -/
def touchesKeys (c : Instr) : Bool :=
  match c with
  | .memoryResponse _ _ _ | .windowOpen _ _ | .windowRetire _ _ _ _ _ _ | .windowRekey _ _ | .windowDrainEnd _ |
    .scrubJobAssign _ | .resetWindowsFreed | .powerOn | .wakeEnd _ | .powerLoss => true
  | _ => false

/-- The command may change the page table. -/
def touchesPages (c : Instr) : Bool :=
  match c with
  | .beatDelivery _ | .pageOpen _ _ | .pageCancel _ _ | .presenceDeassert _ | .settlingExpiry _ |
    .cartRequestRefused _ | .replyWindowExpiry _ | .helloReply _ _ | .proveReply _ _ | .debitReply _ _ |
    .cartReprobe _ _ | .configWrite _ _ _ | .reset _ | .linkReset | .resetComplete | .powerOn | .wakeEnd _ |
    .powerLoss => true
  | _ => false

/-- The command may change the account table. -/
def touchesAccounts (c : Instr) : Bool :=
  match c with
  | .write _ _ | .beatDelivery _ | .pageOpen _ _ | .pageCancel _ _ | .accountCreate _ _ _ |
    .accountSetLimit _ _ _ | .accountResetUsage _ _ | .accountClearCounters _ _ | .accountSuspend _ _ |
    .accountResume _ _ | .accountDelete _ _ | .reset _ | .linkReset | .powerOn | .wakeEnd _ | .powerLoss => true
  | _ => false

/-- The command may change the machine meter. -/
def touchesMeter (c : Instr) : Bool :=
  match c with
  | .write _ _ | .beatDelivery _ | .pageCancel _ _ | .reset _ | .linkReset | .powerOn | .wakeEnd _ | .powerLoss => true
  | _ => false

/-- The command may change the cartridge slots. -/
def touchesSlots (c : Instr) : Bool :=
  match c with
  | .beatDelivery _ | .pageCancel _ _ | .presenceAssert _ | .presenceDeassert _ | .settlingExpiry _ |
    .cartRequestSent _ | .cartRequestRefused _ | .replyWindowExpiry _ | .attemptGapExpiry _ | .helloReply _ _ |
    .proveReply _ _ | .debitReply _ _ | .cartReprobe _ _ | .configWrite _ _ _ | .reset _ | .linkReset |
    .resetComplete | .powerOn | .sleepEntered | .wakeEnd _ | .powerLoss => true
  | _ => false

/-- The command may change the toner gauges and the carry list. -/
def touchesGauges (c : Instr) : Bool :=
  match c with
  | .beatDelivery _ | .pageCancel _ _ | .presenceDeassert _ | .cartRequestRefused _ | .replyWindowExpiry _ |
    .helloReply _ _ | .proveReply _ _ | .debitReply _ _ | .cartReprobe _ _ | .configWrite _ _ _ | .reset _ |
    .linkReset | .resetComplete | .powerOn | .wakeEnd _ | .powerLoss => true
  | _ => false

/-- The command may change the working settings. -/
def touchesSettings (c : Instr) : Bool :=
  match c with
  | .configWrite _ _ _ | .resetComplete | .powerOn | .wakeEnd _ | .powerLoss => true
  | _ => false

/-- The command may change the nonvolatile store. -/
def touchesStore (c : Instr) : Bool :=
  match c with
  | .beatDelivery _ | .pageCancel _ _ | .commit _ | .commitEnd _ | .commitTimeout | .configWrite _ _ _ |
    .configStore _ _ | .sleep _ | .reset _ | .provision _ _ _ _ | .lock _ _ | .pfailAssert | .linkReset |
    .resetComplete | .wakeEnd _ => true
  | _ => false

/-- The command may change the commit state. -/
def touchesCommits (c : Instr) : Bool :=
  match c with
  | .beatDelivery _ | .pageCancel _ _ | .commit _ | .commitEnd _ | .commitTimeout | .configWrite _ _ _ |
    .sleep _ | .reset _ | .pfailAssert | .linkReset | .resetComplete | .powerOn | .wakeEnd _ | .powerLoss => true
  | _ => false

/-- The command may change the posted-write queue. -/
def touchesWrites (c : Instr) : Bool :=
  match c with
  | .write _ _ | .flush _ | .memoryGrant | .memoryResponse _ _ _ | .memoryTimeout _ | .reset _ | .linkReset |
    .powerOn | .wakeEnd _ | .powerLoss => true
  | _ => false

/-- The command may change the read tracker. -/
def touchesReads (c : Instr) : Bool :=
  match c with
  | .read _ | .write _ _ | .memoryGrant | .memoryResponse _ _ _ | .memoryTimeout _ | .heldReadRelease _ |
    .beatDelivery _ | .windowRetire _ _ _ _ _ _ | .reset _ | .linkReset | .powerOn | .wakeEnd _ | .powerLoss => true
  | _ => false

/-- The command may change the flush list. -/
def touchesFlushes (c : Instr) : Bool :=
  match c with
  | .write _ _ | .flush _ | .memoryResponse _ _ _ | .memoryTimeout _ | .flushComplete _ | .reset _ |
    .linkReset | .powerOn | .wakeEnd _ | .powerLoss => true
  | _ => false

/-- The command may change the scrub engine. -/
def touchesScrub (c : Instr) : Bool :=
  match c with
  | .memoryGrant | .memoryResponse _ _ _ | .memoryTimeout _ | .windowRetire _ _ _ _ _ _ | .windowRekey _ _ |
    .windowDrainEnd _ | .scrubJobAssign _ | .chunkLock _ | .scrubSuspend _ _ | .scrubResume _ _ |
    .scrubAbandon _ _ | .sleep _ | .reset _ | .linkReset | .powerOn | .wakeEnd _ | .powerLoss => true
  | _ => false

/-- The command may change the path error record. -/
def touchesErrors (c : Instr) : Bool :=
  match c with
  | .read _ | .write _ _ | .flush _ | .memoryResponse _ _ _ | .memoryTimeout _ | .windowRetire _ _ _ _ _ _ |
    .errorRead _ | .reset _ | .powerOn | .wakeEnd _ | .powerLoss => true
  | _ => false

/-- The command may change the input lines. -/
def touchesPins (c : Instr) : Bool :=
  match c with
  | .presenceAssert _ | .presenceDeassert _ | .pfailAssert | .pfailDeassert | .linkReset | .linkrstDeassert => true
  | _ => false

/-! ## Laws of the part -/

/-- The gauge of a slot agrees with the slot's state (R161): GENUINE keeps remaining at the acknowledged figure less the
pending debit, FOREIGN owes nothing, and every other state holds nothing but the low-mark serial. -/
def gaugeAgrees (x : SlotState) (g : Gauge) : Prop :=
  match x with
  | .genuine _ => g.remaining = g.acked - g.pending ∧ g.acked ≤ Config.counterMax
  | .foreign _ => g.pending = 0 ∧ g.acked = 0 ∧ g.sequence = 0 ∧ g.posting = none
  | _ => g = { lowSerial := g.lowSerial }

/-- The gauge law of R161, for every slot. -/
def State.gaugeLaw (s : State) : Prop := ∀ k, gaugeAgrees (s.slot k).state (s.gauge k)

/-- No two windows that are not FREE share a byte of system or of memory address space (R21). -/
def State.windowsApart (s : State) : Prop :=
  ∀ i j, i ≠ j → (s.window i).live = true → (s.window j).live = true →
    overlaps (s.window i).sysBase.toNat (s.window i).size (s.window j).sysBase.toNat (s.window j).size = false
      ∧ overlaps (s.window i).memBase.toNat (s.window i).size (s.window j).memBase.toNat (s.window j).size = false

/-- No plane has counted past its end, nor more than 12 dots a byte counted (R93). -/
def State.coverageLaw (s : State) : Prop :=
  ∀ i p, s.page i = some p → ∀ pl ∈ p.planes, pl.mark ≤ p.planeSize ∧ pl.dots ≤ 12 * pl.mark

/-- The reservations of the live pages billed to an account. -/
def State.reservedFor (s : State) (a : Fin 128) : Nat :=
  ((s.livePages.filter (fun p => p.account == a)).map (·.reservation)).sum

/-- An account within its limit (R126): UNLIMITED, or used plus reserved at most the limit. -/
def withinLimit (limit : Option Nat) (spent : Nat) : Prop :=
  match limit with
  | none => True
  | some l => spent ≤ l

/-- A saved account within its limit, without reserved units (R131). -/
def Snapshot.withinLimits (x : Snapshot) : Prop := ∀ a : Fin 128, withinLimit x.accounts[a].limit x.accounts[a].used

/-- The accounts a bank holds are within their limits. -/
def Bank.withinLimits (b : Bank) : Prop :=
  match b with
  | .holds x => x.withinLimits
  | _ => True

/-- The laws of R126 and R127 on accounts and pages: used plus reserved within every limit, reserved units equal to the
reservations of the live pages, every reservation four times the worst class's base units (R109), and no live page
billed to an UNUSED slot (R124); with the saved accounts, which a restore brings back, within their limits too. -/
structure State.accountLaw (s : State) : Prop where
  within : ∀ a, withinLimit (s.account a).limit ((s.account a).used + (s.account a).reserved)
  reserved : ∀ a, (s.account a).reserved = s.reservedFor a
  sized : ∀ i p, s.page i = some p → p.reservation = reservationOf p.baseMono p.baseColor
  billed : ∀ i p, s.page i = some p → (s.account p.account).state ≠ .unused
  savedA : s.nv.bankA.withinLimits
  savedB : s.nv.bankB.withinLimits
  saving : ∀ j, s.commit.inFlight = some j → j.snapshot.withinLimits

/-- Each setting lies in its range (R199): writing it again would not clamp it. -/
def Settings.inRange (c : Settings) : Prop := ∀ n, clampSetting n (c.get n) = c.get n

/-- The working settings and the stored settings lie in their ranges. -/
def State.settingsLaw (s : State) : Prop := s.settings.inRange ∧ ∀ c, s.nv.stored = some c → c.inRange

/-- The tables and queues hold no more than their capacities (R47, R59, R64, R196). -/
structure State.roomLaw (s : State) : Prop where
  queue : s.pwq.length ≤ Config.pwqCapacity
  tracker : s.tracker.length ≤ Config.trackerCapacity
  flushes : s.flushes.length ≤ Config.flushCapacity
  notices : s.notices.length ≤ Config.noticeCapacity

/-- One set of counters is nowhere below another. -/
def Counters.le (c d : Counters) : Prop :=
  c.monoSmall ≤ d.monoSmall ∧ c.monoLarge ≤ d.monoLarge ∧ c.colorSmall ≤ d.colorSmall ∧ c.colorLarge ≤ d.colorLarge
    ∧ c.scan ≤ d.scan ∧ c.foreign ≤ d.foreign ∧ c.cancelled ≤ d.cancelled

/-- No counter is above the value at which it saturates (R129). -/
def Counters.bounded (c : Counters) : Prop :=
  c.monoSmall ≤ Config.counterMax ∧ c.monoLarge ≤ Config.counterMax ∧ c.colorSmall ≤ Config.counterMax
    ∧ c.colorLarge ≤ Config.counterMax ∧ c.scan ≤ Config.counterMax ∧ c.foreign ≤ Config.counterMax
    ∧ c.cancelled ≤ Config.counterMax

/-- The law of R129 and R131 on the meter and the snapshots: no committed meter is above the working meter, of two valid
banks the one whose number follows the other's holds the later meter, and the copy being written continues the newest
valid snapshot in a bank that holds none. -/
structure State.meterLaw (s : State) : Prop where
  bounded : s.meter.bounded
  saved : ∀ k x, s.nv.bank k = .holds x → x.meter.bounded
  ordered : ∀ x y, s.nv.bankA = .holds x → s.nv.bankB = .holds y →
    (y.number = x.number + 1 ∧ x.meter.le y.meter) ∨ (x.number = y.number + 1 ∧ y.meter.le x.meter)
  committed : s.powered = true → ∀ k x, s.nv.bank k = .holds x → x.meter.le s.meter
  target : ∀ j, s.commit.inFlight = some j → s.nv.bank j.bank = .badCheck ∧ j.snapshot.number = s.nv.nextNumber
  copied : ∀ j, s.commit.inFlight = some j → j.snapshot.meter.bounded ∧ j.snapshot.meter.le s.meter
  follows : ∀ j, s.commit.inFlight = some j → ∀ k x, s.nv.bank k = .holds x → x.meter.le j.snapshot.meter

end Sys2Proof.Machine
end

