-- ==== Sys2Proof/Certificates/Slice0/Obligations.lean ====
section
/-! DEFINITION. The statements for the provers, block by block, then the laws that every step keeps. -/

section Statements

open Sys2Proof Sys2Proof.Machine

/-! ## The queue of commands and the blocks they touch -/

/-- A step carries out the command at the front of the queue on the state with the rest of the queue. On an empty queue
the part idles, which is the model's choice (log 1). -/
def Obligations.StepRunsFrontCommand : Prop :=
  (∀ (c : Instr) (s : State), step { s with pending := c :: s.pending } = exec c s)
  ∧ (∀ (c : Instr) (rest : List Instr) (s : State), s.pending = c :: rest → step s = exec c { s with pending := rest })
  ∧ ∀ s : State, s.pending = [] → step s = .next s

/-- Every command completes in every state, and none touches the queue of waiting commands. -/
def Obligations.CommandsLeaveQueueAlone : Prop :=
  ∀ (c : Instr) (s : State), ∃ t, exec c s = .next t ∧ t.pending = s.pending

/-- The frames of every command, block by block (R28, R31, R56, R104, R122, R137, R159, R175 and
95_what_each_step_holds.md): a command leaves alone each block it does not touch, and the touches… functions list
those that do. -/
def Obligations.CommandsKeepToTheirBlocks : Prop :=
  ∀ (c : Instr) (s t : State), exec c s = .next t →
    (touchesWindows c = false → t.windows = s.windows) ∧ (touchesKeys c = false → t.keys = s.keys)
    ∧ (touchesPages c = false → t.pages = s.pages) ∧ (touchesAccounts c = false → t.accounts = s.accounts)
    ∧ (touchesMeter c = false → t.meter = s.meter) ∧ (touchesSlots c = false → t.slots = s.slots)
    ∧ (touchesGauges c = false → t.gauges = s.gauges ∧ t.carry = s.carry)
    ∧ (touchesSettings c = false → t.settings = s.settings) ∧ (touchesStore c = false → t.nv = s.nv)
    ∧ (touchesCommits c = false → t.commit = s.commit) ∧ (touchesWrites c = false → t.pwq = s.pwq)
    ∧ (touchesReads c = false → t.tracker = s.tracker) ∧ (touchesFlushes c = false → t.flushes = s.flushes)
    ∧ (touchesScrub c = false → t.scrub = s.scrub) ∧ (touchesErrors c = false → t.path = s.path)
    ∧ (touchesPins c = false → t.pins = s.pins)
    ∧ (commandCode c = none → (∀ f code, c ≠ .unknownCommand f code) → (∀ b, c ≠ .wakeEnd b) → c ≠ .powerOn → c ≠ .powerLoss →
      t.held = s.held)
    ∧ ((∀ f k n o, c ≠ .provision f k n o) → (∀ f o, c ≠ .lock f o) → (∀ b, c ≠ .wakeEnd b) → t.nv.root = s.nv.root)

/-! ## The page link: intake -/

/-- R5: any single bit of the address turned over, with its parity bits as they were, fails the address parity check;
and so does any single parity bit turned over. R142: a frame with a byte of its payload, its code or its check
changed to another of the same length is not taken for a good one: the CRC-8 catches every change of one byte. -/
def Obligations.ChecksCatchErrors : Prop :=
  (∀ r : PageRequest, addrParityGood r = true →
      (∀ k : Fin 36, addrParityGood { r with addr := r.addr ^^^ BitVec.twoPow 36 k.val } = false)
      ∧ ∀ k : Fin 5, addrParityGood { r with addrParity := r.addrParity ^^^ BitVec.twoPow 5 k.val } = false)
  ∧ (∀ (code : Byte) (payload : List Byte) (i : Nat) (b : Byte), payload.length ≤ 254 →
      goodPayload code payload.length (cartFrame code payload) = some payload
      ∧ (i < payload.length + 3 → (cartFrame code payload)[i]? ≠ some b →
        goodPayload code payload.length ((cartFrame code payload).set i b) = none))

/-- R5: a READ or WRITE with bad address parity is dropped: no response, no tid, the flag set and the fields offered to
the capture as received, with no window. It is so in every power state and in a reset. R7, R9, R10: while the part
wakes or a reset is in progress, a request that passes the parity check is answered RETRY and leaves no other trace,
and in SLEEP it starts the wake. A FLUSH has no address to check (R5), nor has a request of the invalid kind here
(log 11). -/
def Obligations.IntakeDropsAndRetries : Prop :=
  (∀ (s : State) (r : PageRequest) (beats : Vector WriteBeat 8),
      s.powered = true → r.kind ≠ 3 → addrParityGood r = false →
        (exec (.read r) s = .next ((s.driving []).erred
          ⟨.addrParity, some .read, some r.source, r.jobTag, some r.tid, some r.addr, none, false⟩))
        ∧ (exec (.write r beats) s = .next ((s.driving []).erred
          ⟨.addrParity, some .write, some r.source, r.jobTag, some r.tid, some r.addr, none, false⟩)))
  ∧ (∀ (s : State) (r : PageRequest) (beats : Vector WriteBeat 8), s.powered = true → s.accepting = false →
      let t : State := { s.responded r .retry with power := if s.power = .sleep then .waking else s.power }
      (addrParityGood r = true ∨ r.kind = 3 → exec (.read r) s = .next t ∧ exec (.write r beats) s = .next t)
        ∧ exec (.flush r) s = .next t)

/-- R8, steps 1a to 1d: the first check that fails decides the answer. BAD_KIND comes before BAD_SOURCE, BAD_SOURCE
before BAD_SHAPE, BAD_SHAPE before DUP_TID. Each is answered DENIED with its flag, and nothing else changes. What
the capture holds of a request refused here is the model's choice (log 12); so is that a request of the invalid kind
has no address parity to check and is captured with no kind (log 11). -/
def Obligations.FirstFailedCheckDecides : Prop :=
  ∀ (s : State) (r : PageRequest) (beats : Vector WriteBeat 8), s.serving →
    let denied (flag : PathFlag) (kind : Option ReqKind) : State :=
      (s.driving [.response r.source r.tid .denied]).erred
        ⟨flag, kind, some r.source, r.jobTag, some r.tid, if kind = some .flush then none else some r.addr, none, false⟩
    (r.kind = 3 →
      exec (.read r) s = .next (denied .badKind none) ∧ exec (.write r beats) s = .next (denied .badKind none)
        ∧ exec (.flush r) s = .next (denied .badKind none))
    ∧ (r.kind ≠ 3 → 6 ≤ r.source.toNat →
      (addrParityGood r = true → exec (.read r) s = .next (denied .badSource (some .read))
        ∧ exec (.write r beats) s = .next (denied .badSource (some .write)))
      ∧ exec (.flush r) s = .next (denied .badSource (some .flush)))
    ∧ (r.kind ≠ 3 → r.source.toNat < 6 → addrParityGood r = true → legalShape r = false →
      exec (.read r) s = .next (denied .badShape (some .read))
        ∧ exec (.write r beats) s = .next (denied .badShape (some .write)))
    ∧ ∀ src, r.kind ≠ 3 → sourceOf r.source = some src → (src, r.tid) ∈ s.tids →
      (addrParityGood r = true → legalShape r = true →
        exec (.read r) s = .next (denied .dupTid (some .read))
          ∧ exec (.write r beats) s = .next (denied .dupTid (some .write)))
      ∧ exec (.flush r) s = .next (denied .dupTid (some .flush))

/-- R11: outside every window, SCAN and PRINT are answered DENIED, and any other source is answered DENIED with ALIAS
where its address names a window's memory. R20, R23: in a window, a retiring window refuses every READ and WRITE, a
sealed one every WRITE, mode NONE both, mode READ every WRITE, and a plaintext mode every request whose job tag
fails the owner check. -/
def Obligations.AccessIsRefused : Prop :=
  (∀ (s : State) (r : PageRequest) (beats : Vector WriteBeat 8) (src : Source), s.admits r src →
      (∀ i, (s.window i).live = true → (s.window i).holdsSys r.addr = false) →
      let denied (flag : PathFlag) (kind : ReqKind) : State :=
        (s.driving [.response r.source r.tid .denied]).erred
          ⟨flag, some kind, some r.source, r.jobTag, some r.tid, some r.addr, none, false⟩
      (src = .scan ∨ src = .print →
        exec (.read r) s = .next (denied .denied .read) ∧ exec (.write r beats) s = .next (denied .denied .write))
      ∧ (src ≠ .scan → src ≠ .print → (∃ i, (s.window i).live = true ∧ (s.window i).holdsMem r.addr = true) →
        exec (.read r) s = .next (denied .aliasHit .read) ∧ exec (.write r beats) s = .next (denied .aliasHit .write)))
  ∧ (∀ (s : State) (r : PageRequest) (beats : Vector WriteBeat 8) (src : Source) (i : WindowIdx),
      s.admits r src → s.findWindow r.addr = some i →
      let w := s.window i
      let denied (kind : ReqKind) : State :=
        (s.driving [.response r.source r.tid .denied]).erred
          ⟨.denied, some kind, some r.source, r.jobTag, some r.tid, some r.addr, some ⟨i, w.generation⟩, false⟩
      let outsider := w.owner ≠ 0 ∧ w.owner ≠ r.jobTag
      (w.retiring = true ∨ w.modes.of src = .noAccess ∨ ((w.modes.of src = .read ∨ w.modes.of src = .readWrite) ∧ outsider) →
        exec (.read r) s = .next (denied .read))
      ∧ (w.retiring = true ∨ w.state = .sealed ∨ w.modes.of src = .noAccess ∨ w.modes.of src = .read
          ∨ (w.modes.of src = .readWrite ∧ outsider) → exec (.write r beats) s = .next (denied .write)))

/-- R24, at step 3 of R8: the owner check, which applies in the modes READ and READ_WRITE alone. -/
def Obligations.OwnerCheckDecides : Prop :=
  ∀ (w : Window) (i : WindowIdx) (src : Source) (tag : JobTag) (isWrite : Bool),
    (w.modes.of src = .readWrite ∨ (w.modes.of src = .read ∧ isWrite = false) →
      w.judgeMode i src tag isWrite = if w.owner = 0 ∨ w.owner = tag then .plain i else .refused .denied (some (w.ref i)))
    ∧ (w.modes.of src = .cipher → w.judgeMode i src tag isWrite = .raw i)
    ∧ (w.modes.of src = .noAccess → w.judgeMode i src tag isWrite = .refused .denied (some (w.ref i)))

/-- R20, R21: where the windows lie apart, the window found for an address is the one that holds it, and no other. -/
def Obligations.OneWindowMatches : Prop :=
  ∀ (s : State) (a : Addr) (i : WindowIdx), s.windowsApart →
    (s.findWindow a = some i ↔ (s.window i).live = true ∧ (s.window i).holdsSys a = true)

/-! ## The page link: reads -/

/-- R11, R23, R64, R65, R91: a READ that is not answered from a prefetch line is taken with a tracker entry, HELD where
it overlaps posted writes and ISSUED otherwise: passed through outside windows, as stored in mode CIPHER, decrypted
in modes READ and READ_WRITE, and with its page and plane where it is a PRINT read of a PRINT window. R72: a DECRYPT
read that finds a VALID line of its window and chunk with all its beats, and no posted write on its range, is
answered from the line: a delivery begins with the line's beats, and the line's delivery count rises. A PRINT read of
a PRINT window is answered so with its page and plane. -/
def Obligations.ReadsAreTaken : Prop :=
  (∀ (s : State) (r : PageRequest) (src : Source), s.admits r src →
      (∀ p : Place, p = ⟨none, 0, r.addr⟩ → src ≠ .scan → src ≠ .print → s.roomForRead r p →
        (∀ i, (s.window i).live = true → (s.window i).holdsSys r.addr = false ∧ (s.window i).holdsMem r.addr = false) →
          exec (.read r) s = .next (s.reading src r .pass p none))
      ∧ ∀ (i : WindowIdx) (p : Place), s.findWindow r.addr = some i → (s.window i).retiring = false →
        p = ⟨some ⟨i, (s.window i).generation⟩, r.addr.toNat - (s.window i).sysBase.toNat,
          (s.window i).memBase + BitVec.ofNat 36 (r.addr.toNat - (s.window i).sysBase.toNat)⟩ → s.roomForRead r p →
        let w := s.window i
        let printing := src = .print ∧ w.kind = .print
        (w.modes.of src = .cipher → ¬ printing → exec (.read r) s = .next (s.reading src r .raw p none))
        ∧ (w.modes.of src = .read ∨ w.modes.of src = .readWrite → w.owner = 0 ∨ w.owner = r.jobTag →
          s.overlapping p.memAddr.toNat (32 * r.length.toNat) ≠ [] ∨ s.hitLine ⟨i, w.generation⟩ p.offset r.length.toNat = none →
            (¬ printing → exec (.read r) s = .next (s.reading src r .decrypt p none))
            ∧ (printing → ∀ page plane, s.findPlane i p.offset (32 * r.length.toNat) = some (page, plane) →
              page.state ≠ .waiting →
                exec (.read r) s = .next (s.reading src r .decrypt p (some ⟨page.number, plane.colour⟩)))))
  ∧ (∀ (s : State) (r : PageRequest) (src : Source) (i : WindowIdx) (k : Fin 8) (l : Line) (filled us n : Nat)
      (data beats : List Beat) (ref : Option PlaneRef), s.admits r src → s.findWindow r.addr = some i →
      (s.window i).retiring = false →
      let w := s.window i
      let offset := r.addr.toNat - w.sysBase.toNat
      w.modes.of src = .read ∨ w.modes.of src = .readWrite → w.owner = 0 ∨ w.owner = r.jobTag →
      (if src = .print ∧ w.kind = .print then
        ∃ page plane, s.findPlane i offset (32 * r.length.toNat) = some (page, plane) ∧ page.state ≠ .waiting
          ∧ ref = some ⟨page.number, plane.colour⟩
      else ref = none) →
      s.chunkLocked (w.memAt offset).toNat (32 * r.length.toNat) = false →
      s.overlapping (w.memAt offset).toNat (32 * r.length.toNat) = [] →
      s.hitLine ⟨i, w.generation⟩ offset r.length.toNat = some (k, l, beats) → l.state = .valid filled us n false data →
        exec (.read r) s = .next { s.driving [] with
          seq := s.seq + 1
          tids := (src, r.tid) :: s.tids
          lines := s.lines.set k (some { l with state := .valid filled us (n + 1) false data })
          hits := s.hits ++ [
            { age := s.seq, source := src, tid := r.tid, jobTag := r.jobTag, offset := offset, window := ⟨i, w.generation⟩
              ref := ref, line := k, beats := beats, sent := 0, ownsTid := true }] })

/-- R90, R91: the kind gate. A PRINT read of a PRINT window is refused with UNBILLED in mode CIPHER, or where no plane
of a live page holds it, and is answered RETRY where its page is WAITING. -/
def Obligations.KindGateStopsUnbilledReads : Prop :=
  ∀ (s : State) (r : PageRequest) (i : WindowIdx), s.admits r .print → s.findWindow r.addr = some i →
    (s.window i).retiring = false → (s.window i).kind = .print →
    let w := s.window i
    let offset := r.addr.toNat - w.sysBase.toNat
    let unbilled : State := (s.driving [.response r.source r.tid .denied]).erred
      ⟨.unbilled, some .read, some r.source, r.jobTag, some r.tid, some r.addr, some ⟨i, w.generation⟩, false⟩
    (w.modes.of .print = .cipher → exec (.read r) s = .next unbilled)
    ∧ (w.modes.of .print = .read ∨ w.modes.of .print = .readWrite → w.owner = 0 ∨ w.owner = r.jobTag →
      (s.findPlane i offset (32 * r.length.toNat) = none → exec (.read r) s = .next unbilled)
      ∧ ∀ page plane, s.findPlane i offset (32 * r.length.toNat) = some (page, plane) → page.state = .waiting →
        exec (.read r) s = .next (s.responded r .retry))

/-- R25: a READ joins the tracker in DECRYPT access, or is answered from a prefetch line, only where its address lies in
a window in which its source holds READ or READ_WRITE and whose owner tag is 0 or its job tag. -/
def Obligations.PlaintextNeedsStanding : Prop :=
  ∀ (s t : State) (r : PageRequest), exec (.read r) s = .next t →
    let standing (w : Window) : Prop := w.live = true ∧ w.holdsSys r.addr = true ∧ (w.owner = 0 ∨ w.owner = r.jobTag)
      ∧ ∃ src, sourceOf r.source = some src ∧ (w.modes.of src = .read ∨ w.modes.of src = .readWrite)
    (∀ e ∈ t.tracker, e ∉ s.tracker → e.access = .decrypt → ∃ i, e.window = some ((s.window i).ref i) ∧ standing (s.window i))
    ∧ ∀ h ∈ t.hits, h ∉ s.hits → ∃ i, h.window = (s.window i).ref i ∧ standing (s.window i)

/-! ## The page link: writes and flushes -/

/-- R44, R45, R49: full units encrypted at acceptance come back from decryption under the same key and offsets as the
data that was received. R53: the read-modify-write of a partial unit leaves a unit that decrypts to the received
bytes where the mask is set and to the stored plaintext elsewhere, byte by byte, and that is written whole. R185: a
chunk moved by a re-key decrypts, under the new key and the same offsets, to what it decrypted to under the current
key. -/
def Obligations.CipherKeepsPlaintext : Prop :=
  (∀ (key : Option KeyRef) (offset : Nat) (beats : List QueuedBeat),
      (∀ b ∈ beats, b.mask = BitVec.allOnes 32) →
        mapUnits (fun off u => decryptUnit key off u) offset ((treatBeats key offset beats).map (·.data)) = beats.map (·.data))
  ∧ (∀ (key : Option KeyRef) (offset : Nat) (mask : BitVec 16) (received stored : CipherUnit) (k : Fin 16),
      maskPartial mask = true →
        completeMask mask = BitVec.allOnes 16
        ∧ (decryptUnit key offset (completeUnit key offset mask received stored)).extractLsb' (8 * k.val) 8 =
          if mask.getLsbD k.val then received.extractLsb' (8 * k.val) 8
          else (decryptUnit key offset stored).extractLsb' (8 * k.val) 8)
  ∧ (∀ (s : State) (i : WindowIdx) (offset : Nat) (data : List Beat),
      mapUnits (fun off u => decryptUnit (s.spareKey i) off u) offset (mapUnits (s.moveUnit i) offset data)
        = mapUnits (fun off u => decryptUnit s.keys.slots[i] off u) offset data)

/-- R6, R11, R23, R47, R48: a WRITE with a place in the queue and no chunk lock on its range is accepted: it joins the
tail of the queue and is answered OKAY, passed through outside windows, as received in mode CIPHER, encrypted in
mode READ_WRITE. With a group of bad data parity it is accepted just so, with WDATA_PARITY raised once. Stated where
no prefetch line overlaps it, the scan slot counter is not concerned and the head of the queue has something to
write; the statements ScanSlotIsCounted, WriteInvalidatesLines and EmptyWriteLeavesAtOnce say what is added there.
R54: a WRITE accepted into an empty queue with every mask bit clear leaves it at once, as written. R48, R65: a READ
or WRITE that could be taken, outside every window or in one, is answered RETRY where its range overlaps a chunk
locked by a re-key, and where the tracker, or the posted-write queue, is full. A READ that finds its beats in a
prefetch line needs no place in the tracker. -/
def Obligations.WritesAreTaken : Prop :=
  (∀ (s : State) (r : PageRequest) (beats : Vector WriteBeat 8) (src : Source), s.admits r src →
      let received := beats.toList.take r.length.toNat
      let queued : List QueuedBeat := received.map (fun b => ⟨b.data, b.mask⟩)
      let accepted (access : WriteAccess) (p : Place) (key : Option KeyRef) (units : List Nat) (data : List QueuedBeat) : Prop :=
        let e : PwqEntry :=
          { id := s.seq, source := src, tid := r.tid, jobTag := r.jobTag, sysAddr := r.addr, memAddr := p.memAddr
            length := r.length.toNat, access := access, window := p.window, offset := p.offset, key := key, beats := data
            rmw := !units.isEmpty, units := units, state := .queued, marks := [] }
        let taken : State := { s.driving [.response r.source r.tid .okay] with seq := s.seq + 1, pwq := s.pwq ++ [e] }
        s.chunkLocked p.memAddr.toNat (32 * r.length.toNat) = false → s.pwq.length < 16 →
        (∀ k, (s.line k).all (fun l => !overlaps p.memAddr.toNat (32 * r.length.toNat) (s.lineAddr l) 256) = true) →
        ((s.pwq ++ [e]).head?.all (fun h => !h.allClear)) = true →
          exec (.write r beats) s = .next
            (if received.any (fun b => dataParityOf b.data != b.parity) then
              taken.erred ⟨.wdataParity, some .write, some r.source, r.jobTag, some r.tid, some r.addr, p.window, false⟩
            else taken)
      (src ≠ .scan → src ≠ .print →
        (∀ i, (s.window i).live = true → (s.window i).holdsSys r.addr = false ∧ (s.window i).holdsMem r.addr = false) →
          accepted .pass ⟨none, 0, r.addr⟩ none [] queued)
      ∧ ∀ i, s.findWindow r.addr = some i → (s.window i).state = .opened → ¬ (src = .scan ∧ (s.window i).kind = .scan) →
        let w := s.window i
        let offset := r.addr.toNat - w.sysBase.toNat
        let p : Place := ⟨some ⟨i, w.generation⟩, offset, w.memBase + BitVec.ofNat 36 offset⟩
        (w.modes.of src = .cipher → accepted .raw p none [] queued)
        ∧ (w.modes.of src = .readWrite → w.owner = 0 ∨ w.owner = r.jobTag →
          accepted .encrypt p (s.selectKey i offset) (partialUnits offset queued) (treatBeats (s.selectKey i offset) offset queued)))
  ∧ (∀ (s : State) (r : PageRequest) (beats : Vector WriteBeat 8) (src : Source), s.admits r src → src ≠ .scan → src ≠ .print →
      (∀ i, (s.window i).live = true → (s.window i).holdsSys r.addr = false ∧ (s.window i).holdsMem r.addr = false) →
      s.chunkLocked r.addr.toNat (32 * r.length.toNat) = false → s.pwq = [] →
      (∀ b ∈ beats.toList, b.mask = 0) →
        ∃ t, exec (.write r beats) s = .next t ∧ t.pwq = [] ∧ .response r.source r.tid .okay ∈ t.emitted)
  ∧ (∀ (s : State) (r : PageRequest) (beats : Vector WriteBeat 8) (src : Source), s.admits r src → src ≠ .scan → src ≠ .print →
      (∀ i, (s.window i).live = true → (s.window i).holdsSys r.addr = false ∧ (s.window i).holdsMem r.addr = false) →
      let locked := s.chunkLocked r.addr.toNat (32 * r.length.toNat) = true
      (locked ∨ 16 ≤ s.tracker.length → exec (.read r) s = .next (s.responded r .retry))
      ∧ (locked ∨ 16 ≤ s.pwq.length → exec (.write r beats) s = .next (s.responded r .retry)))
  ∧ (∀ (s : State) (r : PageRequest) (beats : Vector WriteBeat 8) (src : Source) (i : WindowIdx), s.admits r src →
      s.findWindow r.addr = some i → (s.window i).retiring = false →
      let w := s.window i
      let offset := r.addr.toNat - w.sysBase.toNat
      let a := (w.memAt offset).toNat
      let n := 32 * r.length.toNat
      let locked := s.chunkLocked a n = true
      let printing := src = .print ∧ w.kind = .print
      let owned := w.owner = 0 ∨ w.owner = r.jobTag
      let plain := (w.modes.of src = .read ∨ w.modes.of src = .readWrite) ∧ owned
      (¬ printing → w.modes.of src = .cipher → locked ∨ 16 ≤ s.tracker.length →
        exec (.read r) s = .next (s.responded r .retry))
      ∧ (plain → (printing → ∃ page plane, s.findPlane i offset n = some (page, plane) ∧ page.state ≠ .waiting) →
        locked ∨ (16 ≤ s.tracker.length
          ∧ (s.overlapping a n ≠ [] ∨ s.hitLine ⟨i, w.generation⟩ offset r.length.toNat = none)) →
            exec (.read r) s = .next (s.responded r .retry))
      ∧ (w.state = .opened → w.modes.of src = .cipher ∨ (w.modes.of src = .readWrite ∧ owned) →
        locked ∨ 16 ≤ s.pwq.length → exec (.write r beats) s = .next (s.responded r .retry)))

/-- R48, R73: after an accepted WRITE no prefetch line that overlaps its memory range can be hit. -/
def Obligations.WriteInvalidatesLines : Prop :=
  ∀ (s t : State) (r : PageRequest) (beats : Vector WriteBeat 8), s.serving → exec (.write r beats) s = .next t →
    .response r.source r.tid .okay ∈ t.emitted →
    let a := match s.findWindow r.addr with
      | some i => (s.window i).memAt ((s.window i).offsetOf r.addr)
      | none => r.addr
    ∀ k l, t.line k = some l → overlaps a.toNat (32 * r.length.toNat) (s.lineAddr l) 256 = true →
      ∃ filled us n data, l.state = .valid filled us n true data

/-- R102, R103: a SCAN write accepted into a SCAN window, in mode CIPHER or READ_WRITE, that covers the final beat of a
scan slot with a mask bit set, marks the slot and raises the scan counters of the window's account and of the meter
by 1, saturating; where the slot's mark was set, it changes none of them. -/
def Obligations.ScanSlotIsCounted : Prop :=
  ∀ (s : State) (r : PageRequest) (beats : Vector WriteBeat 8) (i : WindowIdx) (k : Fin 64) (b : WriteBeat),
    s.admits r .scan → s.findWindow r.addr = some i → (s.window i).state = .opened → (s.window i).kind = .scan →
    let w := s.window i
    let offset := r.addr.toNat - w.sysBase.toNat
    let final := (k.val + 1) * w.stride - 32
    256 ≤ w.stride → k.val < w.slotCount →
    w.modes.of .scan = .cipher ∨ (w.modes.of .scan = .readWrite ∧ (w.owner = 0 ∨ w.owner = r.jobTag)) →
    s.chunkLocked (w.memAt offset).toNat (32 * r.length.toNat) = false → s.pwq.length < 16 →
    offset ≤ final → (beats.toList.take r.length.toNat)[(final - offset) / 32]? = some b → (final - offset) % 32 = 0 →
    b.mask ≠ 0 →
      ∃ t, exec (.write r beats) s = .next t ∧
        if w.counted.getLsbD k.val then t.windows = s.windows ∧ t.accounts = s.accounts ∧ t.meter = s.meter
        else
          t.windows = s.windows.set i { w with counted := w.counted ||| BitVec.twoPow 64 k.val }
          ∧ t.accounts = s.accounts.set w.scanAccount { s.account w.scanAccount with
              counters := { (s.account w.scanAccount).counters with
                scan := min 4294967295 ((s.account w.scanAccount).counters.scan + 1) } }
          ∧ t.meter = { s.meter with scan := min 4294967295 (s.meter.scan + 1) }

/-- R59: a FLUSH is answered OKAY at once with the queue empty; otherwise it is taken where the flush list has a place,
marking every entry of the queue, and is answered RETRY where it has none. R60: a flush whose count is 0 is
answered, FAULT where its lost mark is set and OKAY otherwise, and leaves the list with its tid free. -/
def Obligations.FlushesGoTheirWay : Prop :=
  (∀ (s : State) (r : PageRequest) (src : Source), s.serving → r.kind ≠ 3 → sourceOf r.source = some src →
      (src, r.tid) ∉ s.tids →
      (s.pwq = [] → exec (.flush r) s = .next (s.responded r .okay))
      ∧ (s.pwq ≠ [] → s.flushes.length < 4 →
        exec (.flush r) s = .next { s.driving [] with
          seq := s.seq + 1
          tids := (src, r.tid) :: s.tids
          flushes := s.flushes ++ [⟨s.seq, src, r.tid, s.pwq.length, false⟩]
          pwq := s.pwq.map (fun e => { e with marks := e.marks ++ [s.seq] }) })
      ∧ (s.pwq ≠ [] → 4 ≤ s.flushes.length → exec (.flush r) s = .next (s.responded r .retry)))
  ∧ (∀ (s : State) (id : Nat) (fl : Flush), s.powered = true → s.flushes.find? (fun x => x.id == id) = some fl → fl.count = 0 →
      exec (.flushComplete id) s = .next
        { s.driving [.response fl.source.code fl.tid (if fl.lost then .fault else .okay)] with
          flushes := s.flushes.filter (fun x => x.id != id)
          tids := s.tids.filter (· != (fl.source, fl.tid)) })

/-! ## The memory port -/

/-- R75, R76: the arbiter's choice. A scrub share that is due goes to a scrub channel; then the read-modify-write read
of the head, then demand reads and the drain, alternating while both wait, then prefetches, then scrub channels, A
and B alternating while both wait. R66, R75 to R77: the grant of a demand read. It takes the lowest free memory tid,
is timed by the memory timeout in force, and is issued with its own source and job tag; the share count rises where
a scrub channel waits. R52, R75 to R77: the grant of the head's write. It carries the entry's data and masks with
fresh parity, and the entry enters WRITING. R53: the grant of the head's read-modify-write read. It reads the beats
from the first to the last that holds a partial unit, and the entry enters RMW_READ. R71: the grant of a prefetch,
under source PRINT and the line's job tag, for the line's beats. R179, R180: an erase channel that is READY and
granted writes its pass's pattern over the chunk its progress names, under source SERVICE and job tag 0, every mask
bit set, and waits for the answer; a RANDOM pattern is a fresh draw, whose value is free (log 8). R185: a re-key
channel reads the chunk at its window's cursor, or, once it holds the chunk moved to the new key, writes it. R75, R77:
with no requester waiting, or with no free memory tid, nothing is granted. -/
def Obligations.GrantsFollowPrecedence : Prop :=
  (∀ s : State,
      let scrub := s.scrub.chans[0].asks = true ∨ s.scrub.chans[1].asks = true
      let due := scrub ∧ s.settings.scrubShare - 1 ≤ s.mem.share
      let toScrub : Prop := ∃ c, s.chooseGrant = some (.scrub c) ∧ (s.chan c).asks = true
        ∧ (s.scrub.chans[0].asks = true → s.scrub.chans[1].asks = true → (c = 1 ↔ s.mem.lastScrub = some 0))
      (due → toScrub)
      ∧ (¬ due → s.rmwWaits = true → s.chooseGrant = some .rmwRead)
      ∧ (¬ due → s.rmwWaits = false → ∀ age, s.oldestDemand = some age →
        s.chooseGrant = if s.drainWaits = true ∧ s.mem.lastSecond = some .demand then some .drain else some (.demand age))
      ∧ (¬ due → s.rmwWaits = false → s.oldestDemand = none → s.drainWaits = true → s.chooseGrant = some .drain)
      ∧ (¬ due → s.rmwWaits = false → s.oldestDemand = none → s.drainWaits = false → ∀ i, s.firstPrefetch = some i →
        s.chooseGrant = some (.prefetch i))
      ∧ (s.rmwWaits = false → s.oldestDemand = none → s.drainWaits = false → s.firstPrefetch = none →
        (s.chooseGrant = none ↔ ¬ scrub) ∧ (scrub → toScrub)))
  ∧ (∀ (s : State) (tid : MemTid) (age : Nat) (e : TrackerEntry), s.powered = true →
      s.memTid tid = .free → (∀ u < tid, s.memTid u ≠ .free) → s.chooseGrant = some (.demand age) →
      s.tracker.find? (fun x => x.age == age) = some e →
        exec .memoryGrant s = .next
          { s.driving [.memRequest tid .read e.source e.jobTag e.memAddr (addrParityOf e.memAddr) e.length []] with
            tracker := s.tracker.map (fun x => if x.age == age then { e with state := .issued (some tid) } else x)
            mem := { s.mem with
              tids := s.mem.tids.set tid
                (.outstanding ⟨.read, .demand age, e.source, e.jobTag, e.memAddr, e.length, s.settings.memTimeout⟩)
              share := if anyAsks s.scrub.chans then s.mem.share + 1 else s.mem.share
              lastSecond := some .demand } })
  ∧ (∀ (s : State) (tid : MemTid) (e : PwqEntry) (rest : List PwqEntry), s.powered = true →
      s.memTid tid = .free → (∀ u < tid, s.memTid u ≠ .free) → s.chooseGrant = some .drain → s.pwq = e :: rest →
        exec .memoryGrant s = .next
          { s.driving [.memRequest tid .write e.source e.jobTag e.memAddr (addrParityOf e.memAddr) e.length
              (e.beats.map (fun b => ⟨b.data, b.mask, dataParityOf b.data⟩))] with
            pwq := { e with state := .writing } :: rest
            mem := { s.mem with
              tids := s.mem.tids.set tid
                (.outstanding ⟨.write, .drain e.id, e.source, e.jobTag, e.memAddr, e.length, s.settings.memTimeout⟩)
              share := if anyAsks s.scrub.chans then s.mem.share + 1 else s.mem.share
              lastSecond := some .drain } })
  ∧ (∀ (s : State) (tid : MemTid) (c : ChannelId) (j : Job) (passes : List Pattern) (byte : Beat), s.powered = true →
      s.memTid tid = .free → (∀ u < tid, s.memTid u ≠ .free) → s.chooseGrant = some (.scrub c) →
      (s.chan c).job = some j → j.kind = .erase passes →
      (passes.getD ((s.chan c).pass - 1) .zero = .zero ∧ byte = 0)
        ∨ (passes.getD ((s.chan c).pass - 1) .zero = .ones ∧ byte = BitVec.allOnes 256) →
      let a := (s.window j.window.index).memAt (s.chan c).offset
      let chans := s.scrub.chans.set c { s.chan c with step := .writing }
      exec .memoryGrant s = .next
        { s.driving [.memRequest tid .write .service 0 a (addrParityOf a) 8
            (List.replicate 8 ⟨byte, BitVec.allOnes 32, dataParityOf byte⟩)] with
          scrub := { s.scrub with chans := chans }
          mem := { s.mem with
            tids := s.mem.tids.set tid (.outstanding ⟨.write, .scrub c, .service, 0, a, 8, s.settings.memTimeout⟩)
            share := 0
            lastScrub := some c } })
  ∧ (∀ (s : State) (tid : MemTid) (c : ChannelId) (j : Job) (passes : List Pattern), s.powered = true →
      s.memTid tid = .free → (∀ u < tid, s.memTid u ≠ .free) → s.chooseGrant = some (.scrub c) →
      (s.chan c).job = some j → j.kind = .erase passes → passes.getD ((s.chan c).pass - 1) .zero = .random →
      let a := (s.window j.window.index).memAt (s.chan c).offset
      exec .memoryGrant s = .next
        { s.driving [.memRequest tid .write .service 0 a (addrParityOf a) 8
            ((List.range 8).map (fun n => ⟨Config.randomBeat s.draws n, BitVec.allOnes 32,
              dataParityOf (Config.randomBeat s.draws n)⟩))] with
          draws := s.draws + 1
          scrub := { s.scrub with chans := s.scrub.chans.set c { s.chan c with step := .writing } }
          mem := { s.mem with
            tids := s.mem.tids.set tid (.outstanding ⟨.write, .scrub c, .service, 0, a, 8, s.settings.memTimeout⟩)
            share := 0
            lastScrub := some c } })
  ∧ (∀ (s : State) (tid : MemTid) (c : ChannelId) (j : Job), s.powered = true →
      s.memTid tid = .free → (∀ u < tid, s.memTid u ≠ .free) → s.chooseGrant = some (.scrub c) →
      (s.chan c).job = some j → j.kind = .rekey →
      let a := (s.window j.window.index).memAt (s.window j.window.index).cursor
      let issued (op : MemOp) (step : Step) (beats : List DrivenBeat) : State :=
        { s.driving [.memRequest tid op .service 0 a (addrParityOf a) 8 beats] with
          scrub := { s.scrub with chans := s.scrub.chans.set c { s.chan c with step := step } }
          mem := { s.mem with
            tids := s.mem.tids.set tid (.outstanding ⟨op, .scrub c, .service, 0, a, 8, s.settings.memTimeout⟩)
            share := 0
            lastScrub := some c } }
      ((s.chan c).buffer = none → exec .memoryGrant s = .next (issued .read .reading []))
      ∧ ∀ moved, (s.chan c).buffer = some moved → exec .memoryGrant s = .next
        (issued .write .writing (moved.map (fun b => ⟨b, BitVec.allOnes 32, dataParityOf b⟩))))
  ∧ (∀ (s : State) (tid : MemTid) (e : PwqEntry) (rest : List PwqEntry) (first last : Nat), s.powered = true →
      s.memTid tid = .free → (∀ u < tid, s.memTid u ≠ .free) → s.chooseGrant = some .rmwRead → s.pwq = e :: rest →
      e.units.head? = some first → e.units.getLast? = some last →
      let k := (first - e.offset) / 32
      let n := (last - e.offset) / 32 + 1 - k
      let a := e.memAddr + BitVec.ofNat 36 (32 * k)
      exec .memoryGrant s = .next
        { s.driving [.memRequest tid .read e.source e.jobTag a (addrParityOf a) n []] with
          pwq := { e with state := .rmwRead } :: rest
          mem := { s.mem with
            tids := s.mem.tids.set tid (.outstanding ⟨.read, .rmwRead e.id, e.source, e.jobTag, a, n, s.settings.memTimeout⟩)
            share := if anyAsks s.scrub.chans then s.mem.share + 1 else s.mem.share } })
  ∧ (∀ (s : State) (tid : MemTid) (i : Fin 8) (l : Line), s.powered = true →
      s.memTid tid = .free → (∀ u < tid, s.memTid u ≠ .free) → s.chooseGrant = some (.prefetch i) → s.line i = some l →
      let a := (s.window l.window.index).memAt l.chunk
      exec .memoryGrant s = .next
        { s.driving [.memRequest tid .read .print l.jobTag a (addrParityOf a) l.beats []] with
          lines := s.lines.set i (some { l with state := .filling (some tid) })
          mem := { s.mem with
            tids := s.mem.tids.set tid (.outstanding ⟨.read, .prefetch i, .print, l.jobTag, a, l.beats, s.settings.memTimeout⟩)
            share := if anyAsks s.scrub.chans then s.mem.share + 1 else s.mem.share } })
  ∧ (∀ s : State, s.powered = true → s.chooseGrant = none ∨ (∀ u, s.memTid u ≠ .free) →
      exec .memoryGrant s = .next (s.driving []))

/-- R14, R46, R67: the data of a demand read arrives with good parity. The tid is free, and the read enters DELIVERING
with the data decrypted under the key the cursor selects now, or as returned for RAW and PASS access. R14, R67, R68,
R77: a demand read fails, by an ERROR response, by bad data parity or at the memory timeout. It is answered FAULT
with the flag of its cause, its entry and its system tid are freed, and its memory tid is freed, or quarantined for
4 times the memory timeout. R71: the data of a prefetch fill their line, decrypted, with its discard timer; a prefetch
that fails frees its line and raises no flag. R15, R71, R80, R179: the outcome of a request whose consumer is gone, or
whose channel has left RUNNING, frees or quarantines the tid and does nothing else. R77: a response on a tid that is
not outstanding is discarded as UNSOLICITED, and ends a quarantine; a quarantine that has run its time ends without a
trace. What the capture holds of such a response, and that one on a quarantined tid is offered to it, is the model's
reading (log 35). -/
def Obligations.DemandReadsEnd : Prop :=
  (∀ (s : State) (tid : MemTid) (beats : Vector MemBeat 8) (q : MemRequest) (age : Nat) (e : TrackerEntry),
      s.powered = true → s.memTid tid = .outstanding q → q.op = .read → q.consumer = .demand age →
      s.tracker.find? (fun x => x.age == age) = some e →
      (∀ b ∈ beats.toList.take q.length, dataParityOf b.data = b.parity) →
      let data := (beats.toList.take q.length).map (·.data)
      let given := match e.access, e.window with
        | .decrypt, some w => mapUnits (fun off u => decryptUnit (s.selectKey w.index off) off u) e.offset data
        | _, _ => data
      exec (.memoryResponse tid false beats) s = .next { s.driving [] with
        tracker := s.tracker.map (fun x => if x.age == age then { e with state := .delivering given } else x)
        mem := { s.mem with tids := s.mem.tids.set tid .free } })
  ∧ (∀ (s : State) (tid : MemTid) (error : Bool) (beats : Vector MemBeat 8) (q : MemRequest) (age : Nat) (e : TrackerEntry),
      s.powered = true → s.memTid tid = .outstanding q → q.op = .read → q.consumer = .demand age →
      s.tracker.find? (fun x => x.age == age) = some e →
      let failed (flag : PathFlag) (after : TidState) : State :=
        { (s.driving [.response e.source.code e.tid .fault]).erred
            ⟨flag, some .read, some e.source.code, e.jobTag, some e.tid, some e.sysAddr, e.window, false⟩ with
          tids := s.tids.filter (· != (e.source, e.tid))
          tracker := s.tracker.filter (fun x => x.age != age)
          mem := { s.mem with tids := s.mem.tids.set tid after } }
      (error = true → exec (.memoryResponse tid error beats) s = .next (failed .memError .free))
      ∧ (error = false → (∃ b ∈ beats.toList.take q.length, dataParityOf b.data ≠ b.parity) →
        exec (.memoryResponse tid error beats) s = .next (failed .rdataParity .free))
      ∧ exec (.memoryTimeout tid) s = .next (failed .memTimeout (.quarantined (4 * s.settings.memTimeout))))
  ∧ (∀ (s : State) (tid : MemTid) (error : Bool) (beats : Vector MemBeat 8) (q : MemRequest) (i : Fin 8) (l : Line),
      s.powered = true → s.memTid tid = .outstanding q → q.op = .read → q.consumer = .prefetch i → s.line i = some l →
      let data := (beats.toList.take q.length).map (·.data)
      let plain := mapUnits (fun off u => decryptUnit (s.selectKey l.window.index off) off u) l.chunk data
      let bad : Prop := ∃ b ∈ beats.toList.take q.length, dataParityOf b.data ≠ b.parity
      let dropped (after : TidState) : State :=
        { s.driving [] with lines := s.lines.set i none, mem := { s.mem with tids := s.mem.tids.set tid after } }
      (error = false → ¬ bad → exec (.memoryResponse tid error beats) s = .next { s.driving [] with
        seq := s.seq + 1
        lines := s.lines.set i (some { l with state := .valid s.seq s.settings.discardTime 0 false plain })
        mem := { s.mem with tids := s.mem.tids.set tid .free } })
      ∧ (error = true ∨ bad → exec (.memoryResponse tid error beats) s = .next (dropped .free))
      ∧ exec (.memoryTimeout tid) s = .next (dropped (.quarantined (4 * s.settings.memTimeout))))
  ∧ (∀ (s : State) (tid : MemTid) (error : Bool) (beats : Vector MemBeat 8) (q : MemRequest),
      s.powered = true → s.memTid tid = .outstanding q →
      q.consumer = .discarded ∨ (∃ c, q.consumer = .scrub c ∧ (s.chan c).state ≠ .running) →
      let ended (after : TidState) : State := { s.driving [] with mem := { s.mem with tids := s.mem.tids.set tid after } }
      exec (.memoryResponse tid error beats) s = .next (ended .free)
      ∧ exec (.memoryTimeout tid) s = .next (ended (.quarantined (4 * s.settings.memTimeout))))
  ∧ (∀ (s : State) (tid : MemTid) (error : Bool) (beats : Vector MemBeat 8) (us : Nat), s.powered = true →
      let stray : State := (s.driving []).erred
        ⟨.unsolicited, none, none, 0, some (BitVec.ofNat 6 tid.val), none, none, false⟩
      (s.memTid tid = .free → exec (.memoryResponse tid error beats) s = .next stray)
      ∧ (s.memTid tid = .quarantined us → exec (.memoryResponse tid error beats) s =
          .next { stray with mem := { s.mem with tids := s.mem.tids.set tid .free } })
      ∧ (s.memTid tid = .quarantined us → exec (.tidQuarantineEnd tid) s =
          .next { s.driving [] with mem := { s.mem with tids := s.mem.tids.set tid .free } }))

/-- R52, R58, R60: the head's write is answered OKAY. The entry leaves the queue, the flushes that mark it count one
less and the held reads that wait on it lose it from their wait sets. Stated where the next head has something to
write. R53: the head's read-modify-write read returns. Each partial unit is merged with the stored unit at its offset
and made whole, and the entry is MERGED. R55, R58, R60, R68: the head's write or its read-modify-write read fails, by an
ERROR response, by bad parity of the data read, or at the memory timeout. The entry is dropped whole with its flag and
its capture, which marks the posted write lost, and the flushes that mark it count one less and are marked lost. That the
capture gives the kind WRITE where the read failed is the model's choice (log 49). -/
def Obligations.HeadLeavesQueue : Prop :=
  (∀ (s : State) (tid : MemTid) (beats : Vector MemBeat 8) (q : MemRequest) (e : PwqEntry) (rest : List PwqEntry),
      s.powered = true → s.memTid tid = .outstanding q → q.op = .write → q.consumer = .drain e.id → s.pwq = e :: rest →
      rest.head?.all (fun h => !h.allClear) = true →
        exec (.memoryResponse tid false beats) s = .next { s.driving [] with
          pwq := rest
          flushes := s.flushes.map (fun fl => if e.marks.contains fl.id then { fl with count := fl.count - 1 } else fl)
          tracker := s.tracker.map (fun x => match x.state with
            | .held ws => { x with state := .held (ws.filter (· != e.id)) }
            | _ => x)
          mem := { s.mem with tids := s.mem.tids.set tid .free } })
  ∧ (∀ (s : State) (tid : MemTid) (beats : Vector MemBeat 8) (q : MemRequest) (e : PwqEntry) (rest : List PwqEntry),
      s.powered = true → s.memTid tid = .outstanding q → q.op = .read → q.consumer = .rmwRead e.id → s.pwq = e :: rest →
      (∀ b ∈ beats.toList.take q.length, dataParityOf b.data = b.parity) →
      let data := (beats.toList.take q.length).map (·.data)
      ∀ first, e.units.head? = some first →
      let start := e.offset + 32 * ((first - e.offset) / 32)
      exec (.memoryResponse tid false beats) s = .next { s.driving [] with
        pwq := { e with
          beats := mergeBeats e.key (fun off => data.getD ((off - start) / 32) 0) e.offset e.beats
          units := [], rmw := false, state := .merged } :: rest
        mem := { s.mem with tids := s.mem.tids.set tid .free } })
  ∧ (∀ (s : State) (tid : MemTid) (beats : Vector MemBeat 8) (q : MemRequest) (e : PwqEntry) (rest : List PwqEntry),
      s.powered = true → s.memTid tid = .outstanding q → q.consumer = .drain e.id ∨ q.consumer = .rmwRead e.id →
      s.pwq = e :: rest → rest.head?.all (fun h => !h.allClear) = true →
      let dropped (flag : PathFlag) (after : TidState) : State :=
        { (s.driving []).erred
            ⟨flag, some .write, some e.source.code, e.jobTag, some e.tid, some e.sysAddr, e.window, true⟩ with
          pwq := rest
          flushes := s.flushes.map (fun fl =>
            if e.marks.contains fl.id then { fl with count := fl.count - 1, lost := true } else fl)
          tracker := s.tracker.map (fun x => match x.state with
            | .held ws => { x with state := .held (ws.filter (· != e.id)) }
            | _ => x)
          mem := { s.mem with tids := s.mem.tids.set tid after } }
      exec (.memoryResponse tid true beats) s = .next (dropped .memError .free)
      ∧ (q.op = .read → (∃ b ∈ beats.toList.take q.length, dataParityOf b.data ≠ b.parity) →
        exec (.memoryResponse tid false beats) s = .next (dropped .rdataParity .free))
      ∧ exec (.memoryTimeout tid) s = .next (dropped .memTimeout (.quarantined (4 * s.settings.memTimeout))))

/-- R58: a held read whose wait set is empty is issued toward memory, with its age kept. R67, R94: a beat of a read
without a page and plane reference is delivered and counted nowhere. The last beat frees the entry and, unless a
reset has freed it already (log 28), the tid. R72: the same of a beat of a hit; with its last beat the line counts one
delivery less, and a line marked for discard becomes FREE with its last delivery. R70: the last beat of a read of a
page in PRINTING that does not complete starts the prefetch of the chunks that follow, as many as the read-ahead:
stated of the first of them, which takes the lowest FREE line, or else the VALID line with no delivery that was
filled first. R73, R74: at the discard timer's expiry a VALID line becomes FREE, or, with a delivery in progress, is
marked for discard. -/
def Obligations.ReadsGoOn : Prop :=
  (∀ (s : State) (age : Nat) (e : TrackerEntry), s.powered = true →
      s.tracker.find? (fun x => x.age == age) = some e → e.state = .held [] →
        exec (.heldReadRelease age) s = .next { s.driving [] with
          tracker := s.tracker.map (fun x => if x.age == age then { e with state := .issued none } else x) })
  ∧ (∀ (s : State) (age : Nat) (e : TrackerEntry) (beats : List Beat), s.powered = true →
      s.tracker.find? (fun x => x.age == age) = some e → e.state = .delivering beats → e.ref = none →
      let last := decide (beats.length ≤ e.sent + 1)
      exec (.beatDelivery age) s = .next
        { s.driving [.beat e.source e.tid e.sent (beats.getD e.sent 0) last] with
          tracker := if last then s.tracker.filter (fun x => x.age != age)
            else s.tracker.map (fun x => if x.age == age then { e with sent := e.sent + 1 } else x)
          tids := if last && e.ownsTid then s.tids.filter (· != (e.source, e.tid)) else s.tids })
  ∧ (∀ (s : State) (age : Nat) (h : Hit), s.powered = true → s.tracker.find? (fun x => x.age == age) = none →
      s.hits.find? (fun x => x.age == age) = some h → h.ref = none →
      let sent (last : Bool) : State := s.driving [.beat h.source h.tid h.sent (h.beats.getD h.sent 0) last]
      (h.sent + 1 < h.beats.length → exec (.beatDelivery age) s = .next { sent false with
        hits := s.hits.map (fun x => if x.age == age then { h with sent := h.sent + 1 } else x) })
      ∧ (h.beats.length ≤ h.sent + 1 → ∀ (l : Line) (filled us n : Nat) (d : Bool) (data : List Beat),
        s.line h.line = some l → l.state = .valid filled us n d data →
          exec (.beatDelivery age) s = .next { sent true with
            hits := s.hits.filter (fun x => x.age != age)
            lines := s.lines.set h.line
              (if d = true ∧ n ≤ 1 then none else some { l with state := .valid filled us (n - 1) d data })
            tids := if h.ownsTid then s.tids.filter (· != (h.source, h.tid)) else s.tids }))
  ∧ (∀ (s : State) (age : Nat) (e : TrackerEntry) (beats : List Beat) (ref : PlaneRef) (w : WindowRef) (i : Fin 16)
      (p : Page) (pl : Plane), s.powered = true → s.tracker.find? (fun x => x.age == age) = some e →
      e.state = .delivering beats → e.ref = some ref → e.window = some w → beats.length ≤ e.sent + 1 →
      s.findPage ref.page = some i → s.page i = some p →
      p.state = .printing ∨ (e.sent = 0 ∧ s.power ≠ .entering) → p.planes.find? (fun x => x.colour == ref.plane) = some pl →
      let b := beats.getD e.sent 0
      let counted := p.printedBeat ref.plane (e.offset + 32 * e.sent) b
      (∃ x ∈ counted.planes, x.mark ≠ p.planeSize) →
      let chunk := e.offset / 256 * 256 + 256
      let fill : Line :=
        { window := w, page := ref.page, plane := ref.plane, chunk := chunk
          beats := min 8 ((pl.offset + p.planeSize - chunk) / 32), order := s.seq, jobTag := e.jobTag, state := .filling none }
      let a := ((s.window w.index).memAt chunk).toNat
      let may : Prop := 0 < s.settings.readAhead ∧ chunk < pl.offset + p.planeSize
        ∧ (∀ k l, s.line k = some l → l.window = w → l.chunk = chunk → l.discarding = true)
        ∧ s.chunkLocked a 256 = false ∧ s.overlapping a 256 = []
      ∃ t, exec (.beatDelivery age) s = .next t ∧ t.emitted = [.beat e.source e.tid e.sent b true]
        ∧ t.pages = s.pages.set i (some counted) ∧ t.tracker = s.tracker.filter (fun x => x.age != age)
        ∧ t.tids = (if e.ownsTid then s.tids.filter (· != (e.source, e.tid)) else s.tids)
        ∧ (s.settings.readAhead = 0 → t.lines = s.lines)
        ∧ (may → ∀ k, s.line k = none → (∀ j < k, s.line j ≠ none) → t.line k = some fill)
        ∧ (may → (∀ j, s.line j ≠ none) → ∀ k lk filled us d data, s.line k = some lk → lk.state = .valid filled us 0 d data →
          (∀ j lj filled' us' d' data', j ≠ k → s.line j = some lj → lj.state = .valid filled' us' 0 d' data' → filled < filled') →
            t.line k = some fill))
  ∧ (∀ (s : State) (i : Fin 8) (l : Line) (filled us n : Nat) (d : Bool) (data : List Beat), s.powered = true →
      s.line i = some l → l.state = .valid filled us n d data →
        exec (.discardTimerExpiry i) s = .next { s.driving [] with
          lines := s.lines.set i (if n = 0 then none else some { l with state := .valid filled us n true data }) })

/-- R84, R92, R93: a beat of a read that names a live page is delivered and counted on its plane: at or above the mark
its level sum is added and the mark moves past it, below the mark nothing is counted. The first beat of a read moves a
page in ADMITTED or WAITING to PRINTING. R72: a beat of a hit is delivered and counted in the same way. Stated for a
beat that is not the read's last and does not complete its page; SleepAndWake says what the move to PRINTING adds in a
sleep entry. -/
def Obligations.PrintedBeatIsCounted : Prop :=
  (∀ (s : State) (age : Nat) (e : TrackerEntry) (beats : List Beat) (ref : PlaneRef) (i : Fin 16) (p : Page),
    s.powered = true → s.tracker.find? (fun x => x.age == age) = some e → e.state = .delivering beats → e.ref = some ref →
    e.sent + 1 < beats.length → s.findPage ref.page = some i → s.page i = some p →
    p.state = .printing ∨ (e.sent = 0 ∧ s.power ≠ .entering) →
    let b := beats.getD e.sent 0
    let counted := p.printedBeat ref.plane (e.offset + 32 * e.sent) b
    (∃ pl ∈ counted.planes, pl.mark ≠ p.planeSize) →
      exec (.beatDelivery age) s = .next
        { s.driving [.beat e.source e.tid e.sent b false] with
          pages := s.pages.set i (some counted)
          tracker := s.tracker.map (fun x => if x.age == age then { e with sent := e.sent + 1 } else x) })
  ∧ (∀ (s : State) (age : Nat) (h : Hit) (ref : PlaneRef) (i : Fin 16) (p : Page),
    s.powered = true → s.tracker.find? (fun x => x.age == age) = none → s.hits.find? (fun x => x.age == age) = some h →
    h.ref = some ref → h.sent + 1 < h.beats.length → s.findPage ref.page = some i → s.page i = some p →
    p.state = .printing ∨ (h.sent = 0 ∧ s.power ≠ .entering) →
    let b := h.beats.getD h.sent 0
    let counted := p.printedBeat ref.plane (h.offset + 32 * h.sent) b
    (∃ pl ∈ counted.planes, pl.mark ≠ p.planeSize) →
      exec (.beatDelivery age) s = .next
        { s.driving [.beat h.source h.tid h.sent b false] with
          pages := s.pages.set i (some counted)
          hits := s.hits.map (fun x => if x.age == age then { h with sent := h.sent + 1 } else x) })

/-! ## Windows and keys -/

/-- R19, R26, R27, R36, R207: a WINDOW_OPEN whose arguments pass takes the lowest FREE index: the entry is set from the
arguments, its generation rises by 1, a fresh key is drawn into its key slot, and the answer gives index and
generation. The number of a draw stands for the key's value, which is free (log 8). R21, R26, R27: the refusals of
WINDOW_OPEN. A kind, size code, address or mode code out of its range, a base not aligned to the size, a stride
where the kind takes none, and one of a SCAN window that is 0, no multiple of 4096 or above its size, are
BAD_ARGUMENT; with arguments that pass, no FREE index is NO_ROOM, and a range that shares a byte with that of a window
not FREE is OVERLAP. Nothing else changes. -/
def Obligations.WindowsOpen : Prop :=
  (∀ (s : State) (f : Frame) (a : WindowOpenArgs) (kind : WindowKind) (code : Fin 20) (sys mem : Addr) (modes : Modes)
      (account : Fin 128) (i : WindowIdx), s.ready → wholeFrame f 24 →
      kindOf a.kind = some kind → a.sizeCode.toNat = code.val → a.sysBase.toNat = sys.toNat → a.memBase.toNat = mem.toNat →
      modesOf a.modes = some modes → sys.toNat % sizeOfCode code = 0 → mem.toNat % sizeOfCode code = 0 →
      (if kind = .scan then a.stride.toNat ≠ 0 ∧ a.stride.toNat % 4096 = 0 ∧ a.stride.toNat ≤ sizeOfCode code
          ∧ a.scanAccount.toNat = account.val ∧ (s.account account).state ≠ .unused
        else a.stride = 0 ∧ account = 0) →
      (s.window i).state = .free → (∀ j < i, (s.window j).state ≠ .free) →
      (∀ j, (s.window j).state ≠ .free →
        overlaps sys.toNat (sizeOfCode code) (s.window j).sysBase.toNat (s.window j).size = false
          ∧ overlaps mem.toNat (sizeOfCode code) (s.window j).memBase.toNat (s.window j).size = false) →
      let generation := (s.window i).generation + 1
      exec (.windowOpen f a) s = .next { s.answered f 0x10 .ok (.windowOpened i generation) with
        windows := s.windows.set i
          { state := .opened, kind := kind, sysBase := sys, memBase := mem, sizeCode := code, owner := a.owner, modes := modes
            stride := a.stride.toNat, slotCount := if kind = .scan then min 64 (sizeOfCode code / a.stride.toNat) else 0
            scanAccount := account, counted := 0, livePages := 0, generation := generation, passes := [], cursor := 0 }
        keys := { s.keys with slots := s.keys.slots.set i (some s.draws) }
        draws := s.draws + 1 })
  ∧ (∀ (s : State) (f : Frame) (a : WindowOpenArgs), s.ready → wholeFrame f 24 →
      (3 ≤ a.kind.toNat ∨ 20 ≤ a.sizeCode.toNat ∨ 2 ^ 36 ≤ a.sysBase.toNat ∨ 2 ^ 36 ≤ a.memBase.toNat
          ∨ modesOf a.modes = none ∨ a.sysBase.toNat % (4096 * 2 ^ a.sizeCode.toNat) ≠ 0
          ∨ a.memBase.toNat % (4096 * 2 ^ a.sizeCode.toNat) ≠ 0 ∨ (a.kind ≠ 0 ∧ a.stride ≠ 0)
          ∨ (a.kind = 0 ∧ (a.stride = 0 ∨ a.stride.toNat % 4096 ≠ 0 ∨ 4096 * 2 ^ a.sizeCode.toNat < a.stride.toNat
            ∨ 128 ≤ a.scanAccount.toNat
            ∨ ∃ account : Fin 128, a.scanAccount.toNat = account.val ∧ (s.account account).state = .unused)) →
        exec (.windowOpen f a) s = .next (s.answered f 0x10 .badArgument .empty))
      ∧ ∀ o, s.checkWindow a = some o →
        ((∀ j, (s.window j).state ≠ .free) → exec (.windowOpen f a) s = .next (s.answered f 0x10 .noRoom .empty))
        ∧ ((∃ j, (s.window j).state = .free) → (∃ j, (s.window j).state ≠ .free ∧
            (overlaps o.sysBase.toNat (sizeOfCode o.sizeCode) (s.window j).sysBase.toNat (s.window j).size = true
              ∨ overlaps o.memBase.toNat (sizeOfCode o.sizeCode) (s.window j).memBase.toNat (s.window j).size = true)) →
          exec (.windowOpen f a) s = .next (s.answered f 0x10 .overlap .empty)))

/-- R28, R29: WINDOW_POLICY and WINDOW_SEAL on a window in OPEN or SEALED; on a FREE index they answer NOT_FOUND and on
a RETIRING window STATE, and change nothing. R208: modes that the six bytes do not spell are BAD_ARGUMENT; that they are
so on a FREE or RETIRING index too is the model's choice (log 44). R36, R37, R182: an accepted WINDOW_REKEY queues a job; it reserves the
lowest FREE spare slot, unless the window holds one already in the two-key state. A window with a job, and one that
needs a slot when none is FREE, is answered BUSY. -/
def Obligations.WindowsChange : Prop :=
  (∀ (s : State) (f : Frame) (index : Byte) (i : WindowIdx) (owner : JobTag) (m : ModeBytes) (modes : Modes),
      s.ready → index.toNat = i.val →
      let w := s.window i
      let live := w.state = .opened ∨ w.state = .sealed
      (wholeFrame f 8 → modesOf m = some modes →
        (live → exec (.windowPolicy f index owner m) s = .next { s.answered f 0x11 .ok .empty with
          windows := s.windows.set i { w with owner := owner, modes := modes } })
        ∧ (w.state = .free → exec (.windowPolicy f index owner m) s = .next (s.answered f 0x11 .notFound .empty))
        ∧ (w.retiring = true → exec (.windowPolicy f index owner m) s = .next (s.answered f 0x11 .state .empty)))
      ∧ (wholeFrame f 8 → modesOf m = none →
        exec (.windowPolicy f index owner m) s = .next (s.answered f 0x11 .badArgument .empty))
      ∧ (wholeFrame f 1 →
        (live → exec (.windowSeal f index) s = .next { s.answered f 0x12 .ok .empty with
          windows := s.windows.set i { w with state := .sealed } })
        ∧ (w.state = .free → exec (.windowSeal f index) s = .next (s.answered f 0x12 .notFound .empty))
        ∧ (w.retiring = true → exec (.windowSeal f index) s = .next (s.answered f 0x12 .state .empty))))
  ∧ (∀ (s : State) (f : Frame) (index : Byte) (i : WindowIdx) (k : Fin 2), s.ready → wholeFrame f 1 → index.toNat = i.val →
      let w := s.window i
      w.state = .opened ∨ w.state = .sealed →
      let scrub : ScrubEngine := { s.scrub with queue := s.scrub.queue ++ [⟨.rekey, ⟨i, w.generation⟩⟩] }
      (s.hasRekey i = false → s.spareKey i = none → s.keys.spares[k] = .free → (∀ j < k, s.keys.spares[j] ≠ .free) →
        exec (.windowRekey f index) s = .next { s.answered f 0x14 .ok .empty with
          scrub := scrub
          keys := { s.keys with spares := s.keys.spares.set k (.reserved i) } })
      ∧ (s.hasRekey i = false → s.spareKey i ≠ none →
        exec (.windowRekey f index) s = .next { s.answered f 0x14 .ok .empty with scrub := scrub })
      ∧ (s.hasRekey i = true ∨ (s.spareKey i = none ∧ ∀ j : Fin 2, s.keys.spares[j] ≠ .free) →
        exec (.windowRekey f index) s = .next (s.answered f 0x14 .busy .empty)))

/-- R30 to R34, R36, R177: an accepted WINDOW_RETIRE of a window with no read held, no prefetch line and no re-key job.
With posted writes or reads of it left the window drains, with its pass list on record. With none left the drain
ends in the same event: the keys are destroyed, and the window becomes FREE with its notice, or, with passes to run,
waits in the scrub queue for its erase. R32: the work of an accepted WINDOW_RETIRE on any window. Every held read of it
is answered DENIED and leaves the tracker with its tid free; the capture, if empty, takes the oldest of them, which is
the model's choice (log 20). Its prefetch lines become FREE or are marked for discard, its REKEY job leaves the queue
or its channel, and a spare slot reserved for it is free. R30: a WINDOW_RETIRE that is refused changes nothing:
NOT_FOUND on a FREE index, STATE on a RETIRING window, BUSY on a PRINT window with live pages and on a window whose
re-key job runs. R33, R34: the drain of a RETIRING window ends where no posted write and no tracked read of it is left.
In a reset the keys go and the window stays RETIRING; that its phase stays DRAINING is the model's reading (log 38). -/
def Obligations.WindowsRetire : Prop :=
  (∀ (s : State) (f : Frame) (index count p q r : Byte) (i : WindowIdx) (passes : List Pattern),
      s.ready → wholeFrame f 5 → index.toNat = i.val → passesOf count p q r = some passes →
      let w := s.window i
      let ref : WindowRef := ⟨i, w.generation⟩
      w.state = .opened ∨ w.state = .sealed → ¬ (w.kind = .print ∧ 0 < w.livePages) → s.hasRekey i = false →
      s.tracker.all (fun e => !e.heldFor ref) = true → (∀ k, (s.line k).all (fun l => l.window != ref) = true) →
      let answered := s.answered f 0x13 .ok .empty
      (s.drained ref = false → exec (.windowRetire f index count p q r) s = .next { answered with
        windows := s.windows.set i { w with state := .retiring .draining, passes := passes }
        keys := { s.keys with spares := freeReserved i s.keys.spares } })
      ∧ (s.drained ref = true → passes = [] → exec (.windowRetire f index count p q r) s = .next { answered with
        windows := s.windows.set i { generation := w.generation }
        keys := { slots := s.keys.slots.set i none, spares := freeSpares i s.keys.spares }
        notices := pushNotice s.notices (.windowFree ref false) })
      ∧ (s.drained ref = true → passes ≠ [] → exec (.windowRetire f index count p q r) s = .next { answered with
        windows := s.windows.set i { w with state := .retiring .erasing, passes := passes }
        keys := { slots := s.keys.slots.set i none, spares := freeSpares i s.keys.spares }
        scrub := { s.scrub with queue := s.scrub.queue ++ [⟨.erase passes, ref⟩] } }))
  ∧ (∀ (s : State) (f : Frame) (index count p q r : Byte) (i : WindowIdx) (passes : List Pattern),
      s.ready → wholeFrame f 5 → index.toNat = i.val → passesOf count p q r = some passes →
      let w := s.window i
      let ref : WindowRef := ⟨i, w.generation⟩
      let left : Prop := (∃ e ∈ s.pwq, e.window = some ref) ∨ ∃ e ∈ s.tracker, e.window = some ref ∧ e.heldFor ref = false
      w.state = .opened ∨ w.state = .sealed → ¬ (w.kind = .print ∧ 0 < w.livePages) → s.rekeyRunning i = false →
      ∃ t, exec (.windowRetire f index count p q r) s = .next t ∧ t.held = some ⟨0x13, .ok, .empty⟩
        ∧ (∀ e ∈ s.tracker, e.heldFor ref = true → .response e.source.code e.tid .denied ∈ t.emitted)
        ∧ t.tracker = s.tracker.filter (fun e => !e.heldFor ref)
        ∧ (∀ x, x ∈ t.tids ↔ x ∈ s.tids ∧ ∀ e ∈ s.tracker, e.heldFor ref = true → x ≠ (e.source, e.tid))
        ∧ (match (s.tracker.filter (fun e => e.heldFor ref)).head? with
          | some e => t.path = { flags := withFlag s.path.flags .denied, capture := some (s.path.capture.getD
              ⟨.denied, some .read, some e.source.code, e.jobTag, some e.tid, some e.sysAddr, e.window, false⟩) }
          | none => t.path = s.path)
        ∧ (∀ k l, s.line k = some l → l.window ≠ ref → t.line k = some l)
        ∧ (∀ k l, t.line k = some l → l.window = ref → ∃ filled us n data, l.state = .valid filled us (n + 1) true data)
        ∧ (∀ j ∈ t.scrub.queue, ¬ (j.kind = .rekey ∧ j.window.index = i))
        ∧ (∀ c job, (s.chan c).job = some job → job.kind = .rekey → job.window.index = i →
          (∀ d, d ≠ c → (s.chan d).job.all (fun x => !x.isRekeyOf i) = true) → t.chan c = {})
        ∧ (∀ k : Fin 2, s.keys.spares[k] = .reserved i → t.keys.spares[k] = .free)
        ∧ (left → t.windows = s.windows.set i { w with state := .retiring .draining, passes := passes })
        ∧ (¬ left → t.keys.slots[i] = none ∧ t.window i =
          if passes = [] then { generation := w.generation } else { w with state := .retiring .erasing, passes := passes }))
  ∧ (∀ (s : State) (f : Frame) (index count p q r : Byte) (i : WindowIdx), s.ready → wholeFrame f 5 → index.toNat = i.val →
      (passesOf count p q r).isSome = true →
      let w := s.window i
      (w.state = .free → exec (.windowRetire f index count p q r) s = .next (s.answered f 0x13 .notFound .empty))
      ∧ (w.retiring = true → exec (.windowRetire f index count p q r) s = .next (s.answered f 0x13 .state .empty))
      ∧ (w.state = .opened ∨ w.state = .sealed → (w.kind = .print ∧ 0 < w.livePages) ∨ s.rekeyRunning i = true →
        exec (.windowRetire f index count p q r) s = .next (s.answered f 0x13 .busy .empty)))
  ∧ (∀ (s : State) (i : WindowIdx), s.powered = true →
      let w := s.window i
      let ref : WindowRef := ⟨i, w.generation⟩
      let keys : KeyStore := { slots := s.keys.slots.set i none, spares := freeSpares i s.keys.spares }
      w.state = .retiring .draining → s.drained ref = true →
      (s.resetRec.progress ≠ none → exec (.windowDrainEnd i) s = .next { s.driving [] with keys := keys })
      ∧ (s.resetRec.progress = none → w.passes = [] → exec (.windowDrainEnd i) s = .next { s.driving [] with
        keys := keys
        windows := s.windows.set i { generation := w.generation }
        notices := pushNotice s.notices (.windowFree ref false) })
      ∧ (s.resetRec.progress = none → w.passes ≠ [] → exec (.windowDrainEnd i) s = .next { s.driving [] with
        keys := keys
        windows := s.windows.set i { w with state := .retiring .erasing }
        scrub := { s.scrub with queue := s.scrub.queue ++ [⟨.erase w.passes, ref⟩] } }))

/-! ## Print pages -/

/-- R82, R83, R85 to R88, R108, R109, R126: a PAGE_OPEN that passes every check takes the lowest free entry and the next
page number, with the account, window, planes and geometry its arguments name. Its size class and base units come from
the settings in force, its reservation is 4 times the larger base it may end in, and it starts ADMITTED, with its draw
basis, where every slot it uses is admitting and the part is not in ENTERING, and WAITING otherwise. R85, R86, R126: the
refusals of PAGE_OPEN, in their order: BAD_ARGUMENT, for every argument that R85 shuts out, NO_ROOM, OVERLAP, STATE
under PFAIL or for an account that is not ACTIVE, and QUOTA. Nothing else changes. -/
def Obligations.PagesOpen : Prop :=
  (∀ (s : State) (f : Frame) (a : PageOpenArgs) (o : OpenPage) (i : Fin 16), s.ready → wholeFrame f 23 →
      s.opens a o → s.page i = none → (∀ j < i, s.page j ≠ none) →
      (∀ j p pl x, s.page j = some p → p.window.index = o.window → pl ∈ p.planes → x ∈ o.planes →
        overlaps x.2 (o.lines * o.bytesPerLine) pl.offset p.planeSize = false) → s.pins.pfail = false →
      (s.account o.account).state = .active →
      let size := if s.settings.aLarge < o.lines * o.bytesPerLine * 4 then SizeClass.large else .small
      let mono := s.settings.baseMono size
      let color := s.settings.baseColor size
      let reservation := 4 * (if o.planes.length = 4 then max mono color else mono)
      let admitted := o.planes.all (fun x => s.slotAdmitting x.1) && s.power != .entering
      let acc := s.account o.account
      let w := s.window o.window
      (∀ l, acc.limit = some l → reservation = 0 ∨ acc.used + acc.reserved + reservation ≤ l) →
      exec (.pageOpen f a) s = .next
        { s.answered f 0x20 .ok (.pageOpened s.nextPage size reservation (if admitted then .admitted else .waiting)) with
          pages := s.pages.set i (some
            { number := s.nextPage, account := o.account, window := ⟨o.window, w.generation⟩
              planes := o.planes.map (fun x => ⟨x.1, x.2, if admitted then s.basisOf x.1 else none, 0, 0⟩)
              bytesPerLine := o.bytesPerLine, lines := o.lines, size := size, baseMono := mono
              baseColor := if o.planes.length = 4 then some color else none
              reservation := reservation, state := if admitted then .admitted else .waiting })
          accounts := s.accounts.set o.account { acc with reserved := acc.reserved + reservation }
          windows := s.windows.set o.window { w with livePages := w.livePages + 1 }
          nextPage := if s.nextPage = 4294967295#32 then 1 else s.nextPage + 1 })
  ∧ (∀ (s : State) (f : Frame) (a : PageOpenArgs), s.ready → wholeFrame f 23 →
      let refused (st : Status) : Prop := exec (.pageOpen f a) s = .next (s.answered f 0x20 st .empty)
      let size := a.lines.toNat * a.bytesPerLine.toNat
      let offsets := if a.planeCount = 1 then [a.offsetK] else [a.offsetC, a.offsetM, a.offsetY, a.offsetK]
      (128 ≤ a.account.toNat ∨ 16 ≤ a.window.toNat ∨ (a.planeCount ≠ 1 ∧ a.planeCount ≠ 4) ∨ a.bytesPerLine.toNat < 32
        ∨ 4096 < a.bytesPerLine.toNat ∨ a.bytesPerLine.toNat % 32 ≠ 0 ∨ a.lines = 0 ∨ 16384 < a.lines.toNat
        ∨ (∃ i : WindowIdx, a.window.toNat = i.val ∧ ((s.window i).kind ≠ .print
            ∨ ((s.window i).state ≠ .opened ∧ (s.window i).state ≠ .sealed)
            ∨ ∃ x ∈ offsets, (s.window i).size < x.toNat + size))
        ∨ (∃ x ∈ offsets, x.toNat % 256 ≠ 0)
        ∨ ¬ offsets.Pairwise (fun x y => overlaps x.toNat size y.toNat size = false) → refused .badArgument)
      ∧ ∀ o, s.opens a o →
        let clash : Prop := ∃ j p, s.page j = some p ∧ p.window.index = o.window ∧ ∃ pl ∈ p.planes, ∃ x ∈ o.planes,
          overlaps x.2 size pl.offset p.planeSize = true
        let acc := s.account o.account
        let cls := if s.settings.aLarge < size * 4 then SizeClass.large else .small
        let mono := s.settings.baseMono cls
        let reservation := 4 * (if o.planes.length = 4 then max mono (s.settings.baseColor cls) else mono)
        ((∀ j, s.page j ≠ none) → refused .noRoom)
        ∧ ((∃ j, s.page j = none) →
          (clash → refused .overlap)
          ∧ (¬ clash → s.pins.pfail = true ∨ acc.state ≠ .active → refused .state)
          ∧ (¬ clash → s.pins.pfail = false → acc.state = .active →
            ∀ l, acc.limit = some l → 0 < reservation → l < acc.used + acc.reserved + reservation → refused .quota)))

/-- R98: PAGE_CANCEL of a page in WAITING or ADMITTED releases its reservation and charges nothing; the notice gives its
size class as MONO with no coverage. Of a number that no live page has, 0 among them, it answers NOT_FOUND. R96,
R99, R127 to R129: PAGE_CANCEL of a page in PRINTING charges it on what it has delivered: account, meter, window and
page table settle as at completion, and the cancelled counters rise too. R132, R164, R172, R173: its toner draws reach
the gauges and the carry list, PAGE_CANCELLED follows their notices, and the pages-since-commit count rises. The order
of the planes' draws is the model's choice (log 29), and so is the setting that gives a FOREIGN slot's low mark
(log 46). -/
def Obligations.PagesAreCancelled : Prop :=
  (∀ (s : State) (f : Frame) (n : BitVec 32), s.ready → wholeFrame f 4 →
      (n = 0 ∨ (∀ i, (s.page i).all (fun p => p.number != n) = true) →
        exec (.pageCancel f n) s = .next (s.answered f 0x21 .notFound .empty))
      ∧ ∀ (i : Fin 16) (p : Page), s.findPage n = some i → s.page i = some p → p.state ≠ .printing →
        let acc := s.account p.account
        let w := s.window p.window.index
        exec (.pageCancel f n) s = .next { s.answered f 0x21 .ok .empty with
          pages := s.pages.set i none
          accounts := s.accounts.set p.account { acc with reserved := acc.reserved - p.reservation }
          windows := s.windows.set p.window.index { w with livePages := w.livePages - 1 }
          notices := pushNotice s.notices (.pageCancelled
            { number := p.number, account := p.account, window := p.window
              cls := if p.size = .small then .monoSmall else .monoLarge
              coverage := p.planes.map (fun pl => (pl.colour, 0)), charge := 0, foreign := false } p.state .command) })
  ∧ (∀ (s : State) (f : Frame) (n : BitVec 32) (i : Fin 16) (p : Page), s.ready → wholeFrame f 4 →
      s.findPage n = some i → s.page i = some p → p.state = .printing →
        ∃ t, exec (.pageCancel f n) s = .next t ∧ t.held = some ⟨0x21, .ok, .empty⟩ ∧ t.chargedFrom s i p (some .command) s.notices)

/-- R92, R95, R96, R127 to R129: the beat that makes the last plane of its page complete is delivered like any other, and
the page ends in the same event: it is charged on its dot totals and settled, PAGE_DONE follows the notices of its
toner draws, and the pages-since-commit count rises (R132, R164, R172, R173). The order of the planes' draws is the
model's choice (log 29), and so is the setting that gives a FOREIGN slot's low mark (log 46). It may be the beat of a
tracked read or of a hit (R72), and the page's first, which moves it to PRINTING. Stated where no other live page has its number, as R83 has it, and, for a first beat, outside a sleep
entry. -/
def Obligations.LastBeatCompletesPage : Prop :=
  (∀ (s : State) (age : Nat) (e : TrackerEntry) (beats : List Beat) (ref : PlaneRef) (i : Fin 16) (p : Page),
    s.powered = true → s.tracker.find? (fun x => x.age == age) = some e → e.state = .delivering beats → e.ref = some ref →
    s.findPage ref.page = some i → s.page i = some p → p.state = .printing ∨ (e.sent = 0 ∧ s.power ≠ .entering) →
    (∀ j, j ≠ i → (s.page j).all (fun q => q.number != p.number) = true) →
    let b := beats.getD e.sent 0
    let counted := p.printedBeat ref.plane (e.offset + 32 * e.sent) b
    (∀ pl ∈ counted.planes, pl.mark = p.planeSize) →
      ∃ t, exec (.beatDelivery age) s = .next t
        ∧ t.emitted = [.beat e.source e.tid e.sent b (decide (beats.length ≤ e.sent + 1))]
        ∧ t.chargedFrom s i counted none s.notices)
  ∧ (∀ (s : State) (age : Nat) (h : Hit) (ref : PlaneRef) (i : Fin 16) (p : Page),
    s.powered = true → s.tracker.find? (fun x => x.age == age) = none → s.hits.find? (fun x => x.age == age) = some h →
    h.ref = some ref → s.findPage ref.page = some i → s.page i = some p →
    p.state = .printing ∨ (h.sent = 0 ∧ s.power ≠ .entering) →
    (∀ j, j ≠ i → (s.page j).all (fun q => q.number != p.number) = true) →
    let b := h.beats.getD h.sent 0
    let counted := p.printedBeat ref.plane (h.offset + 32 * h.sent) b
    (∀ pl ∈ counted.planes, pl.mark = p.planeSize) →
      ∃ t, exec (.beatDelivery age) s = .next t
        ∧ t.emitted = [.beat h.source h.tid h.sent b (decide (h.beats.length ≤ h.sent + 1))]
        ∧ t.chargedFrom s i counted none s.notices)

/-- R89: after a change of the remaining toner of a GENUINE slot, of its state, or of the policy, every live page that
is not PRINTING is ADMITTED exactly where each slot it uses is admitting, while the part is in RUN. Stated of the
re-judgement that each of those events makes. -/
def Obligations.RejudgementAdmitsByToner : Prop :=
  ∀ (s : State) (i : Fin 16) (p : Page), s.page i = some p → p.state ≠ .printing → s.power = .run →
    ∃ q, s.rejudge.page i = some q ∧ (q.state = .admitted ↔ ∀ pl ∈ p.planes, s.slotAdmitting pl.colour = true)
      ∧ (q.state = .waiting ∨ q.state = .admitted)
      ∧ (p.state = .waiting → q.state = .admitted → ∀ pl ∈ q.planes, pl.basis = s.basisOf pl.colour)

/-! ## Coverage and charge -/

/-- R112: the coverage sum, and the excess over the free coverage, clamped at 30000. -/
def Obligations.ExcessIsClamped : Prop :=
  ∀ (p : Page) (cFree : Nat), (∀ x ∈ p.coverages, x.2 ≤ 10000) →
    p.coverageSum = ((p.planes.map (fun pl => coverageOf p.area pl.dots)).foldr (· + ·) 0)
    ∧ p.coverageSum ≤ 10000 * p.planes.length
    ∧ excessOf p.coverageSum cFree =
      (if cFree < p.coverageSum then (if 30000 < p.coverageSum - cFree then 30000 else p.coverageSum - cFree) else 0)
    ∧ (cFree = 0 → p.coverageSum ≤ 30000 → excessOf p.coverageSum cFree = p.coverageSum)
    ∧ (p.planes.length ≤ 4 → 40000 ≤ cFree → excessOf p.coverageSum cFree = 0)
    ∧ (p.planes.length = 1 → excessOf p.coverageSum cFree ≤ 10000
      ∧ (cFree = 0 → p.coverageSum = 10000 → excessOf p.coverageSum cFree = 10000))

/-- R109, R113: the charge of a page lies between its class's base units and 4 times them, is 0 with base units of 0,
and is at most the reservation made from the same base units. R111: a page is COLOR where it has 4 planes and the
coverage of C, M or Y reaches the threshold, and MONO otherwise; its size class is the one on record. R110: while
the counts of a live page obey the coverage law of R93, the coverage of each plane is at most 10000 basis points.
R114: the toner draw is the dot total times the draw factor over 65536, rounded up: the least number of toner units
that covers it, and 0 for no dots. -/
def Obligations.ChargeArithmetic : Prop :=
  (∀ (p : Page) (c : Settings),
      let base := if p.isColor c.tColor then p.baseColor.getD 0 else p.baseMono
      let charge := (p.charge c).charge
      charge = base + base * excessOf p.coverageSum c.cFree / 10000
      ∧ base ≤ charge ∧ charge ≤ 4 * base ∧ (base ≤ 255 → charge ≤ 1020)
      ∧ (p.reservation = reservationOf p.baseMono p.baseColor → charge ≤ p.reservation))
  ∧ (∀ (p : Page) (c : Settings),
      let color : Prop := p.planes.length = 4 ∧ ∃ pl ∈ p.planes, pl.colour ≠ 3 ∧ c.tColor ≤ coverageOf p.area pl.dots
      ((p.charge c).cls = .monoSmall ↔ p.size = .small ∧ ¬ color) ∧ ((p.charge c).cls = .monoLarge ↔ p.size = .large ∧ ¬ color)
      ∧ ((p.charge c).cls = .colorSmall ↔ p.size = .small ∧ color) ∧ ((p.charge c).cls = .colorLarge ↔ p.size = .large ∧ color))
  ∧ (∀ (s : State) (i : Fin 16) (p : Page), s.coverageLaw → s.page i = some p → ∀ x ∈ p.coverages, x.2 ≤ 10000)
  ∧ (∀ dots factor : Nat, dots * factor ≤ 65536 * drawOf dots factor ∧ 65536 * drawOf dots factor < dots * factor + 65536
      ∧ (drawOf dots factor = 0 ↔ dots = 0 ∨ factor = 0))

/-! ## Accounts, meter and commit -/

/-- R117 to R119: ACCOUNT_CREATE takes the lowest UNUSED slot, with its used and reserved units and its counters 0. With
none UNUSED it answers NO_ROOM, and with a limit outside its range BAD_ARGUMENT. R120 to R122: ACCOUNT_SET_LIMIT,
ACCOUNT_RESET_USAGE and ACCOUNT_CLEAR_COUNTERS each change their one field of an ACTIVE or SUSPENDED slot; a numeric
limit below used plus reserved is BELOW_USED; an UNUSED slot is NOT_FOUND. R123, R124: ACCOUNT_SUSPEND,
ACCOUNT_RESUME and ACCOUNT_DELETE. Slot 0 cannot be suspended or deleted; an account with a live page, or that is a
window's scan account, is not deleted; a deleted slot has every field cleared. -/
def Obligations.AccountCommandsSetSlots : Prop :=
  (∀ (s : State) (f : Frame) (id limit : BitVec 32), s.ready → wholeFrame f 8 →
      (2147483648 ≤ limit.toNat → limit.toNat ≠ 4294967295 →
        exec (.accountCreate f id limit) s = .next (s.answered f 0x30 .badArgument .empty))
      ∧ (limit.toNat ≤ 2147483647 ∨ limit.toNat = 4294967295 →
        ((∀ a, (s.account a).state ≠ .unused) → exec (.accountCreate f id limit) s = .next (s.answered f 0x30 .noRoom .empty))
        ∧ ∀ a : Fin 128, (s.account a).state = .unused → (∀ x < a, (s.account x).state ≠ .unused) →
          exec (.accountCreate f id limit) s = .next { s.answered f 0x30 .ok (.accountCreated a) with
            accounts := s.accounts.set a
              { state := .active, id := id, limit := if limit.toNat = 4294967295 then none else some limit.toNat
                used := 0, reserved := 0, counters := {} } }))
  ∧ (∀ (s : State) (f : Frame) (slot : Byte) (limit : BitVec 32) (l : Option Nat) (a : Fin 128), s.ready → slot.toNat = a.val →
      let x := s.account a
      (wholeFrame f 5 → limitOf limit = some l →
        (x.state = .unused → exec (.accountSetLimit f slot limit) s = .next (s.answered f 0x31 .notFound .empty))
        ∧ (x.state ≠ .unused → (∀ n, l = some n → x.used + x.reserved ≤ n) →
          exec (.accountSetLimit f slot limit) s = .next { s.answered f 0x31 .ok .empty with
            accounts := s.accounts.set a { x with limit := l } })
        ∧ (x.state ≠ .unused → (∃ n, l = some n ∧ n < x.used + x.reserved) →
          exec (.accountSetLimit f slot limit) s = .next (s.answered f 0x31 .belowUsed .empty)))
      ∧ (wholeFrame f 1 →
        (x.state ≠ .unused →
          exec (.accountResetUsage f slot) s = .next { s.answered f 0x32 .ok .empty with
            accounts := s.accounts.set a { x with used := 0 } }
          ∧ exec (.accountClearCounters f slot) s = .next { s.answered f 0x33 .ok .empty with
            accounts := s.accounts.set a { x with counters := {} } })
        ∧ (x.state = .unused →
          exec (.accountResetUsage f slot) s = .next (s.answered f 0x32 .notFound .empty)
          ∧ exec (.accountClearCounters f slot) s = .next (s.answered f 0x33 .notFound .empty))))
  ∧ (∀ (s : State) (f : Frame) (slot : Byte) (a : Fin 128), s.ready → wholeFrame f 1 → slot.toNat = a.val →
      let x := s.account a
      let scanned : Prop := ∃ i, (s.window i).state ≠ .free ∧ (s.window i).kind = .scan ∧ (s.window i).scanAccount = a
      let billed : Prop := ∃ i p, s.page i = some p ∧ p.account = a
      (a = 0 → exec (.accountSuspend f slot) s = .next (s.answered f 0x34 .state .empty)
        ∧ exec (.accountDelete f slot) s = .next (s.answered f 0x36 .state .empty))
      ∧ (x.state = .unused → exec (.accountResume f slot) s = .next (s.answered f 0x35 .notFound .empty)
        ∧ (a ≠ 0 → exec (.accountSuspend f slot) s = .next (s.answered f 0x34 .notFound .empty)
          ∧ exec (.accountDelete f slot) s = .next (s.answered f 0x36 .notFound .empty)))
      ∧ (x.state ≠ .unused →
        exec (.accountResume f slot) s = .next { s.answered f 0x35 .ok .empty with
          accounts := s.accounts.set a { x with state := .active } }
        ∧ (a ≠ 0 → exec (.accountSuspend f slot) s = .next { s.answered f 0x34 .ok .empty with
          accounts := s.accounts.set a { x with state := .suspended } })
        ∧ (a ≠ 0 → scanned ∨ billed → exec (.accountDelete f slot) s = .next (s.answered f 0x36 .busy .empty))
        ∧ (a ≠ 0 → ¬ scanned → ¬ billed → exec (.accountDelete f slot) s = .next { s.answered f 0x36 .ok .empty with
          accounts := s.accounts.set a
            { state := .unused, id := 0, limit := some 0, used := 0, reserved := 0, counters := {} } })))

/-- R131 to R134: COMMIT copies meter, accounts, debits and carry list at its start, with the number after the newest
valid snapshot's, takes the pages-since-commit count to 0, and its bank, which is not the newest snapshot's, holds
no correct check until it is verified. In flight, a further COMMIT is BUSY. The end makes the copy the newest
snapshot, or, by write error or at 8 ms, marks the bank blank and gives the count back; either is reported. Stated
with no commit remembered. On a store with no valid snapshot the bank is A and the number 0, which is the model's
choice (log 18). R133: while a commit is in flight, each further cause is remembered, and the remembered
causes start one commit as the first ends. Stated of PFAIL, and of the copy that then starts. R132, R135: PFAIL
rising triggers a commit, which starts at once where none is in flight; PFAIL falling changes its level and nothing
else. -/
def Obligations.CommitsCopyAndEnd : Prop :=
  (∀ (s : State) (f : Frame) (j : CommitJob),
      (s.ready → wholeFrame f 0 → s.commit.inFlight = none →
        exec (.commit f) s = .next { s.answered f 0x39 .ok .empty with
          commit := { s.commit with
            inFlight := some
              { snapshot :=
                  { number := s.nv.nextNumber
                    meter := s.meter
                    accounts := Vector.ofFn (fun a : Fin 128 =>
                      ⟨(s.account a).state, (s.account a).id, (s.account a).limit, (s.account a).used, (s.account a).counters⟩)
                    debits := Vector.ofFn (fun k : Fin 4 => debtOf (s.slot k) (s.gauge k))
                    carry := s.carry }
                causes := 1, foundSince := s.commit.since, bank := s.nv.target }
            since := 0 }
          nv := s.nv.setBank s.nv.target .badCheck })
      ∧ (s.ready → wholeFrame f 0 → s.commit.inFlight = some j →
        exec (.commit f) s = .next (s.answered f 0x39 .busy .empty))
      ∧ (s.powered = true → s.commit.inFlight = some j → s.commit.remembered = none →
        exec (.commitEnd true) s = .next { s.driving [] with
          nv := s.nv.setBank j.bank (.holds j.snapshot)
          commit := { s.commit with inFlight := none, last := some .done }
          notices := pushNotice s.notices (.commitDone j.snapshot.number j.causes) }
        ∧ (let failed : State := { s.driving [] with
            nv := s.nv.setBank j.bank .blank
            commit := { s.commit with
              inFlight := none, last := some .failed, since := min 1024 (s.commit.since + j.foundSince) }
            notices := pushNotice s.notices (.commitFailed j.snapshot.number j.causes) }
          exec (.commitEnd false) s = .next failed ∧ exec .commitTimeout s = .next failed)))
  ∧ (∀ (s : State) (j : CommitJob) (causes : BitVec 5), s.powered = true → s.commit.inFlight = some j →
      (s.pins.pfail = false →
        exec .pfailAssert s = .next { s.driving [] with
          pins := { s.pins with pfail := true }
          commit := { s.commit with remembered := some (s.commit.remembered.getD 0 ||| 4) } })
      ∧ (s.commit.remembered = some causes →
        ∃ t job, exec (.commitEnd true) s = .next t ∧ t.commit.inFlight = some job ∧ job.causes = causes
          ∧ t.commit.remembered = none ∧ job.snapshot.meter = s.meter ∧ t.commit.since = 0))
  ∧ (∀ s : State, s.powered = true →
      (s.pins.pfail = false → s.commit.inFlight = none →
        ∃ t job, exec .pfailAssert s = .next t ∧ t.pins = { s.pins with pfail := true } ∧ t.commit.inFlight = some job
          ∧ job.causes = 4 ∧ job.snapshot.meter = s.meter ∧ t.commit.since = 0 ∧ t.pages = s.pages)
      ∧ (s.pins.pfail = true → exec .pfailAssert s = .next (s.driving []))
      ∧ exec .pfailDeassert s = .next { s.driving [] with pins := { s.pins with pfail := false } })

/-- R129: no command but POWER_ON and POWER_LOSS lowers any counter of the machine meter, and none takes one past the
value at which it saturates. -/
def Obligations.MeterNeverFalls : Prop :=
  ∀ (c : Instr) (s t : State), c ≠ .powerOn → c ≠ .powerLoss → s.meter.bounded → exec c s = .next t →
    s.meter.le t.meter ∧ t.meter.bounded

/-- R35, R101, R125, R130, R156, R191, R201, R203: the queries give what stands at their judgement and change nothing.
They are judged in a reset too (R195). The low mark that CART_QUERY gives for a slot neither GENUINE nor FOREIGN is 0,
and that of a FOREIGN slot follows the setting now in force, which are the model's choices (log 36, log 46). So is the
answer that WINDOW_QUERY gives of an erase whose job a reset has discarded (log 45). -/
def Obligations.QueriesChangeNothing : Prop :=
  ∀ (s : State) (f : Frame) (b : Byte) (n : BitVec 32) (i : WindowIdx) (a : Fin 128) (k : Colour) (j : Fin 16) (p : Page),
    s.judges →
    (wholeFrame f 1 → b.toNat = i.val → exec (.windowQuery f b) s = .next (s.answered f 0x15 .ok
      (if (s.window i).state = .free then .window { generation := (s.window i).generation } .none none none
        else .window (s.window i) (s.rekeyStatus i) (if (s.spareKey i).isSome then some (s.window i).cursor else none)
          (s.erasePlace i))))
    ∧ (wholeFrame f 4 → n ≠ 0 → s.findPage n = some j → s.page j = some p →
      exec (.pageQuery f n) s = .next (s.answered f 0x22 .ok (.page p (s.notAdmitting p))))
    ∧ (wholeFrame f 4 → exec (.pageQuery f 0) s = .next (s.answered f 0x22 .ok
      (.pageList (s.livePages.map (fun p => (p.number, p.account, p.window.index, p.state))))))
    ∧ (wholeFrame f 1 → b.toNat = a.val → exec (.accountRead f b) s = .next (s.answered f 0x37 .ok
      (.account (s.account a) (s.livePagesOf a) (s.isScanAccount a))))
    ∧ (wholeFrame f 1 → exec (.meterRead f 0) s = .next (s.answered f 0x38 .ok (.meter (s.meterView s.meter)))
      ∧ exec (.meterRead f 1) s = .next (s.answered f 0x38 .ok (.meter (s.meterView (match s.nv.newest with
        | some (_, x) => x.meter
        | none => {})))))
    ∧ (wholeFrame f 1 → b.toNat = k.val → exec (.cartQuery f b) s = .next (s.answered f 0x40 .ok (.cart (s.cartView k))))
    ∧ (wholeFrame f 0 → exec (.scrubQuery f) s = .next (s.answered f 0x50 .ok
      (.scrub ⟨[s.channelView 0, s.channelView 1], s.scrub.queue, s.keys.spares.toList.map Spare.view, s.twoKeyWindows⟩)))
    ∧ (wholeFrame f 1 → exec (.configRead f 0) s = .next (s.answered f 0x60 .ok (.workingSettings s.settings s.loadResult))
      ∧ exec (.configRead f 1) s = .next (s.answered f 0x60 .ok (.storedSettings s.nv.stored)))
    ∧ (wholeFrame f 0 → exec (.ident f) s = .next (s.answered f 0x7A .ok
      (.ident (if s.nv.root.provisioned then some s.nv.root.serial else none) s.nv.root.provisioned s.nv.root.locked
        s.resetRec.cause s.resetRec.progress.isSome s.power)))

/-! ## Cartridges and the toner gauge -/

/-- R141: a presence line that rises starts the settling of a slot that was NOT_PRESENT; one that drops while settling
ends it; and its level is kept in every case. In a part without power only the level changes (log 5). R141, R146,
R157: 100 ms after its line rose a slot is PRESENT; if ABSENT, and the part is not in SLEEP, it enters PROBING with
a HELLO at attempt 1 and reason INSERTED. The pages are re-judged (R89), which no ABSENT or PROBING slot alters
where each page is in the state its slots call for. R153, R163, R170: a cartridge removed takes its slot to ABSENT
with reason REMOVED. A slot that leaves GENUINE gives its pending debit to the carry list under its serial, and its
gauge keeps nothing but the low-mark serial. Stated where the carry list has room or an entry for the serial, or
nothing is owed. -/
def Obligations.PresenceMovesSlots : Prop :=
  (∀ (s : State) (k : Colour),
      let x := s.slot k
      let line (level : Bool) : State := { s.driving [] with pins := { s.pins with lines := s.pins.lines.set k level } }
      (s.powered = true → x.presence = .notPresent → exec (.presenceAssert k) s = .next { line true with
        slots := s.slots.set k { x with presence := .settling } })
      ∧ (s.powered = false ∨ x.presence ≠ .notPresent →
        exec (.presenceAssert k) s = .next (line true))
      ∧ (s.powered = true → x.presence = .settling → exec (.presenceDeassert k) s = .next { line false with
        slots := s.slots.set k { x with presence := .notPresent } })
      ∧ (s.powered = true → x.presence = .notPresent → exec (.presenceDeassert k) s = .next (line false)))
  ∧ (∀ (s : State) (k : Colour), s.powered = true → (s.slot k).presence = .settling → s.pins.lines[k] = true →
      let x := s.slot k
      let settled : State := { s.driving [] with slots := s.slots.set k { x with presence := .present } }
      (x.state ≠ .absent ∨ s.power = .sleep → exec (.settlingExpiry k) s = .next settled)
      ∧ (x.state = .absent → s.power ≠ .sleep →
        let probing : State := { s.driving [] with
          slots := s.slots.set k
            { state := .probing, presence := .present, message := some ⟨.hello false, 1, .sending⟩, lastReason := some .inserted }
          notices := pushNotice s.notices (.cartState k .absent .probing .inserted none false) }
        exec (.settlingExpiry k) s = .next { probing with pages := probing.rejudge.pages }))
  ∧ (∀ (s : State) (k : Colour) (r : Record), s.powered = true → (s.slot k).presence = .present → (s.slot k).state = .genuine r →
      let p := (s.gauge k).pending
      let known := s.carry.any (fun e => e.serial == r.serial)
      p = 0 ∨ known = true ∨ s.carry.length < 8 →
        ∃ t, exec (.presenceDeassert k) s = .next t
          ∧ t.slot k = { state := .absent, presence := .notPresent, message := none, lastReason := some .removed }
          ∧ t.gauge k = { lowSerial := (s.gauge k).lowSerial }
          ∧ t.carry = (if p = 0 then s.carry
            else if known then addToEntry r.serial p s.carry else s.carry ++ [⟨r.serial, p⟩])
          ∧ t.notices = pushNotice s.notices (.cartState k .genuine .absent .removed none false)
          ∧ ∀ j, j ≠ k → t.slot j = s.slot j ∧ t.gauge j = s.gauge j)

/-- R170: what an addition leaves of the carry list. The amount joins the serial's entry, saturating, or makes a new
entry at the newest end, for which a full list drops its oldest; no two entries come to have the same serial, and
none to have an amount outside 1 to 4294967295. -/
def Obligations.CarryListKeepsItsLaw : Prop :=
  ∀ (s : State) (serial : Serial) (amount : Nat), amount ≤ 4294967295 →
    (s.carry.map (·.serial)).Nodup → s.carry.length ≤ 8 → (∀ e ∈ s.carry, 1 ≤ e.amount ∧ e.amount ≤ 4294967295) →
    let t := s.carryAdd serial amount
    (t.carry.map (·.serial)).Nodup ∧ t.carry.length ≤ 8 ∧ (∀ e ∈ t.carry, 1 ≤ e.amount ∧ e.amount ≤ 4294967295)
    ∧ (s.carry.length < 8 ∨ amount = 0 ∨ s.carry.any (fun e => e.serial == serial) = true →
      carryAmount t.carry serial = min 4294967295 (carryAmount s.carry serial + amount)
      ∧ ∀ x, x ≠ serial → carryAmount t.carry x = carryAmount s.carry x)

/-- R142, R143: the request frame goes out whole and its reply window starts. R143, R144, R148, R152: attempts 1 and 2
that fail, by a refused request or an expired reply window, are followed by a gap of 5 ms and the next attempt of
the same message, a PROVE with a fresh nonce. A failed attempt 3 of identification takes the slot from PROBING, or from
PROVING with its record kept, to MUTE with reason NO_REPLY. R169: a failed attempt 3 of a DEBIT, or of the HELLO that
resynchronises, takes its GENUINE slot to MUTE with reason DEBIT_NO_REPLY, its gauge is cleared but for the low-mark
serial, and its pending debit joins the carry list. R142, R143: a frame in the reply window that is bad fails the attempt
at once, as the window's end would; while fewer bytes have come than the frame's length byte announces, nothing
happens. -/
def Obligations.AttemptsGoOn : Prop :=
  (∀ (s : State) (k : Colour) (kind : MessageKind) (n : Nat), s.powered = true →
      (s.slot k).message = some ⟨kind, n, .sending⟩ →
        exec (.cartRequestSent k) s = .next { s.driving [.cartFrame k (requestFrame kind)] with
          slots := s.slots.set k { s.slot k with message := some ⟨kind, n, .awaiting⟩ } })
  ∧ (∀ (s : State) (k : Colour) (kind : MessageKind) (n : Nat), s.powered = true →
      let x := s.slot k
      let gap : State := { s.driving [] with slots := s.slots.set k { x with message := some ⟨kind.dropNonce, n, .gap⟩ } }
      let mute : State := { s.driving [] with
        slots := s.slots.set k { x with state := .mute none, message := none, lastReason := some .noReply }
        notices := pushNotice s.notices (.cartState k .probing .mute .noReply none false) }
      (x.message = some ⟨kind, n, .sending⟩ → n < 3 → exec (.cartRequestRefused k) s = .next gap)
      ∧ (x.message = some ⟨kind, n, .awaiting⟩ → n < 3 → exec (.replyWindowExpiry k) s = .next gap)
      ∧ (x.state = .probing → x.message = some ⟨.hello false, 3, .sending⟩ →
        exec (.cartRequestRefused k) s = .next { mute with pages := mute.rejudge.pages })
      ∧ (x.state = .probing → x.message = some ⟨.hello false, 3, .awaiting⟩ →
        exec (.replyWindowExpiry k) s = .next { mute with pages := mute.rejudge.pages })
      ∧ (∀ (r : Record) (nonce : Option (BitVec 128)) (phase : AttemptPhase), x.state = .proving r →
        x.message = some ⟨.prove nonce, 3, phase⟩ →
        let kept : State := { s.driving [] with
          slots := s.slots.set k { x with state := .mute (some r), message := none, lastReason := some .noReply }
          notices := pushNotice s.notices (.cartState k .proving .mute .noReply (some r.serial) false) }
        (phase = .sending → exec (.cartRequestRefused k) s = .next { kept with pages := kept.rejudge.pages })
        ∧ (phase = .awaiting → exec (.replyWindowExpiry k) s = .next { kept with pages := kept.rejudge.pages }))
      ∧ (∀ (r : Record) (phase : AttemptPhase), x.state = .genuine r → x.message = some ⟨kind, 3, phase⟩ →
        kind = .hello true ∨ (∃ amount seq tag, kind = .debit amount seq tag) →
        let exhausted (t : State) : Prop :=
          t.slot k = { x with state := .mute (some r), message := none, lastReason := some .debitNoReply }
          ∧ t.gauge k = { lowSerial := (s.gauge k).lowSerial } ∧ t.departedFrom s k r
          ∧ (s.carry.length < 8 →
            t.notices = pushNotice s.notices (.cartState k .genuine .mute .debitNoReply (some r.serial) false))
          ∧ ∀ j, j ≠ k → t.slot j = s.slot j ∧ t.gauge j = s.gauge j
        (phase = .sending → ∃ t, exec (.cartRequestRefused k) s = .next t ∧ exhausted t)
        ∧ (phase = .awaiting → ∃ t, exec (.replyWindowExpiry k) s = .next t ∧ exhausted t))
      ∧ (x.message = some ⟨kind, n, .gap⟩ → (∀ nonce, kind ≠ .prove nonce) →
        exec (.attemptGapExpiry k) s = .next { s.driving [] with
          slots := s.slots.set k { x with message := some ⟨kind, n + 1, .sending⟩ } })
      ∧ (x.message = some ⟨.prove none, n, .gap⟩ →
        exec (.attemptGapExpiry k) s = .next { s.driving [] with
          slots := s.slots.set k { x with message := some ⟨.prove (some (Config.randomNonce s.draws)), n + 1, .sending⟩ }
          draws := s.draws + 1 }))
  ∧ (∀ (s : State) (k : Colour) (kind : MessageKind) (n : Nat) (bytes frame : List Byte), s.powered = true →
      (s.slot k).message = some ⟨kind, n, .awaiting⟩ → s.awaits k kind → delimitFrame bytes = some frame →
      let bad : Prop := goodPayload kind.replyForm.1 kind.replyForm.2 frame = none
        ∨ ((∃ amount seq tag, kind = .debit amount seq tag)
          ∧ ∃ ps, goodPayload 0x83 17 frame = some ps ∧ 2 ≤ (debitReplyOf ps).status.toNat)
      bad → exec (.helloReply k bytes) s = exec (.replyWindowExpiry k) s
        ∧ exec (.proveReply k bytes) s = exec (.replyWindowExpiry k) s
        ∧ exec (.debitReply k bytes) s = exec (.replyWindowExpiry k) s)
  ∧ (∀ (s : State) (k : Colour) (bytes : List Byte), s.powered = true →
      bytes = [] ∨ (∃ (length : Byte) (rest : List Byte), bytes = length :: rest ∧ rest.length ≤ length.toNat) →
        exec (.helloReply k bytes) s = .next (s.driving []) ∧ exec (.proveReply k bytes) s = .next (s.driving [])
        ∧ exec (.debitReply k bytes) s = .next (s.driving []))

/-- R142, R143: a good frame ends where its length byte says, whatever bytes follow. R146 to R148: a good HELLO reply
whose record fits its slot takes a provisioned part's slot to PROVING, with a PROVE that carries a fresh nonce. A record
of another colour is REJECTED with COLOUR_MISMATCH and kept; one with rated capacity or draw factor 0, or with more
remaining than rated, is REJECTED with BAD_RECORD; on an unprovisioned part the slot becomes FOREIGN or REJECTED by the
policy. R149, R162, R163, R171: a PROVE reply with the expected tag makes its slot GENUINE: L is the record's remaining,
P is what the carry list owes the cartridge, which leaves the list, and remaining is L less P. Any other tag makes it
REJECTED or FOREIGN by the policy, with reason PROOF_FAILED. R166: a DEBIT reply with status OK, the sequence sent and
the expected tag acknowledges the posting: L is the reply's figure, P falls by the amount posted, the sequence moves on,
and remaining is L less P. With nothing left to post the link is free. R172, R173: the depletion and low-mark notices of
that change of remaining are queued. R165, R168: a DEBIT reply with another tag makes the slot REJECTED or FOREIGN by
the policy, with reason DEBIT_TAG, and its pending debit joins the carry list. R167: one with status SEQ_ERROR, or with
another sequence, is followed by a resynchronising HELLO, and the third for a posting by MUTE with reason
DEBIT_SEQUENCE. R167, R168: that HELLO's record, where serial, model, colour, rated capacity and draw factor agree and
remaining is at most rated, gives L and the sequence anew: a sequence equal to the posting's acknowledges it, and any
other sends the debit again as a fresh message. A record that disagrees is judged as a DEBIT reply with another tag.
R151, R157: the serial in CART_STATE is that of the record the new state keeps, which is the model's reading (log 39);
the expected tag of a DEBIT reply is taken under the master key held at the judgement (log 15). -/
def Obligations.RepliesAreJudged : Prop :=
  (∀ (s : State) (k : Colour) (frame tail ps : List Byte) (n : Nat), s.powered = true → (s.slot k).state = .probing →
      (s.slot k).message = some ⟨.hello false, n, .awaiting⟩ → goodPayload 0x81 25 frame = some ps →
      let r := recordOf ps
      let became (x : SlotState) (reason : Reason) (m : Option Message) : State := { s.driving [] with
        slots := s.slots.set k { s.slot k with state := x, message := m, lastReason := some reason } }
      let noted (x : SlotState) (reason : Reason) (m : Option Message) : State := { became x reason m with
        pages := (became x reason m).rejudge.pages
        notices := pushNotice s.notices (.cartState k .probing x.code reason (x.record.map (·.serial)) false) }
      let fits := r.rated ≠ 0 ∧ r.factor ≠ 0 ∧ r.remaining.toNat ≤ r.rated.toNat
      let received := exec (.helloReply k (frame ++ tail)) s
      (r.colour.toNat ≠ k.val → received = .next (noted (.rejected (some r)) .colourMismatch none))
      ∧ (r.colour.toNat = k.val → ¬ fits → received = .next (noted (.rejected none) .badRecord none))
      ∧ (r.colour.toNat = k.val → fits → s.nv.root.provisioned = false → s.settings.policy = .strict →
        received = .next (noted (.rejected (some r)) .notProvisioned none))
      ∧ (r.colour.toNat = k.val → fits → s.nv.root.provisioned = false → s.settings.policy = .permissive →
        ∃ t, received = .next t ∧ (t.slot k).state = .foreign r
          ∧ (t.gauge k).remaining = s.settings.foreignCapacity)
      ∧ (r.colour.toNat = k.val → fits → s.nv.root.provisioned = true →
        received = .next { noted (.proving r) .identified
            (some ⟨.prove (some (Config.randomNonce s.draws)), 1, .sending⟩) with draws := s.draws + 1 }))
  ∧ (∀ (s : State) (k : Colour) (frame tail ps : List Byte) (r : Record) (nonce : BitVec 128) (n : Nat), s.powered = true →
      (s.slot k).state = .proving r → (s.slot k).message = some ⟨.prove (some nonce), n, .awaiting⟩ →
      goodPayload 0x82 8 frame = some ps →
      let tag := BitVec.ofNat 64 (fieldAt ps 0 8)
      let expected := Config.proofTag (Config.deriveKey s.nv.root.masterKey r.serial)
        (.prove nonce r.serial r.remaining r.sequence)
      let owed := carryAmount s.carry r.serial
      let received := exec (.proveReply k (frame ++ tail)) s
      (tag = expected → ∃ t, received = .next t ∧ (t.slot k).state = .genuine r
        ∧ (t.gauge k).acked = r.remaining.toNat ∧ (t.gauge k).pending = owed
        ∧ (t.gauge k).remaining = r.remaining.toNat - owed ∧ (t.gauge k).sequence = r.sequence
        ∧ t.carry = s.carry.filter (fun e => e.serial != r.serial)
        ∧ (owed = 0 → (t.slot k).message = none)
        ∧ (0 < owed → s.power ≠ .sleep → ∃ tag', (t.slot k).message = some ⟨.debit owed (r.sequence + 1) tag', 1, .sending⟩))
      ∧ (tag ≠ expected → s.settings.policy = .strict →
        ∃ t, received = .next t ∧ (t.slot k).state = .rejected (some r) ∧ (t.slot k).message = none
          ∧ (t.slot k).lastReason = some .proofFailed ∧ t.carry = s.carry)
      ∧ (tag ≠ expected → s.settings.policy = .permissive →
        ∃ t, received = .next t ∧ (t.slot k).state = .foreign r
          ∧ (t.gauge k).remaining = s.settings.foreignCapacity ∧ (t.gauge k).pending = 0 ∧ t.carry = s.carry))
  ∧ (∀ (s : State) (k : Colour) (frame tail ps : List Byte) (r : Record) (p : Posting) (amount : Nat) (seq : BitVec 32)
      (tag : BitVec 64) (n : Nat), s.powered = true → (s.slot k).state = .genuine r →
      (s.slot k).message = some ⟨.debit amount seq tag, n, .awaiting⟩ → (s.gauge k).posting = some p →
      goodPayload 0x83 17 frame = some ps →
      let reply := debitReplyOf ps
      let expected := Config.proofTag (Config.deriveKey s.nv.root.masterKey r.serial)
        (.debitReply reply.status reply.remaining reply.sequence r.serial (BitVec.ofNat 32 p.amount))
      let received := exec (.debitReply k (frame ++ tail)) s
      let others (t : State) : Prop := ∀ j, j ≠ k → t.slot j = s.slot j ∧ t.gauge j = s.gauge j
      (reply.status = 0 → reply.sequence = p.sequence → reply.tag = expected →
        let left := reply.remaining.toNat - ((s.gauge k).pending - p.amount)
        ∃ t, received = .next t
          ∧ (t.slot k).state = .genuine r
          ∧ (t.gauge k).acked = reply.remaining.toNat ∧ (t.gauge k).sequence = p.sequence
          ∧ (t.gauge k).pending = (s.gauge k).pending - p.amount
          ∧ (t.gauge k).remaining = left
          ∧ ((s.gauge k).pending ≤ p.amount → (t.slot k).message = none ∧ (t.gauge k).posting = none)
          ∧ t.notices = (s.tonerNotices k r.rated.toNat r.serial left).foldl pushNotice s.notices
          ∧ t.carry = s.carry ∧ others t)
      ∧ (reply.status.toNat ≤ 1 → reply.tag ≠ expected → ∃ t, received = .next t
        ∧ (t.slot k).state = (if s.settings.policy = .strict then .rejected (some r) else .foreign r)
        ∧ (t.slot k).message = none ∧ (t.slot k).lastReason = some .debitTag
        ∧ (t.gauge k).pending = 0 ∧ (t.gauge k).posting = none
        ∧ (t.gauge k).remaining = (if s.settings.policy = .strict then 0 else s.settings.foreignCapacity)
        ∧ t.departedFrom s k r ∧ others t)
      ∧ (reply.status = 1 ∨ (reply.status = 0 ∧ reply.sequence ≠ p.sequence) → reply.tag = expected →
        (p.seqErrors < 2 → received = .next { s.driving [] with
          slots := s.slots.set k { s.slot k with message := some ⟨.hello true, 1, .sending⟩ }
          gauges := s.gauges.set k { s.gauge k with posting := some { p with seqErrors := p.seqErrors + 1 } } })
        ∧ (2 ≤ p.seqErrors → ∃ t, received = .next t
          ∧ t.slot k = { s.slot k with state := .mute (some r), message := none, lastReason := some .debitSequence }
          ∧ t.gauge k = { lowSerial := (s.gauge k).lowSerial } ∧ t.departedFrom s k r ∧ others t)))
  ∧ (∀ (s : State) (k : Colour) (frame tail ps : List Byte) (r : Record) (p : Posting) (n : Nat), s.powered = true →
      (s.slot k).state = .genuine r → (s.slot k).message = some ⟨.hello true, n, .awaiting⟩ → (s.gauge k).posting = some p →
      goodPayload 0x81 25 frame = some ps →
      let x := recordOf ps
      let g := s.gauge k
      let agrees : Prop := x.serial = r.serial ∧ x.model = r.model ∧ x.colour = r.colour ∧ x.rated = r.rated
        ∧ x.factor = r.factor ∧ x.remaining.toNat ≤ x.rated.toNat
      let received := exec (.helloReply k (frame ++ tail)) s
      let resumed (t : State) (owed : Nat) : Prop :=
        (t.slot k).state = .genuine { r with remaining := x.remaining, sequence := x.sequence }
        ∧ (t.gauge k).acked = x.remaining.toNat ∧ (t.gauge k).sequence = x.sequence ∧ (t.gauge k).pending = owed
        ∧ (t.gauge k).remaining = x.remaining.toNat - owed
        ∧ t.notices = (s.tonerNotices k r.rated.toNat r.serial (x.remaining.toNat - owed)).foldl pushNotice s.notices
        ∧ t.carry = s.carry ∧ ∀ j, j ≠ k → t.slot j = s.slot j ∧ t.gauge j = s.gauge j
      (agrees → x.sequence = p.sequence → ∃ t, received = .next t ∧ resumed t (g.pending - p.amount)
        ∧ (g.pending ≤ p.amount → (t.slot k).message = none ∧ (t.gauge k).posting = none))
      ∧ (agrees → x.sequence ≠ p.sequence → ∃ t tag, received = .next t ∧ resumed t g.pending
        ∧ (t.slot k).message = some ⟨.debit g.pending (x.sequence + 1) tag, 1, .sending⟩
        ∧ (t.gauge k).posting = some ⟨g.pending, x.sequence + 1, p.seqErrors⟩)
      ∧ (¬ agrees → ∃ t, received = .next t
        ∧ (t.slot k).state = (if s.settings.policy = .strict then .rejected (some r) else .foreign r)
        ∧ (t.slot k).message = none ∧ (t.slot k).lastReason = some .debitTag ∧ (t.gauge k).pending = 0
        ∧ t.departedFrom s k r))

/-- R154, R155: CART_REPROBE. A value that names no slot is BAD_ARGUMENT and a slot that is not PRESENT is STATE. A slot
already in PROBING starts its HELLO again without a change of state; a present slot in any other state enters
PROBING. -/
def Obligations.ReprobeRestartsIdentification : Prop :=
  ∀ (s : State) (f : Frame) (b : Byte) (k : Colour), s.ready → wholeFrame f 1 →
    (4 ≤ b.toNat → b ≠ 0xFF → exec (.cartReprobe f b) s = .next (s.answered f 0x41 .badArgument .empty))
    ∧ (b.toNat = k.val → (s.slot k).presence ≠ .present →
      exec (.cartReprobe f b) s = .next (s.answered f 0x41 .state .empty))
    ∧ (b.toNat = k.val → (s.slot k).presence = .present → (s.slot k).state = .probing →
      exec (.cartReprobe f b) s = .next { s.answered f 0x41 .ok .empty with
        slots := s.slots.set k { s.slot k with message := some ⟨.hello false, 1, .sending⟩, lastReason := some .reprobe } })
    ∧ (b.toNat = k.val → (s.slot k).presence = .present → (s.slot k).state ≠ .probing →
      ∃ t, exec (.cartReprobe f b) s = .next t ∧ t.held = some ⟨0x41, .ok, .empty⟩
        ∧ t.slot k = { state := .probing, presence := .present, message := some ⟨.hello false, 1, .sending⟩
                       lastReason := some .reprobe }
        ∧ (∀ r, (s.slot k).state = .genuine r ∨ (s.slot k).state = .foreign r →
          t.gauge k = { lowSerial := (s.gauge k).lowSerial }))
    ∧ ((∀ j, (s.slot j).presence ≠ .present) → exec (.cartReprobe f 0xFF) s = .next (s.answered f 0x41 .ok (.reprobed [])))

/-! ## The scrub engine -/

/-- R178, R180, R183: the oldest job goes to an IDLE channel. An erase starts at pass 1, offset 0, READY. A re-key fills
its window's reserved spare slot with a fresh key, sets the cursor to 0 and waits for the chunk there. With both
channels IDLE the channel is A, unless they became so together and two jobs or more wait: then the model's operand says
which, and the model's own mark says that they did (log 24).
R178, R192, R193: with no channel IDLE, no job waiting, a sleep entry or a sleep or a wake under way, or a reset in
progress, no job is assigned; that WAKING counts among these is the model's reading (log 23). R73, R184: a re-key
channel that waits locks the chunk at its window's cursor once no posted write and no held or issued read overlaps it,
and is READY; while one does it keeps waiting. The prefetch lines that hold the chunk become FREE or, with a delivery
in progress, are marked for discard; with none nothing else changes. -/
def Obligations.ScrubJobsStart : Prop :=
  (∀ (s : State) (first c : ChannelId) (j : Job) (rest : List Job), s.powered = true → s.power = .run →
      s.resetRec.progress = none → s.scrub.queue = j :: rest → s.assignee first = some c →
      let start (x : Channel) : Vector Channel 2 := s.scrub.chans.set c x
      (∀ passes, j.kind = .erase passes →
        exec (.scrubJobAssign first) s = .next { s.driving [] with
          scrub := ⟨start { state := .running, job := some j, pass := 1, offset := 0, step := .ready }, rest, .settled⟩ })
      ∧ (j.kind = .rekey → s.spareKey j.window.index = none →
        exec (.scrubJobAssign first) s = .next { s.driving [] with
          scrub := ⟨start { state := .running, job := some j, step := .waiting }, rest, .settled⟩
          mem := { s.mem with share := if anyAsks (start {}) then s.mem.share else 0 }
          windows := s.windows.set j.window.index { s.window j.window.index with cursor := 0 }
          keys := { s.keys with spares := fillSpare j.window.index s.draws s.keys.spares }
          draws := s.draws + 1 })
      ∧ ((s.chan 0).state = .idle → (s.chan 1).state = .idle →
        c = if s.scrub.idleMark = .together ∧ rest ≠ [] then first else 0))
  ∧ (∀ (s : State) (first : ChannelId), s.powered = true →
      s.power ≠ .run ∨ s.resetRec.progress ≠ none ∨ s.scrub.queue = [] ∨ (∀ c, (s.chan c).state ≠ .idle) →
        exec (.scrubJobAssign first) s = .next (s.driving []))
  ∧ (∀ (s : State) (c : ChannelId) (j : Job), s.powered = true → (s.chan c).state = .running → (s.chan c).step = .waiting →
      (s.chan c).job = some j → j.kind = .rekey →
      let offset := (s.window j.window.index).cursor
      let a := ((s.window j.window.index).memAt offset).toNat
      let locked : Vector Channel 2 := s.scrub.chans.set c { s.chan c with step := .ready, lock := some offset }
      (s.quiet a 256 = false → exec (.chunkLock c) s = .next (s.driving []))
      ∧ (s.quiet a 256 = true → (∀ k, (s.line k).all (fun l => !overlaps (s.lineAddr l) 256 a 256) = true) →
        exec (.chunkLock c) s = .next { s.driving [] with
          scrub := { s.scrub with chans := locked } })
      ∧ (s.quiet a 256 = true → ∃ t, exec (.chunkLock c) s = .next t ∧ t.scrub = { s.scrub with chans := locked }
        ∧ (∀ k l, s.line k = some l → overlaps (s.lineAddr l) 256 a 256 = false → t.line k = some l)
        ∧ ∀ k l, t.line k = some l → overlaps (s.lineAddr l) 256 a 256 = true →
          ∃ filled us n data, l.state = .valid filled us (n + 1) true data))

/-- R180, R181, R187: the write of an erase chunk is answered OKAY: the offset advances, or the next pass starts, and
after the last chunk of the last pass the window is FREE, with its notice, and the channel IDLE. With a suspend
requested the channel comes to rest in SUSPENDED instead of going on; that the last write ends the job even so is the
model's reading (log 31). R185: the read of a chunk to re-key returns, is decrypted under the current key and encrypted
under the new one, and the channel is READY to write it. R185, R186: the write of a re-keyed chunk is answered OKAY:
the cursor advances, the lock is released and the channel waits for the next chunk. Past the last chunk the window's
spare key becomes its key, the spare slot and the channel are free, the cursor is cleared and REKEY_DONE is queued.
R189: a channel whose request fails, by an ERROR response, by bad parity of the chunk read or at the memory timeout,
enters FAILED with its job and its progress, releases its lock, records operation and cause, and reports them; the
error record takes the flag and the chunk's system address. That PATH_ERROR comes before SCRUB_FAILED is the model's
reading (log 25), and the pass 0 that SCRUB_FAILED gives of a re-key its choice (log 43). -/
def Obligations.ScrubChannelsGoOn : Prop :=
  (∀ (s : State) (tid : MemTid) (beats : Vector MemBeat 8) (q : MemRequest) (c : ChannelId) (j : Job) (passes : List Pattern),
      s.powered = true → s.memTid tid = .outstanding q → q.op = .write → q.consumer = .scrub c →
      (s.chan c).state = .running → (s.chan c).step = .writing → (s.chan c).job = some j → j.kind = .erase passes →
      let x := s.chan c
      let w := s.window j.window.index
      let more := x.offset + 256 < w.size
      ∃ t, exec (.memoryResponse tid false beats) s = .next t ∧ t.memTid tid = .free
        ∧ (more ∨ x.pass < passes.length →
          t.windows = s.windows ∧ t.notices = s.notices ∧ (t.chan c).job = some j
          ∧ (t.chan c).offset = (if more then x.offset + 256 else 0) ∧ (t.chan c).pass = (if more then x.pass else x.pass + 1)
          ∧ (x.suspendReq = false → (t.chan c).state = .running ∧ (t.chan c).step = .ready)
          ∧ (x.suspendReq = true → (t.chan c).state = .suspended ∧ (t.chan c).suspendReq = false))
        ∧ (¬ more → passes.length ≤ x.pass →
          t.windows = s.windows.set j.window.index { generation := w.generation }
          ∧ t.notices = pushNotice s.notices (.windowFree ⟨j.window.index, w.generation⟩ false) ∧ t.chan c = {}))
  ∧ (∀ (s : State) (tid : MemTid) (beats : Vector MemBeat 8) (q : MemRequest) (c : ChannelId) (j : Job),
      s.powered = true → s.memTid tid = .outstanding q → q.op = .write → q.consumer = .scrub c →
      (s.chan c).state = .running → (s.chan c).step = .writing → (s.chan c).job = some j → j.kind = .rekey →
      let i := j.window.index
      let w := s.window i
      ∃ t, exec (.memoryResponse tid false beats) s = .next t ∧ t.memTid tid = .free
        ∧ (w.cursor + 256 < w.size →
          t.windows = s.windows.set i { w with cursor := w.cursor + 256 } ∧ t.keys = s.keys
          ∧ (t.chan c).lock = none ∧ (t.chan c).buffer = none ∧ (t.chan c).step = .waiting
          ∧ (t.chan c).state = (if (s.chan c).suspendReq then .suspended else .running))
        ∧ (w.size ≤ w.cursor + 256 →
          t.windows = s.windows.set i { w with cursor := 0 }
          ∧ t.keys = { slots := s.keys.slots.set i (s.spareKey i), spares := freeSpares i s.keys.spares }
          ∧ t.chan c = {} ∧ t.notices = pushNotice s.notices (.rekeyDone ⟨i, w.generation⟩)))
  ∧ (∀ (s : State) (tid : MemTid) (beats : Vector MemBeat 8) (q : MemRequest) (c : ChannelId) (j : Job),
      s.powered = true → s.memTid tid = .outstanding q → q.op = .read → q.consumer = .scrub c →
      (s.chan c).state = .running → (s.chan c).step = .reading → (s.chan c).job = some j → j.kind = .rekey →
      (∀ b ∈ beats.toList.take q.length, dataParityOf b.data = b.parity) →
      let i := j.window.index
      let data := (beats.toList.take q.length).map (·.data)
      let moved := mapUnits (fun off u => encryptUnit (s.spareKey i) off (decryptUnit s.keys.slots[i] off u))
        (s.window i).cursor data
      exec (.memoryResponse tid false beats) s = .next { s.driving [] with
        scrub := { s.scrub with chans := s.scrub.chans.set c { s.chan c with step := .ready, buffer := some moved } }
        mem := { s.mem with tids := s.mem.tids.set tid .free } })
  ∧ (∀ (s : State) (tid : MemTid) (beats : Vector MemBeat 8) (q : MemRequest) (c : ChannelId) (j : Job),
      s.powered = true → s.memTid tid = .outstanding q → q.consumer = .scrub c → (s.chan c).state = .running →
      (s.chan c).step = .reading ∨ (s.chan c).step = .writing → (s.chan c).job = some j →
      let x := s.chan c
      let offset := if j.kind = .rekey then (s.window j.window.index).cursor else x.offset
      let failed (cause : FailCause) (flag : PathFlag) (t : State) : Prop :=
        t.chan c = { x with state := .failed, step := .waiting, lock := none, suspendReq := false, buffer := none
                            failure := some (q.op, cause) }
        ∧ t.path = { flags := withFlag s.path.flags flag, capture := some (s.path.capture.getD
            ⟨flag, some (match q.op with | .read => .read | .write => .write), none, 0, none,
              some ((s.window j.window.index).sysBase + BitVec.ofNat 36 offset), some j.window, false⟩) }
        ∧ t.notices = pushNotice (if s.path.capture = none then pushNotice s.notices (.pathError flag) else s.notices)
            (.scrubFailed c j (if j.kind = .rekey then 0 else x.pass) offset q.op cause)
        ∧ t.windows = s.windows ∧ t.keys = s.keys
      (∃ t, exec (.memoryResponse tid true beats) s = .next t ∧ t.memTid tid = .free ∧ failed .memError .memError t)
      ∧ (q.op = .read → (∃ b ∈ beats.toList.take q.length, dataParityOf b.data ≠ b.parity) →
        ∃ t, exec (.memoryResponse tid false beats) s = .next t ∧ t.memTid tid = .free ∧ failed .rdataParity .rdataParity t)
      ∧ ∃ t, exec (.memoryTimeout tid) s = .next t ∧ t.memTid tid = .quarantined (4 * s.settings.memTimeout)
        ∧ failed .memTimeout .memTimeout t)

/-- R187, R188, R190: SCRUB_SUSPEND, SCRUB_RESUME and SCRUB_ABANDON by the channel's state. R178, R193: the model's own
mark after an abandon says that the channels became IDLE together only where the other one did so last with a job
waiting, none has been assigned since, two jobs or more wait and the part is not entering SLEEP (log 24). -/
def Obligations.ChannelCommands : Prop :=
  ∀ (s : State) (f : Frame) (b : Byte) (c : ChannelId), s.ready → wholeFrame f 1 → b.toNat = c.val →
    let x := s.chan c
    let put (code : Byte) (y : Channel) : State := { s.answered f code .ok .empty with
      scrub := { s.scrub with chans := s.scrub.chans.set c y }
      mem := { s.mem with share := if anyAsks (s.scrub.chans.set c y) then s.mem.share else 0 } }
    (x.state = .idle → exec (.scrubSuspend f b) s = .next (s.answered f 0x51 .state .empty)
      ∧ exec (.scrubAbandon f b) s = .next (s.answered f 0x53 .state .empty)
      ∧ (s.power = .run → exec (.scrubResume f b) s = .next (s.answered f 0x52 .state .empty)))
    ∧ (s.power = .entering → exec (.scrubResume f b) s = .next (s.answered f 0x52 .busy .empty))
    ∧ (x.state = .suspended → exec (.scrubSuspend f b) s = .next (s.answered f 0x51 .ok .empty))
    ∧ (x.state = .failed → exec (.scrubSuspend f b) s = .next (s.answered f 0x51 .state .empty))
    ∧ (x.state = .running → exec (.scrubAbandon f b) s = .next (s.answered f 0x53 .state .empty))
    ∧ ∀ j, x.job = some j →
      let rest : Prop := if j.kind = .rekey then x.step = .waiting else x.step = .ready
      let resumed : Channel := { x with failure := none, state := .running, step := if j.kind = .rekey then .waiting else .ready
                                        lock := if j.kind = .rekey then none else x.lock
                                        buffer := if j.kind = .rekey then none else x.buffer }
      (x.state = .running → ¬ rest → exec (.scrubSuspend f b) s = .next (put 0x51 { x with suspendReq := true }))
      ∧ (x.state = .running → rest → exec (.scrubSuspend f b) s = .next (put 0x51 { x with
          state := .suspended, step := .waiting, lock := none, suspendReq := false, buffer := none }))
      ∧ (s.power = .run → x.state = .running →
          exec (.scrubResume f b) s = .next (put 0x52 { x with suspendReq := false }))
      ∧ (s.power = .run → x.state = .suspended ∨ x.state = .failed → exec (.scrubResume f b) s = .next (put 0x52 resumed))
      ∧ (x.state = .suspended ∨ x.state = .failed → ∃ t, exec (.scrubAbandon f b) s = .next t ∧ t.chan c = {}
        ∧ t.held = some ⟨0x53, .ok, .empty⟩ ∧ t.keys = s.keys ∧ t.scrub.queue = s.scrub.queue
        ∧ t.scrub.idleMark = (if s.power ≠ .run ∨ s.scrub.queue = [] then .settled
          else if s.scrub.idleMark = .fresh (1 - c) ∧ 2 ≤ s.scrub.queue.length then .together else .fresh c)
        ∧ (j.kind = .rekey → t.windows = s.windows ∧ t.notices = s.notices)
        ∧ (∀ passes, j.kind = .erase passes →
          t.windows = s.windows.set j.window.index { generation := (s.window j.window.index).generation }
          ∧ t.notices = pushNotice s.notices
              (.windowFree ⟨j.window.index, (s.window j.window.index).generation⟩ true)))

/-! ## Settings, notices, errors and the root store -/

/-- R199, R200: CONFIG_WRITE of a setting that brings about nothing else writes the value, brought into the setting's
range, and says whether it was clamped. A number above 29 names no setting. R89, R132, R150, R200: a change of the
policy reprobes every present slot with reason POLICY; a change of the commit interval to at most the
pages-since-commit count triggers a commit with cause INTERVAL. -/
def Obligations.SettingsAreWritten : Prop :=
  (∀ (s : State) (f : Frame) (n : Byte) (v : BitVec 32), s.ready → wholeFrame f 5 →
      (30 ≤ n.toNat → exec (.configWrite f n v) s = .next (s.answered f 0x61 .badArgument .empty))
      ∧ ∀ name, settingOf n = some name → name ≠ .policy → name ≠ .commitInterval →
        let written := clampSetting name v.toNat
        ∃ c : Settings, exec (.configWrite f n v) s = .next { s.answered f 0x61 .ok (.settingWritten written (written != v.toNat))
            with settings := c }
          ∧ c.get name = written ∧ ∀ other, other ≠ name → c.get other = s.settings.get other)
  ∧ (∀ (s : State) (f : Frame) (v : BitVec 32), s.ready → wholeFrame f 5 →
      (s.settings.policy = .strict → v ≠ 0 →
        ∃ t, exec (.configWrite f 15 v) s = .next t ∧ t.settings = { s.settings with policy := .permissive }
          ∧ (∀ k, (s.slot k).presence = .present → (t.slot k).state = .probing ∧ (t.slot k).lastReason = some .policy
            ∧ (t.slot k).message = some ⟨.hello false, 1, .sending⟩)
          ∧ ∀ k, (s.slot k).presence ≠ .present → t.slot k = s.slot k)
      ∧ (1 ≤ v.toNat → v.toNat ≤ s.commit.since → v.toNat ≤ 1024 → v.toNat ≠ s.settings.commitInterval →
        s.commit.inFlight = none →
        ∃ t job, exec (.configWrite f 14 v) s = .next t ∧ t.settings = { s.settings with commitInterval := v.toNat }
          ∧ t.commit.inFlight = some job ∧ job.causes = 2 ∧ job.snapshot.meter = s.meter ∧ t.commit.since = 0))

/-- R39, R40, R201: CONFIG_STORE, PROVISION and LOCK write the nonvolatile store while PFAIL is deasserted, and answer
OK once the write is verified. Under PFAIL, and on a write that fails, they answer STATE and nothing changes. What
the store does with a write is an operand (log 27). -/
def Obligations.StoreIsWritten : Prop :=
  ∀ (s : State) (f : Frame) (key : BitVec 256) (serial : Serial) (o : StoreOutcome), s.ready →
    let root := s.nv.root
    (wholeFrame f 0 →
      (s.pins.pfail = true ∨ o ≠ .verified → exec (.configStore f o) s = .next (s.answered f 0x62 .state .empty))
      ∧ (s.pins.pfail = false → exec (.configStore f .verified) s =
        .next { s.answered f 0x62 .ok .empty with nv := { s.nv with stored := some s.settings } }))
    ∧ (wholeFrame f 40 →
      (root.locked = true → exec (.provision f key serial o) s = .next (s.answered f 0x7E .locked .empty))
      ∧ (root.locked = false → s.pins.pfail = true ∨ o ≠ .verified →
        exec (.provision f key serial o) s = .next (s.answered f 0x7E .state .empty))
      ∧ (root.locked = false → s.pins.pfail = false → exec (.provision f key serial .verified) s =
        .next { s.answered f 0x7E .ok .empty with
          nv := { s.nv with root := { masterKey := key, serial := serial, provisioned := true, locked := false } } }))
    ∧ (wholeFrame f 0 →
      (root.provisioned = false → exec (.lock f o) s = .next (s.answered f 0x7F .state .empty))
      ∧ (root.provisioned = true → root.locked = true → exec (.lock f o) s = .next (s.answered f 0x7F .locked .empty))
      ∧ (root.provisioned = true → root.locked = false → s.pins.pfail = true ∨ o ≠ .verified →
        exec (.lock f o) s = .next (s.answered f 0x7F .state .empty))
      ∧ (root.provisioned = true → root.locked = false → s.pins.pfail = false → exec (.lock f .verified) s =
        .next { s.answered f 0x7F .ok .empty with nv := { s.nv with root := { root with locked := true } } }))

/-- R40: LOCKED is permanent. No command changes the root store once it is locked, not even a loss of power. -/
def Obligations.LockIsPermanent : Prop :=
  ∀ (c : Instr) (s t : State), s.nv.root.locked = true → exec c s = .next t → t.nv.root = s.nv.root

/-- R197: NOTICE_READ removes the oldest notice and gives it with the number left, its OVERFLOW count with it; of an
empty queue it gives nothing. R78, R79: ERROR_READ gives the path error record as it stood and clears it. R194,
R195: a code that names no command is BAD_COMMAND, truncated or not and in a reset too. A frame of code 0, or of fewer
than 2 bytes, is empty (log 10): it sends the held response, is not judged, and leaves no response held, since each is
sent in one frame only; that a later frame then sends what a part sends that holds none is the model's reading
(log 19). A frame that begins while the previous command is judged is not taken, sends the ready mark clear and leaves
the held response. A truncated frame or a wrong parameter length is BAD_ARGUMENT, and in a reset every command but the
queries is BUSY; both are stated of COMMIT and SLEEP, and a truncated frame of ACCOUNT_READ. -/
def Obligations.ManagementAnswers : Prop :=
  (∀ (s : State) (f : Frame), s.judges → wholeFrame f 0 →
      (s.notices = [] → exec (.noticeRead f) s = .next (s.answered f 0x70 .ok .empty))
      ∧ ∀ n rest, s.notices = n :: rest →
        exec (.noticeRead f) s = .next { s.answered f 0x70 .ok (.notice rest.length n) with notices := rest })
  ∧ (∀ (s : State) (f : Frame), s.judges → wholeFrame f 0 →
      exec (.errorRead f) s = .next { s.answered f 0x71 .ok (.errors s.path.flags s.path.capture) with
        path := { flags := 0, capture := none } })
  ∧ (∀ (s : State) (f : Frame) (code : Byte), s.judges → f.early = false →
      let sent : State := { s.driving [.spi (clockedBytes f.bytes (responseBytes s.held))] with held := none }
      (code ≠ 0 → 2 ≤ f.bytes → commandLength code.toNat = none →
        exec (.unknownCommand f code) s = .next (s.answered f code .badCommand .empty))
      ∧ (exec (.unknownCommand f 0) s = .next sent)
      ∧ (f.bytes < 2 → exec (.unknownCommand f code) s = .next sent ∧ exec (.commit f) s = .next sent
        ∧ exec (.noticeRead f) s = .next sent)
      ∧ (f.announced ≠ 0 → 2 ≤ f.bytes →
        exec (.commit f) s = .next (s.answered f 0x39 .badArgument .empty)
        ∧ exec (.sleep f) s = .next (s.answered f 0x78 .badArgument .empty))
      ∧ (f.announced = 1 → f.bytes = 2 →
        exec (.accountRead f code) s = .next (s.answered f 0x37 .badArgument .empty))
      ∧ (f.announced = 0 → 2 ≤ f.bytes → s.resetRec.progress ≠ none →
        exec (.commit f) s = .next (s.answered f 0x39 .busy .empty)
        ∧ exec (.sleep f) s = .next (s.answered f 0x78 .busy .empty))
      ∧ (exec (.commit { f with early := true }) s = .next (s.driving [.spi (clockedBytes f.bytes [])])
        ∧ exec (.unknownCommand { f with early := true } code) s =
          if code ≠ 0 ∧ 2 ≤ f.bytes ∧ (commandLength code.toNat).isSome then .next (s.driving [])
          else .next (s.driving [.spi (clockedBytes f.bytes [])])))

/-! ## Pins, power and resets -/

/-- R138, R204: SLEEP is BUSY while a page is ADMITTED or PRINTING, a channel runs or a GENUINE slot owes a debit;
otherwise it is accepted: the part is in ENTERING and a commit is triggered. In ENTERING it is OK and changes
nothing. R43, R81, R138, R160, R205: the entry ends in SLEEP once queue, tracker, flush list and deliveries are
empty, no line fills and no commit is in flight or remembered. The prefetch lines are free, the messages abandoned
and SLEEP_ENTERED queued; everything else is kept. Before that moment the event does nothing. R9, R194, R206: in
SLEEP a request is answered RETRY and starts the wake, and a command's frame starts it and waits; at the wake's end
the part is in RUN, the present slots are reprobed with reason WAKE, and the waiting command is judged. Stated of
IDENT, with no LINKRST seen and no slot present; then of every slot, with no command waiting. R206: a LINK_RESET in SLEEP
or WAKING waits, starts the wake, and begins at its end, before or after the waiting command (log 14), once however often
the line was asserted meanwhile (log 48); R196, R197: a
waiting NOTICE_READ finds the RESET notice where the reset came first. R92, R205: a sleep entry is ended, with the part
in RUN and SLEEP_ABORTED queued, by the beat that moves a page to PRINTING, where the WAITING pages are re-judged, and
by a proof that makes a slot GENUINE with a debit above 0; with none owed the entry goes on. -/
def Obligations.SleepAndWake : Prop :=
  (∀ (s : State) (f : Frame), s.ready → wholeFrame f 0 →
      let blocked : Prop := (∃ i p, s.page i = some p ∧ p.state ≠ .waiting) ∨ (∃ c, (s.chan c).state = .running)
        ∨ ∃ k r, (s.slot k).state = .genuine r ∧ 0 < (s.gauge k).pending
      (s.power = .entering → exec (.sleep f) s = .next (s.answered f 0x78 .ok .empty))
      ∧ (s.power = .run → blocked → exec (.sleep f) s = .next (s.answered f 0x78 .busy .empty))
      ∧ (s.power = .run → ¬ blocked → s.commit.inFlight = none →
        ∃ t job, exec (.sleep f) s = .next t ∧ t.power = .entering ∧ t.held = some ⟨0x78, .ok, .empty⟩
          ∧ t.commit.inFlight = some job ∧ job.causes = 8 ∧ t.windows = s.windows ∧ t.keys = s.keys ∧ t.pages = s.pages
          ∧ t.slots = s.slots ∧ t.accounts = s.accounts ∧ t.notices = s.notices))
  ∧ (∀ s : State, s.powered = true → s.power = .entering →
      let still := s.pwq = [] ∧ s.tracker = [] ∧ s.flushes = [] ∧ s.hits = [] ∧ (∀ i, (s.line i).all (fun l => !l.isFilling) = true)
        ∧ s.commit.inFlight = none ∧ s.commit.remembered = none
      (still → exec .sleepEntered s = .next { s.driving [] with
        power := .sleep
        lines := Vector.replicate 8 none
        slots := Vector.ofFn (fun k : Fin 4 => { s.slot k with message := none })
        notices := pushNotice s.notices .sleepEntered })
      ∧ (¬ still → exec .sleepEntered s = .next (s.driving [])))
  ∧ (∀ (s : State) (f : Frame) (r : PageRequest) (resetFirst : Bool), s.powered = true → s.resetRec.progress = none →
      wholeFrame f 0 →
      (s.power = .sleep → exec (.flush r) s = .next { s.responded r .retry with power := .waking })
      ∧ (s.power = .sleep → s.awaiting = none →
        exec (.ident f) s = .next { s.driving [.spi (clockedBytes f.bytes (responseBytes s.held))] with
          held := none, power := .waking, awaiting := some (.ident f) })
      ∧ (s.power = .waking → s.awaiting = some (.ident f) → s.wakeReset = false → (∀ k, (s.slot k).presence ≠ .present) →
        exec (.wakeEnd resetFirst) s = .next { s.driving [] with
          power := .run
          awaiting := none
          held := some ⟨0x7A, .ok, .ident (if s.nv.root.provisioned then some s.nv.root.serial else none)
            s.nv.root.provisioned s.nv.root.locked s.resetRec.cause false .run⟩ }))
  ∧ (∀ (s : State) (resetFirst : Bool), s.powered = true → s.power = .waking → s.awaiting = none → s.wakeReset = false →
      ∃ t, exec (.wakeEnd resetFirst) s = .next t ∧ t.power = .run ∧ t.awaiting = none ∧ t.resetRec = s.resetRec
        ∧ ∀ k, ((s.slot k).presence = .present →
            t.slot k = { state := .probing, presence := .present, message := some ⟨.hello false, 1, .sending⟩
                         lastReason := some .wake }
            ∧ ∀ r, (s.slot k).state = .genuine r ∨ (s.slot k).state = .foreign r →
              t.gauge k = { lowSerial := (s.gauge k).lowSerial })
          ∧ ((s.slot k).presence ≠ .present → t.slot k = s.slot k ∧ t.gauge k = s.gauge k))
  ∧ (∀ (s : State) (f : Frame) (resetFirst : Bool), s.powered = true → s.resetRec.progress = none →
      (s.power = .sleep ∨ s.power = .waking → s.pins.linkrst = false → exec .linkReset s = .next { s.driving [] with
        pins := { s.pins with linkrst := true }, power := .waking, wakeReset := true })
      ∧ (s.power = .waking → s.wakeReset = true → s.awaiting = some (.noticeRead f) → wholeFrame f 0 →
        (∀ k, (s.slot k).presence ≠ .present) → (∀ i, s.page i = none) →
        ∃ t, exec (.wakeEnd resetFirst) s = .next t ∧ t.power = .run ∧ t.wakeReset = false ∧ t.awaiting = none
          ∧ t.resetRec = ⟨.linkReset, some ⟨false, false⟩⟩ ∧ t.tids = [] ∧ t.windows = s.windows
          ∧ (resetFirst = true → ∀ n rest, pushNotice s.notices (.reset .linkReset) = n :: rest →
            t.held = some ⟨0x70, .ok, .notice rest.length n⟩ ∧ t.notices = rest)
          ∧ (resetFirst = false →
            (s.notices = [] → t.held = some ⟨0x70, .ok, .empty⟩ ∧ t.notices = pushNotice [] (.reset .linkReset))
            ∧ ∀ n rest, s.notices = n :: rest →
              t.held = some ⟨0x70, .ok, .notice rest.length n⟩ ∧ t.notices = pushNotice rest (.reset .linkReset))))
  ∧ (∀ (s : State) (age : Nat) (e : TrackerEntry) (beats : List Beat) (ref : PlaneRef) (i : Fin 16) (p : Page),
      s.powered = true → s.power = .entering → s.tracker.find? (fun x => x.age == age) = some e →
      e.state = .delivering beats → e.ref = some ref → e.sent = 0 → 1 < beats.length → s.findPage ref.page = some i →
      s.page i = some p → p.state ≠ .printing →
      let b := beats.getD 0 0
      let counted := p.printedBeat ref.plane e.offset b
      (∃ pl ∈ counted.planes, pl.mark ≠ p.planeSize) →
      ∃ t, exec (.beatDelivery age) s = .next t ∧ t.emitted = [.beat e.source e.tid 0 b false] ∧ t.power = .run
        ∧ t.page i = some counted ∧ t.notices = pushNotice s.notices (.sleepAborted .printing)
        ∧ ∀ j q, j ≠ i → s.page j = some q → q.state = .waiting →
          (t.page j).any (fun x => x.state == .admitted) = q.planes.all (fun pl => s.slotAdmitting pl.colour))
  ∧ (∀ (s : State) (k : Colour) (frame tail ps : List Byte) (r : Record) (nonce : BitVec 128) (n : Nat),
      s.powered = true → s.power = .entering → (s.slot k).state = .proving r →
      (s.slot k).message = some ⟨.prove (some nonce), n, .awaiting⟩ → goodPayload 0x82 8 frame = some ps →
      BitVec.ofNat 64 (fieldAt ps 0 8) = Config.proofTag (Config.deriveKey s.nv.root.masterKey r.serial)
        (.prove nonce r.serial r.remaining r.sequence) →
      ∃ t, exec (.proveReply k (frame ++ tail)) s = .next t ∧ (t.slot k).state = .genuine r
        ∧ (carryAmount s.carry r.serial = 0 → t.power = .entering)
        ∧ (0 < carryAmount s.carry r.serial → t.power = .run
          ∧ ∃ ns, t.notices = (ns ++ [.sleepAborted .debit]).foldl pushNotice s.notices))

/-- R15, R42, R62, R80, R105, R192, R202, R203: what the beginning of a RESET or of a LINK_RESET leaves. The tids, the
flushes and the reads not yet answered are dropped, the posted writes are kept without marks, no page is live, the
channels and the scrub queue are empty and the reset is on record as in progress. RESET empties the notice queue and
the error record first; a LINK_RESET keeps both. The windows are not yet FREE. R205: begun in a sleep entry, it ends the
entry. R98, R99, R105: a page in PRINTING is charged as at a cancel, and any other releases its reservation; stated with
one live page, since the order of several is the model's choice (log 30), and of a page not PRINTING outside a sleep
entry (log 37). Of the page charged, the order C, M, Y, K of its planes' draws, and so of their notices, is the model's
choice (log 29), and so is the setting that gives a FOREIGN slot's low mark (log 46). R42, R202, R203: the windows are
forced FREE, with their keys destroyed and no notice, once the posted writes have drained; the reset completes when that
is done and LINKRST is deasserted, and triggers a commit. A LINKRST that rises during a reset makes it a LINK_RESET on
record, with a further notice. Stated first of a LINK_RESET, which
reloads no settings, with no commit in flight. R137, R159, R202: a COMMAND reset completes with the working settings
reloaded; a policy that changes with them reprobes the present slots with reason POLICY, and a commit interval that
changes with them to the pages-since-commit count or below triggers a commit first (log 17). -/
def Obligations.ResetsBeginAndComplete : Prop :=
  (∀ (s : State) (f : Frame), s.ready →
      let aborted : List Notice := if s.power = .entering then [.sleepAborted .reset] else []
      let begun (kind : ResetKind) (before : List QueuedNotice) (t : State) : Prop :=
        t.resetRec = ⟨kind, some ⟨kind == ResetKind.command, false⟩⟩ ∧ t.power = .run ∧ (∀ i, t.page i = none)
        ∧ t.tids = [] ∧ t.flushes = [] ∧ t.pwq = s.pwq.map (fun e => { e with marks := [] })
        ∧ (∀ e ∈ t.tracker, ∃ beats, e.state = .delivering beats)
        ∧ (∀ k l, t.line k = some l → ∃ filled us n data, l.state = .valid filled us (n + 1) true data)
        ∧ (∀ c, t.chan c = {}) ∧ t.scrub.queue = []
        ∧ t.keys = s.keys
        ∧ (let told := (.reset kind :: aborted).foldl pushNotice before
          ((∀ i, s.page i = none) → t.windows = s.windows ∧ t.accounts = s.accounts ∧ t.meter = s.meter ∧ t.slots = s.slots
            ∧ t.gauges = s.gauges ∧ t.carry = s.carry ∧ t.commit = s.commit ∧ t.notices = told)
          ∧ ∀ i p, s.page i = some p → (∀ j, j ≠ i → s.page j = none) →
            let acc := s.account p.account
            let w := s.window p.window.index
            (p.state = .printing → t.chargedFrom s i p (some .reset) told)
            ∧ (p.state ≠ .printing → s.power = .run →
              t.accounts = s.accounts.set p.account { acc with reserved := acc.reserved - p.reservation }
              ∧ t.windows = s.windows.set p.window.index { w with livePages := w.livePages - 1 } ∧ t.meter = s.meter
              ∧ t.slots = s.slots ∧ t.gauges = s.gauges ∧ t.carry = s.carry ∧ t.commit = s.commit
              ∧ t.notices = pushNotice told (.pageCancelled
                { number := p.number, account := p.account, window := p.window
                  cls := if p.size = .small then .monoSmall else .monoLarge
                  coverage := p.planes.map (fun pl => (pl.colour, 0)), charge := 0, foreign := false } p.state .reset)))
      (wholeFrame f 0 → ∃ t, exec (.reset f) s = .next t ∧ begun .command [] t ∧ t.held = some ⟨0x79, .ok, .empty⟩
        ∧ t.path = { flags := 0, capture := none })
      ∧ (s.pins.linkrst = false → ∃ t, exec .linkReset s = .next t ∧ begun .linkReset s.notices t
        ∧ t.path = s.path ∧ t.pins = { s.pins with linkrst := true }))
  ∧ (∀ (s : State) (p : ResetProgress), s.powered = true → s.resetRec.progress = some p →
      (p.windowsFreed = false → s.pwq = [] → exec .resetWindowsFreed s = .next { s.driving [] with
        windows := Vector.ofFn (fun i : Fin 16 => { generation := (s.window i).generation })
        keys := { slots := Vector.replicate 16 none, spares := Vector.replicate 2 .free }
        resetRec := { s.resetRec with progress := some { p with windowsFreed := true } } })
      ∧ (s.pwq ≠ [] → exec .resetWindowsFreed s = .next (s.driving []))
      ∧ (p.windowsFreed = true → p.asCommand = false → s.pins.linkrst = false → s.commit.inFlight = none →
        ∃ t job, exec .resetComplete s = .next t ∧ t.resetRec = { cause := s.resetRec.cause, progress := none }
          ∧ t.commit.inFlight = some job ∧ job.causes = 16 ∧ t.settings = s.settings ∧ t.windows = s.windows)
      ∧ (p.windowsFreed = true → p.asCommand = true → s.pins.linkrst = false →
        let c := s.nv.stored.getD {}
        let due : Prop := c.commitInterval ≠ s.settings.commitInterval ∧ c.commitInterval ≤ s.commit.since
        ∃ t, exec .resetComplete s = .next t ∧ t.resetRec = { cause := s.resetRec.cause, progress := none }
          ∧ t.settings = c ∧ t.loadResult = (if s.nv.stored.isSome then .stored else .defaults) ∧ t.windows = s.windows
          ∧ (c.policy = s.settings.policy → t.slots = s.slots ∧ t.gauges = s.gauges ∧ t.carry = s.carry ∧ t.notices = s.notices)
          ∧ (c.policy ≠ s.settings.policy → ∀ k,
            ((s.slot k).presence = .present → t.slot k =
              { state := .probing, presence := .present, message := some ⟨.hello false, 1, .sending⟩
                lastReason := some .policy })
            ∧ ((s.slot k).presence ≠ .present → t.slot k = s.slot k))
          ∧ (s.commit.inFlight = none → ∃ job, t.commit.inFlight = some job ∧ t.commit.since = 0
            ∧ (¬ due → job.causes = 16 ∧ t.commit.remembered = s.commit.remembered)
            ∧ (due → job.causes = 2 ∧ t.commit.remembered = some (s.commit.remembered.getD 0 ||| 16)))
          ∧ (s.commit.inFlight ≠ none →
            (¬ due → t.commit = { s.commit with remembered := some (s.commit.remembered.getD 0 ||| 16) })
            ∧ (due → t.commit = { s.commit with remembered := some (s.commit.remembered.getD 0 ||| 18) })))
      ∧ (p.windowsFreed = false ∨ s.pins.linkrst = true → exec .resetComplete s = .next (s.driving []))
      ∧ (exec .linkrstDeassert s = .next { s.driving [] with pins := { s.pins with linkrst := false } })
      ∧ (s.pins.linkrst = false → exec .linkReset s = .next { s.driving [] with
        pins := { s.pins with linkrst := true }
        resetRec := { s.resetRec with cause := .linkReset }
        notices := pushNotice s.notices (.reset .linkReset) }))

/-- R61: what POWER_ON leaves of the posted-write queue, the flush list and the reads, and so of the keys they refer to. -/
def Obligations.PowerOnEmptiesQueues : Prop :=
  ∀ s : State, ∃ t, exec .powerOn s = .next t ∧ t.pwq = [] ∧ t.flushes = []
    ∧ (∀ e ∈ t.tracker, ∀ waits, e.state ≠ .held waits) ∧ ∀ e ∈ t.pwq, e.key = none

/-- R15, R41, R80, R83, R105, R136, R158, R174, R192, R199, R202, R203: what POWER_ON leaves of the other blocks.
Accounts and meter come from the newest valid snapshot, or are those of the factory. R41, R202: a loss of power ends
every volatile content, the keys among them, and keeps the nonvolatile store. That the input lines keep their levels
is the model's choice (log 5). -/
def Obligations.PowerSetsUpAndKeeps : Prop :=
  (∀ s : State, ∃ t, exec .powerOn s = .next t
      ∧ (∀ i, t.window i = {}) ∧ t.keys = {} ∧ t.tids = [] ∧ t.tracker = [] ∧ t.hits = [] ∧ (∀ i, t.line i = none)
      ∧ (∀ u, t.memTid u = .free) ∧ t.path = {} ∧ (∀ i, t.page i = none) ∧ t.nextPage = 1 ∧ (∀ c, t.chan c = {})
      ∧ t.scrub.queue = [] ∧ t.power = .run ∧ t.nv = s.nv ∧ t.pins = s.pins
      ∧ (∀ k, (t.slot k).state = .absent ∧ (t.slot k).message = none ∧ (t.slot k).lastReason = none
        ∧ (t.slot k).presence = (if s.pins.lines[k] then .settling else .notPresent))
      ∧ (∀ k, t.gauge k = {}) ∧ t.settings = s.nv.stored.getD {}
      ∧ t.commit.inFlight = none ∧ t.commit.remembered = none ∧ t.commit.last = none
      ∧ (s.pins.linkrst = false → t.resetRec = { cause := .powerOn, progress := none })
      ∧ match s.nv.newest with
        | some (_, x) => t.meter = x.meter ∧ t.commit.restore = .restored
            ∧ ∀ a : Fin 128, t.account a = ⟨x.accounts[a].state, x.accounts[a].id, x.accounts[a].limit, x.accounts[a].used, 0,
                x.accounts[a].counters⟩
        | none => t.meter = {} ∧ t.commit.restore = .blank ∧ t.carry = []
            ∧ t.account 0 = { state := .active, limit := none } ∧ ∀ a, a ≠ 0 → t.account a = {})
  ∧ (∀ s : State, ∃ t, exec .powerLoss s = .next t ∧ t.powered = false ∧ t.nv = s.nv ∧ t.pins = s.pins
      ∧ t.keys = {} ∧ (∀ i, (t.window i).state = .free) ∧ t.pwq = [] ∧ (∀ i, t.page i = none))

/-! ## Frames -/

/-- R194, R195, R207: the frame of a management command, decoded, is that command, every operand at every value. -/
def Obligations.FramesDecodeToCommands : Prop :=
  ∀ (i : Instr) (bytes : List Byte) (early : Bool) (o : StoreOutcome), encodeFrame i = some bytes →
    decodeFrame early o bytes = reframe ⟨.ofNat 8 (bytes.length - 2), bytes.length, early⟩ o i

/-! ## The notice queue and ATTN -/

/-- R196: a notice joins the newest end of the queue while the queue holds fewer than 32; at 32 it is dropped, and the
newest notice counts one more in its OVERFLOW marking, saturating at 65535, while every other stays as it is. R198: ATTN
is asserted exactly where a notice waits and the notice enable is set, or a path error flag is set whose own enable is;
without power it is deasserted (log 5). -/
def Obligations.NoticesOverflowAndAttn : Prop :=
  (∀ (q : List QueuedNotice) (n : Notice), q.length < 32 → pushNotice q n = q ++ [⟨n, 0⟩])
  ∧ (∀ (q : List QueuedNotice) (last : QueuedNotice) (n : Notice), 31 ≤ q.length →
      pushNotice (q ++ [last]) n = q ++ [{ last with overflow := min 65535 (last.overflow + 1) }])
  ∧ (∀ (s : State) (j : CommitJob) (q : List QueuedNotice) (last : QueuedNotice), s.powered = true →
      s.commit.inFlight = some j → s.notices = q ++ [last] → q.length = 31 →
        ∃ t, exec (.commitEnd true) s = .next t
          ∧ t.notices = q ++ [{ last with overflow := min 65535 (last.overflow + 1) }])
  ∧ (∀ s : State, s.attn = true ↔ s.powered = true ∧ ((s.notices ≠ [] ∧ s.settings.noticeAttn = true)
      ∨ ∃ b : Fin 13, s.path.flags.getLsbD b.val = true ∧ s.settings.flagAttn.getLsbD b.val = true))

/-! ## The laws that every step keeps -/

/-- R21: no two windows that are not FREE come to share a byte of system or of memory address space. -/
def Obligations.StepKeepsWindowsApart : Prop :=
  keptByStep State.windowsApart

/-- R161 to R164, R171: remaining stays L less P on a GENUINE slot, nothing is owed on a FOREIGN one, and every other
slot's gauge holds nothing. -/
def Obligations.StepKeepsGaugeLaw : Prop :=
  keptByStep State.gaugeLaw

/-- R93: no mark passes its plane's end and no dot total passes 12 times its mark. -/
def Obligations.StepKeepsCoverageLaw : Prop :=
  keptByStep State.coverageLaw

/-- R109, R124, R126, R127: no account passes its limit, its reserved units are the reservations of its live pages, and
no live page is billed to an UNUSED slot. -/
def Obligations.StepKeepsAccountLaw : Prop :=
  keptByStep State.accountLaw

/-- R129, R131, R133, R134, R136: the committed meter never passes the working meter, across resets and losses of power
too. -/
def Obligations.StepKeepsMeterLaw : Prop :=
  keptByStep State.meterLaw

/-- R199, R200: every working and stored setting stays in its range. R47, R59, R64, R196: no queue, list or tracker
passes its capacity. -/
def Obligations.StepKeepsRangesAndRoom : Prop :=
  (keptByStep State.settingsLaw)
  ∧ (keptByStep State.roomLaw)

/-- The laws hold right after reset. -/
def Obligations.LawsHoldAtReset : Prop :=
  State.reset.windowsApart ∧ State.reset.gaugeLaw ∧ State.reset.coverageLaw ∧ State.reset.accountLaw ∧ State.reset.settingsLaw
    ∧ State.reset.roomLaw ∧ State.reset.meterLaw

end Statements
end

