-- ==== Sys2Proof/Laws/State.lean ====
section
/-! SUPPORT. What each update of the state leaves in each field, by reflexivity, and what each table reads after a write
to it. -/

namespace Sys2Proof.Machine

/-! ## Fields that an update leaves alone -/

@[simp] theorem State.setWindow_pending (s : State) (i : WindowIdx) (w : Window) : (s.setWindow i w).pending = s.pending := rfl
@[simp] theorem State.setWindow_seq (s : State) (i : WindowIdx) (w : Window) : (s.setWindow i w).seq = s.seq := rfl
@[simp] theorem State.setWindow_draws (s : State) (i : WindowIdx) (w : Window) : (s.setWindow i w).draws = s.draws := rfl
@[simp] theorem State.setWindow_outbox (s : State) (i : WindowIdx) (w : Window) : (s.setWindow i w).outbox = s.outbox := rfl
@[simp] theorem State.setWindow_emitted (s : State) (i : WindowIdx) (w : Window) : (s.setWindow i w).emitted = s.emitted := rfl
@[simp] theorem State.setWindow_powered (s : State) (i : WindowIdx) (w : Window) : (s.setWindow i w).powered = s.powered := rfl
@[simp] theorem State.setWindow_pins (s : State) (i : WindowIdx) (w : Window) : (s.setWindow i w).pins = s.pins := rfl
@[simp] theorem State.setWindow_nv (s : State) (i : WindowIdx) (w : Window) : (s.setWindow i w).nv = s.nv := rfl
@[simp] theorem State.setWindow_power (s : State) (i : WindowIdx) (w : Window) : (s.setWindow i w).power = s.power := rfl
@[simp] theorem State.setWindow_wakeReset (s : State) (i : WindowIdx) (w : Window) : (s.setWindow i w).wakeReset = s.wakeReset := rfl
@[simp] theorem State.setWindow_resetRec (s : State) (i : WindowIdx) (w : Window) : (s.setWindow i w).resetRec = s.resetRec := rfl
@[simp] theorem State.setWindow_settings (s : State) (i : WindowIdx) (w : Window) : (s.setWindow i w).settings = s.settings := rfl
@[simp] theorem State.setWindow_loadResult (s : State) (i : WindowIdx) (w : Window) : (s.setWindow i w).loadResult = s.loadResult := rfl
@[simp] theorem State.setWindow_held (s : State) (i : WindowIdx) (w : Window) : (s.setWindow i w).held = s.held := rfl
@[simp] theorem State.setWindow_awaiting (s : State) (i : WindowIdx) (w : Window) : (s.setWindow i w).awaiting = s.awaiting := rfl
@[simp] theorem State.setWindow_notices (s : State) (i : WindowIdx) (w : Window) : (s.setWindow i w).notices = s.notices := rfl
@[simp] theorem State.setWindow_path (s : State) (i : WindowIdx) (w : Window) : (s.setWindow i w).path = s.path := rfl
@[simp] theorem State.setWindow_keys (s : State) (i : WindowIdx) (w : Window) : (s.setWindow i w).keys = s.keys := rfl
@[simp] theorem State.setWindow_tids (s : State) (i : WindowIdx) (w : Window) : (s.setWindow i w).tids = s.tids := rfl
@[simp] theorem State.setWindow_pwq (s : State) (i : WindowIdx) (w : Window) : (s.setWindow i w).pwq = s.pwq := rfl
@[simp] theorem State.setWindow_tracker (s : State) (i : WindowIdx) (w : Window) : (s.setWindow i w).tracker = s.tracker := rfl
@[simp] theorem State.setWindow_hits (s : State) (i : WindowIdx) (w : Window) : (s.setWindow i w).hits = s.hits := rfl
@[simp] theorem State.setWindow_flushes (s : State) (i : WindowIdx) (w : Window) : (s.setWindow i w).flushes = s.flushes := rfl
@[simp] theorem State.setWindow_lines (s : State) (i : WindowIdx) (w : Window) : (s.setWindow i w).lines = s.lines := rfl
@[simp] theorem State.setWindow_mem (s : State) (i : WindowIdx) (w : Window) : (s.setWindow i w).mem = s.mem := rfl
@[simp] theorem State.setWindow_pages (s : State) (i : WindowIdx) (w : Window) : (s.setWindow i w).pages = s.pages := rfl
@[simp] theorem State.setWindow_nextPage (s : State) (i : WindowIdx) (w : Window) : (s.setWindow i w).nextPage = s.nextPage := rfl
@[simp] theorem State.setWindow_accounts (s : State) (i : WindowIdx) (w : Window) : (s.setWindow i w).accounts = s.accounts := rfl
@[simp] theorem State.setWindow_meter (s : State) (i : WindowIdx) (w : Window) : (s.setWindow i w).meter = s.meter := rfl
@[simp] theorem State.setWindow_commit (s : State) (i : WindowIdx) (w : Window) : (s.setWindow i w).commit = s.commit := rfl
@[simp] theorem State.setWindow_slots (s : State) (i : WindowIdx) (w : Window) : (s.setWindow i w).slots = s.slots := rfl
@[simp] theorem State.setWindow_gauges (s : State) (i : WindowIdx) (w : Window) : (s.setWindow i w).gauges = s.gauges := rfl
@[simp] theorem State.setWindow_carry (s : State) (i : WindowIdx) (w : Window) : (s.setWindow i w).carry = s.carry := rfl
@[simp] theorem State.setWindow_scrub (s : State) (i : WindowIdx) (w : Window) : (s.setWindow i w).scrub = s.scrub := rfl

@[simp] theorem State.setAccount_pending (s : State) (a : Fin 128) (x : Account) : (s.setAccount a x).pending = s.pending := rfl
@[simp] theorem State.setAccount_seq (s : State) (a : Fin 128) (x : Account) : (s.setAccount a x).seq = s.seq := rfl
@[simp] theorem State.setAccount_draws (s : State) (a : Fin 128) (x : Account) : (s.setAccount a x).draws = s.draws := rfl
@[simp] theorem State.setAccount_outbox (s : State) (a : Fin 128) (x : Account) : (s.setAccount a x).outbox = s.outbox := rfl
@[simp] theorem State.setAccount_emitted (s : State) (a : Fin 128) (x : Account) : (s.setAccount a x).emitted = s.emitted := rfl
@[simp] theorem State.setAccount_powered (s : State) (a : Fin 128) (x : Account) : (s.setAccount a x).powered = s.powered := rfl
@[simp] theorem State.setAccount_pins (s : State) (a : Fin 128) (x : Account) : (s.setAccount a x).pins = s.pins := rfl
@[simp] theorem State.setAccount_nv (s : State) (a : Fin 128) (x : Account) : (s.setAccount a x).nv = s.nv := rfl
@[simp] theorem State.setAccount_power (s : State) (a : Fin 128) (x : Account) : (s.setAccount a x).power = s.power := rfl
@[simp] theorem State.setAccount_wakeReset (s : State) (a : Fin 128) (x : Account) : (s.setAccount a x).wakeReset = s.wakeReset := rfl
@[simp] theorem State.setAccount_resetRec (s : State) (a : Fin 128) (x : Account) : (s.setAccount a x).resetRec = s.resetRec := rfl
@[simp] theorem State.setAccount_settings (s : State) (a : Fin 128) (x : Account) : (s.setAccount a x).settings = s.settings := rfl
@[simp] theorem State.setAccount_loadResult (s : State) (a : Fin 128) (x : Account) : (s.setAccount a x).loadResult = s.loadResult := rfl
@[simp] theorem State.setAccount_held (s : State) (a : Fin 128) (x : Account) : (s.setAccount a x).held = s.held := rfl
@[simp] theorem State.setAccount_awaiting (s : State) (a : Fin 128) (x : Account) : (s.setAccount a x).awaiting = s.awaiting := rfl
@[simp] theorem State.setAccount_notices (s : State) (a : Fin 128) (x : Account) : (s.setAccount a x).notices = s.notices := rfl
@[simp] theorem State.setAccount_path (s : State) (a : Fin 128) (x : Account) : (s.setAccount a x).path = s.path := rfl
@[simp] theorem State.setAccount_windows (s : State) (a : Fin 128) (x : Account) : (s.setAccount a x).windows = s.windows := rfl
@[simp] theorem State.setAccount_keys (s : State) (a : Fin 128) (x : Account) : (s.setAccount a x).keys = s.keys := rfl
@[simp] theorem State.setAccount_tids (s : State) (a : Fin 128) (x : Account) : (s.setAccount a x).tids = s.tids := rfl
@[simp] theorem State.setAccount_pwq (s : State) (a : Fin 128) (x : Account) : (s.setAccount a x).pwq = s.pwq := rfl
@[simp] theorem State.setAccount_tracker (s : State) (a : Fin 128) (x : Account) : (s.setAccount a x).tracker = s.tracker := rfl
@[simp] theorem State.setAccount_hits (s : State) (a : Fin 128) (x : Account) : (s.setAccount a x).hits = s.hits := rfl
@[simp] theorem State.setAccount_flushes (s : State) (a : Fin 128) (x : Account) : (s.setAccount a x).flushes = s.flushes := rfl
@[simp] theorem State.setAccount_lines (s : State) (a : Fin 128) (x : Account) : (s.setAccount a x).lines = s.lines := rfl
@[simp] theorem State.setAccount_mem (s : State) (a : Fin 128) (x : Account) : (s.setAccount a x).mem = s.mem := rfl
@[simp] theorem State.setAccount_pages (s : State) (a : Fin 128) (x : Account) : (s.setAccount a x).pages = s.pages := rfl
@[simp] theorem State.setAccount_nextPage (s : State) (a : Fin 128) (x : Account) : (s.setAccount a x).nextPage = s.nextPage := rfl
@[simp] theorem State.setAccount_meter (s : State) (a : Fin 128) (x : Account) : (s.setAccount a x).meter = s.meter := rfl
@[simp] theorem State.setAccount_commit (s : State) (a : Fin 128) (x : Account) : (s.setAccount a x).commit = s.commit := rfl
@[simp] theorem State.setAccount_slots (s : State) (a : Fin 128) (x : Account) : (s.setAccount a x).slots = s.slots := rfl
@[simp] theorem State.setAccount_gauges (s : State) (a : Fin 128) (x : Account) : (s.setAccount a x).gauges = s.gauges := rfl
@[simp] theorem State.setAccount_carry (s : State) (a : Fin 128) (x : Account) : (s.setAccount a x).carry = s.carry := rfl
@[simp] theorem State.setAccount_scrub (s : State) (a : Fin 128) (x : Account) : (s.setAccount a x).scrub = s.scrub := rfl

@[simp] theorem State.setPage_pending (s : State) (i : Fin 16) (p : Option Page) : (s.setPage i p).pending = s.pending := rfl
@[simp] theorem State.setPage_seq (s : State) (i : Fin 16) (p : Option Page) : (s.setPage i p).seq = s.seq := rfl
@[simp] theorem State.setPage_draws (s : State) (i : Fin 16) (p : Option Page) : (s.setPage i p).draws = s.draws := rfl
@[simp] theorem State.setPage_outbox (s : State) (i : Fin 16) (p : Option Page) : (s.setPage i p).outbox = s.outbox := rfl
@[simp] theorem State.setPage_emitted (s : State) (i : Fin 16) (p : Option Page) : (s.setPage i p).emitted = s.emitted := rfl
@[simp] theorem State.setPage_powered (s : State) (i : Fin 16) (p : Option Page) : (s.setPage i p).powered = s.powered := rfl
@[simp] theorem State.setPage_pins (s : State) (i : Fin 16) (p : Option Page) : (s.setPage i p).pins = s.pins := rfl
@[simp] theorem State.setPage_nv (s : State) (i : Fin 16) (p : Option Page) : (s.setPage i p).nv = s.nv := rfl
@[simp] theorem State.setPage_power (s : State) (i : Fin 16) (p : Option Page) : (s.setPage i p).power = s.power := rfl
@[simp] theorem State.setPage_wakeReset (s : State) (i : Fin 16) (p : Option Page) : (s.setPage i p).wakeReset = s.wakeReset := rfl
@[simp] theorem State.setPage_resetRec (s : State) (i : Fin 16) (p : Option Page) : (s.setPage i p).resetRec = s.resetRec := rfl
@[simp] theorem State.setPage_settings (s : State) (i : Fin 16) (p : Option Page) : (s.setPage i p).settings = s.settings := rfl
@[simp] theorem State.setPage_loadResult (s : State) (i : Fin 16) (p : Option Page) : (s.setPage i p).loadResult = s.loadResult := rfl
@[simp] theorem State.setPage_held (s : State) (i : Fin 16) (p : Option Page) : (s.setPage i p).held = s.held := rfl
@[simp] theorem State.setPage_awaiting (s : State) (i : Fin 16) (p : Option Page) : (s.setPage i p).awaiting = s.awaiting := rfl
@[simp] theorem State.setPage_notices (s : State) (i : Fin 16) (p : Option Page) : (s.setPage i p).notices = s.notices := rfl
@[simp] theorem State.setPage_path (s : State) (i : Fin 16) (p : Option Page) : (s.setPage i p).path = s.path := rfl
@[simp] theorem State.setPage_windows (s : State) (i : Fin 16) (p : Option Page) : (s.setPage i p).windows = s.windows := rfl
@[simp] theorem State.setPage_keys (s : State) (i : Fin 16) (p : Option Page) : (s.setPage i p).keys = s.keys := rfl
@[simp] theorem State.setPage_tids (s : State) (i : Fin 16) (p : Option Page) : (s.setPage i p).tids = s.tids := rfl
@[simp] theorem State.setPage_pwq (s : State) (i : Fin 16) (p : Option Page) : (s.setPage i p).pwq = s.pwq := rfl
@[simp] theorem State.setPage_tracker (s : State) (i : Fin 16) (p : Option Page) : (s.setPage i p).tracker = s.tracker := rfl
@[simp] theorem State.setPage_hits (s : State) (i : Fin 16) (p : Option Page) : (s.setPage i p).hits = s.hits := rfl
@[simp] theorem State.setPage_flushes (s : State) (i : Fin 16) (p : Option Page) : (s.setPage i p).flushes = s.flushes := rfl
@[simp] theorem State.setPage_lines (s : State) (i : Fin 16) (p : Option Page) : (s.setPage i p).lines = s.lines := rfl
@[simp] theorem State.setPage_mem (s : State) (i : Fin 16) (p : Option Page) : (s.setPage i p).mem = s.mem := rfl
@[simp] theorem State.setPage_nextPage (s : State) (i : Fin 16) (p : Option Page) : (s.setPage i p).nextPage = s.nextPage := rfl
@[simp] theorem State.setPage_accounts (s : State) (i : Fin 16) (p : Option Page) : (s.setPage i p).accounts = s.accounts := rfl
@[simp] theorem State.setPage_meter (s : State) (i : Fin 16) (p : Option Page) : (s.setPage i p).meter = s.meter := rfl
@[simp] theorem State.setPage_commit (s : State) (i : Fin 16) (p : Option Page) : (s.setPage i p).commit = s.commit := rfl
@[simp] theorem State.setPage_slots (s : State) (i : Fin 16) (p : Option Page) : (s.setPage i p).slots = s.slots := rfl
@[simp] theorem State.setPage_gauges (s : State) (i : Fin 16) (p : Option Page) : (s.setPage i p).gauges = s.gauges := rfl
@[simp] theorem State.setPage_carry (s : State) (i : Fin 16) (p : Option Page) : (s.setPage i p).carry = s.carry := rfl
@[simp] theorem State.setPage_scrub (s : State) (i : Fin 16) (p : Option Page) : (s.setPage i p).scrub = s.scrub := rfl

@[simp] theorem State.setSlot_pending (s : State) (k : Colour) (x : Slot) : (s.setSlot k x).pending = s.pending := rfl
@[simp] theorem State.setSlot_seq (s : State) (k : Colour) (x : Slot) : (s.setSlot k x).seq = s.seq := rfl
@[simp] theorem State.setSlot_draws (s : State) (k : Colour) (x : Slot) : (s.setSlot k x).draws = s.draws := rfl
@[simp] theorem State.setSlot_outbox (s : State) (k : Colour) (x : Slot) : (s.setSlot k x).outbox = s.outbox := rfl
@[simp] theorem State.setSlot_emitted (s : State) (k : Colour) (x : Slot) : (s.setSlot k x).emitted = s.emitted := rfl
@[simp] theorem State.setSlot_powered (s : State) (k : Colour) (x : Slot) : (s.setSlot k x).powered = s.powered := rfl
@[simp] theorem State.setSlot_pins (s : State) (k : Colour) (x : Slot) : (s.setSlot k x).pins = s.pins := rfl
@[simp] theorem State.setSlot_nv (s : State) (k : Colour) (x : Slot) : (s.setSlot k x).nv = s.nv := rfl
@[simp] theorem State.setSlot_power (s : State) (k : Colour) (x : Slot) : (s.setSlot k x).power = s.power := rfl
@[simp] theorem State.setSlot_wakeReset (s : State) (k : Colour) (x : Slot) : (s.setSlot k x).wakeReset = s.wakeReset := rfl
@[simp] theorem State.setSlot_resetRec (s : State) (k : Colour) (x : Slot) : (s.setSlot k x).resetRec = s.resetRec := rfl
@[simp] theorem State.setSlot_settings (s : State) (k : Colour) (x : Slot) : (s.setSlot k x).settings = s.settings := rfl
@[simp] theorem State.setSlot_loadResult (s : State) (k : Colour) (x : Slot) : (s.setSlot k x).loadResult = s.loadResult := rfl
@[simp] theorem State.setSlot_held (s : State) (k : Colour) (x : Slot) : (s.setSlot k x).held = s.held := rfl
@[simp] theorem State.setSlot_awaiting (s : State) (k : Colour) (x : Slot) : (s.setSlot k x).awaiting = s.awaiting := rfl
@[simp] theorem State.setSlot_notices (s : State) (k : Colour) (x : Slot) : (s.setSlot k x).notices = s.notices := rfl
@[simp] theorem State.setSlot_path (s : State) (k : Colour) (x : Slot) : (s.setSlot k x).path = s.path := rfl
@[simp] theorem State.setSlot_windows (s : State) (k : Colour) (x : Slot) : (s.setSlot k x).windows = s.windows := rfl
@[simp] theorem State.setSlot_keys (s : State) (k : Colour) (x : Slot) : (s.setSlot k x).keys = s.keys := rfl
@[simp] theorem State.setSlot_tids (s : State) (k : Colour) (x : Slot) : (s.setSlot k x).tids = s.tids := rfl
@[simp] theorem State.setSlot_pwq (s : State) (k : Colour) (x : Slot) : (s.setSlot k x).pwq = s.pwq := rfl
@[simp] theorem State.setSlot_tracker (s : State) (k : Colour) (x : Slot) : (s.setSlot k x).tracker = s.tracker := rfl
@[simp] theorem State.setSlot_hits (s : State) (k : Colour) (x : Slot) : (s.setSlot k x).hits = s.hits := rfl
@[simp] theorem State.setSlot_flushes (s : State) (k : Colour) (x : Slot) : (s.setSlot k x).flushes = s.flushes := rfl
@[simp] theorem State.setSlot_lines (s : State) (k : Colour) (x : Slot) : (s.setSlot k x).lines = s.lines := rfl
@[simp] theorem State.setSlot_mem (s : State) (k : Colour) (x : Slot) : (s.setSlot k x).mem = s.mem := rfl
@[simp] theorem State.setSlot_pages (s : State) (k : Colour) (x : Slot) : (s.setSlot k x).pages = s.pages := rfl
@[simp] theorem State.setSlot_nextPage (s : State) (k : Colour) (x : Slot) : (s.setSlot k x).nextPage = s.nextPage := rfl
@[simp] theorem State.setSlot_accounts (s : State) (k : Colour) (x : Slot) : (s.setSlot k x).accounts = s.accounts := rfl
@[simp] theorem State.setSlot_meter (s : State) (k : Colour) (x : Slot) : (s.setSlot k x).meter = s.meter := rfl
@[simp] theorem State.setSlot_commit (s : State) (k : Colour) (x : Slot) : (s.setSlot k x).commit = s.commit := rfl
@[simp] theorem State.setSlot_gauges (s : State) (k : Colour) (x : Slot) : (s.setSlot k x).gauges = s.gauges := rfl
@[simp] theorem State.setSlot_carry (s : State) (k : Colour) (x : Slot) : (s.setSlot k x).carry = s.carry := rfl
@[simp] theorem State.setSlot_scrub (s : State) (k : Colour) (x : Slot) : (s.setSlot k x).scrub = s.scrub := rfl

@[simp] theorem State.setGauge_pending (s : State) (k : Colour) (g : Gauge) : (s.setGauge k g).pending = s.pending := rfl
@[simp] theorem State.setGauge_seq (s : State) (k : Colour) (g : Gauge) : (s.setGauge k g).seq = s.seq := rfl
@[simp] theorem State.setGauge_draws (s : State) (k : Colour) (g : Gauge) : (s.setGauge k g).draws = s.draws := rfl
@[simp] theorem State.setGauge_outbox (s : State) (k : Colour) (g : Gauge) : (s.setGauge k g).outbox = s.outbox := rfl
@[simp] theorem State.setGauge_emitted (s : State) (k : Colour) (g : Gauge) : (s.setGauge k g).emitted = s.emitted := rfl
@[simp] theorem State.setGauge_powered (s : State) (k : Colour) (g : Gauge) : (s.setGauge k g).powered = s.powered := rfl
@[simp] theorem State.setGauge_pins (s : State) (k : Colour) (g : Gauge) : (s.setGauge k g).pins = s.pins := rfl
@[simp] theorem State.setGauge_nv (s : State) (k : Colour) (g : Gauge) : (s.setGauge k g).nv = s.nv := rfl
@[simp] theorem State.setGauge_power (s : State) (k : Colour) (g : Gauge) : (s.setGauge k g).power = s.power := rfl
@[simp] theorem State.setGauge_wakeReset (s : State) (k : Colour) (g : Gauge) : (s.setGauge k g).wakeReset = s.wakeReset := rfl
@[simp] theorem State.setGauge_resetRec (s : State) (k : Colour) (g : Gauge) : (s.setGauge k g).resetRec = s.resetRec := rfl
@[simp] theorem State.setGauge_settings (s : State) (k : Colour) (g : Gauge) : (s.setGauge k g).settings = s.settings := rfl
@[simp] theorem State.setGauge_loadResult (s : State) (k : Colour) (g : Gauge) : (s.setGauge k g).loadResult = s.loadResult := rfl
@[simp] theorem State.setGauge_held (s : State) (k : Colour) (g : Gauge) : (s.setGauge k g).held = s.held := rfl
@[simp] theorem State.setGauge_awaiting (s : State) (k : Colour) (g : Gauge) : (s.setGauge k g).awaiting = s.awaiting := rfl
@[simp] theorem State.setGauge_notices (s : State) (k : Colour) (g : Gauge) : (s.setGauge k g).notices = s.notices := rfl
@[simp] theorem State.setGauge_path (s : State) (k : Colour) (g : Gauge) : (s.setGauge k g).path = s.path := rfl
@[simp] theorem State.setGauge_windows (s : State) (k : Colour) (g : Gauge) : (s.setGauge k g).windows = s.windows := rfl
@[simp] theorem State.setGauge_keys (s : State) (k : Colour) (g : Gauge) : (s.setGauge k g).keys = s.keys := rfl
@[simp] theorem State.setGauge_tids (s : State) (k : Colour) (g : Gauge) : (s.setGauge k g).tids = s.tids := rfl
@[simp] theorem State.setGauge_pwq (s : State) (k : Colour) (g : Gauge) : (s.setGauge k g).pwq = s.pwq := rfl
@[simp] theorem State.setGauge_tracker (s : State) (k : Colour) (g : Gauge) : (s.setGauge k g).tracker = s.tracker := rfl
@[simp] theorem State.setGauge_hits (s : State) (k : Colour) (g : Gauge) : (s.setGauge k g).hits = s.hits := rfl
@[simp] theorem State.setGauge_flushes (s : State) (k : Colour) (g : Gauge) : (s.setGauge k g).flushes = s.flushes := rfl
@[simp] theorem State.setGauge_lines (s : State) (k : Colour) (g : Gauge) : (s.setGauge k g).lines = s.lines := rfl
@[simp] theorem State.setGauge_mem (s : State) (k : Colour) (g : Gauge) : (s.setGauge k g).mem = s.mem := rfl
@[simp] theorem State.setGauge_pages (s : State) (k : Colour) (g : Gauge) : (s.setGauge k g).pages = s.pages := rfl
@[simp] theorem State.setGauge_nextPage (s : State) (k : Colour) (g : Gauge) : (s.setGauge k g).nextPage = s.nextPage := rfl
@[simp] theorem State.setGauge_accounts (s : State) (k : Colour) (g : Gauge) : (s.setGauge k g).accounts = s.accounts := rfl
@[simp] theorem State.setGauge_meter (s : State) (k : Colour) (g : Gauge) : (s.setGauge k g).meter = s.meter := rfl
@[simp] theorem State.setGauge_commit (s : State) (k : Colour) (g : Gauge) : (s.setGauge k g).commit = s.commit := rfl
@[simp] theorem State.setGauge_slots (s : State) (k : Colour) (g : Gauge) : (s.setGauge k g).slots = s.slots := rfl
@[simp] theorem State.setGauge_carry (s : State) (k : Colour) (g : Gauge) : (s.setGauge k g).carry = s.carry := rfl
@[simp] theorem State.setGauge_scrub (s : State) (k : Colour) (g : Gauge) : (s.setGauge k g).scrub = s.scrub := rfl

@[simp] theorem State.setLine_pending (s : State) (i : Fin 8) (l : Option Line) : (s.setLine i l).pending = s.pending := rfl
@[simp] theorem State.setLine_seq (s : State) (i : Fin 8) (l : Option Line) : (s.setLine i l).seq = s.seq := rfl
@[simp] theorem State.setLine_draws (s : State) (i : Fin 8) (l : Option Line) : (s.setLine i l).draws = s.draws := rfl
@[simp] theorem State.setLine_outbox (s : State) (i : Fin 8) (l : Option Line) : (s.setLine i l).outbox = s.outbox := rfl
@[simp] theorem State.setLine_emitted (s : State) (i : Fin 8) (l : Option Line) : (s.setLine i l).emitted = s.emitted := rfl
@[simp] theorem State.setLine_powered (s : State) (i : Fin 8) (l : Option Line) : (s.setLine i l).powered = s.powered := rfl
@[simp] theorem State.setLine_pins (s : State) (i : Fin 8) (l : Option Line) : (s.setLine i l).pins = s.pins := rfl
@[simp] theorem State.setLine_nv (s : State) (i : Fin 8) (l : Option Line) : (s.setLine i l).nv = s.nv := rfl
@[simp] theorem State.setLine_power (s : State) (i : Fin 8) (l : Option Line) : (s.setLine i l).power = s.power := rfl
@[simp] theorem State.setLine_wakeReset (s : State) (i : Fin 8) (l : Option Line) : (s.setLine i l).wakeReset = s.wakeReset := rfl
@[simp] theorem State.setLine_resetRec (s : State) (i : Fin 8) (l : Option Line) : (s.setLine i l).resetRec = s.resetRec := rfl
@[simp] theorem State.setLine_settings (s : State) (i : Fin 8) (l : Option Line) : (s.setLine i l).settings = s.settings := rfl
@[simp] theorem State.setLine_loadResult (s : State) (i : Fin 8) (l : Option Line) : (s.setLine i l).loadResult = s.loadResult := rfl
@[simp] theorem State.setLine_held (s : State) (i : Fin 8) (l : Option Line) : (s.setLine i l).held = s.held := rfl
@[simp] theorem State.setLine_awaiting (s : State) (i : Fin 8) (l : Option Line) : (s.setLine i l).awaiting = s.awaiting := rfl
@[simp] theorem State.setLine_notices (s : State) (i : Fin 8) (l : Option Line) : (s.setLine i l).notices = s.notices := rfl
@[simp] theorem State.setLine_path (s : State) (i : Fin 8) (l : Option Line) : (s.setLine i l).path = s.path := rfl
@[simp] theorem State.setLine_windows (s : State) (i : Fin 8) (l : Option Line) : (s.setLine i l).windows = s.windows := rfl
@[simp] theorem State.setLine_keys (s : State) (i : Fin 8) (l : Option Line) : (s.setLine i l).keys = s.keys := rfl
@[simp] theorem State.setLine_tids (s : State) (i : Fin 8) (l : Option Line) : (s.setLine i l).tids = s.tids := rfl
@[simp] theorem State.setLine_pwq (s : State) (i : Fin 8) (l : Option Line) : (s.setLine i l).pwq = s.pwq := rfl
@[simp] theorem State.setLine_tracker (s : State) (i : Fin 8) (l : Option Line) : (s.setLine i l).tracker = s.tracker := rfl
@[simp] theorem State.setLine_hits (s : State) (i : Fin 8) (l : Option Line) : (s.setLine i l).hits = s.hits := rfl
@[simp] theorem State.setLine_flushes (s : State) (i : Fin 8) (l : Option Line) : (s.setLine i l).flushes = s.flushes := rfl
@[simp] theorem State.setLine_mem (s : State) (i : Fin 8) (l : Option Line) : (s.setLine i l).mem = s.mem := rfl
@[simp] theorem State.setLine_pages (s : State) (i : Fin 8) (l : Option Line) : (s.setLine i l).pages = s.pages := rfl
@[simp] theorem State.setLine_nextPage (s : State) (i : Fin 8) (l : Option Line) : (s.setLine i l).nextPage = s.nextPage := rfl
@[simp] theorem State.setLine_accounts (s : State) (i : Fin 8) (l : Option Line) : (s.setLine i l).accounts = s.accounts := rfl
@[simp] theorem State.setLine_meter (s : State) (i : Fin 8) (l : Option Line) : (s.setLine i l).meter = s.meter := rfl
@[simp] theorem State.setLine_commit (s : State) (i : Fin 8) (l : Option Line) : (s.setLine i l).commit = s.commit := rfl
@[simp] theorem State.setLine_slots (s : State) (i : Fin 8) (l : Option Line) : (s.setLine i l).slots = s.slots := rfl
@[simp] theorem State.setLine_gauges (s : State) (i : Fin 8) (l : Option Line) : (s.setLine i l).gauges = s.gauges := rfl
@[simp] theorem State.setLine_carry (s : State) (i : Fin 8) (l : Option Line) : (s.setLine i l).carry = s.carry := rfl
@[simp] theorem State.setLine_scrub (s : State) (i : Fin 8) (l : Option Line) : (s.setLine i l).scrub = s.scrub := rfl

@[simp] theorem State.setMemTid_pending (s : State) (t : MemTid) (x : TidState) : (s.setMemTid t x).pending = s.pending := rfl
@[simp] theorem State.setMemTid_seq (s : State) (t : MemTid) (x : TidState) : (s.setMemTid t x).seq = s.seq := rfl
@[simp] theorem State.setMemTid_draws (s : State) (t : MemTid) (x : TidState) : (s.setMemTid t x).draws = s.draws := rfl
@[simp] theorem State.setMemTid_outbox (s : State) (t : MemTid) (x : TidState) : (s.setMemTid t x).outbox = s.outbox := rfl
@[simp] theorem State.setMemTid_emitted (s : State) (t : MemTid) (x : TidState) : (s.setMemTid t x).emitted = s.emitted := rfl
@[simp] theorem State.setMemTid_powered (s : State) (t : MemTid) (x : TidState) : (s.setMemTid t x).powered = s.powered := rfl
@[simp] theorem State.setMemTid_pins (s : State) (t : MemTid) (x : TidState) : (s.setMemTid t x).pins = s.pins := rfl
@[simp] theorem State.setMemTid_nv (s : State) (t : MemTid) (x : TidState) : (s.setMemTid t x).nv = s.nv := rfl
@[simp] theorem State.setMemTid_power (s : State) (t : MemTid) (x : TidState) : (s.setMemTid t x).power = s.power := rfl
@[simp] theorem State.setMemTid_wakeReset (s : State) (t : MemTid) (x : TidState) : (s.setMemTid t x).wakeReset = s.wakeReset := rfl
@[simp] theorem State.setMemTid_resetRec (s : State) (t : MemTid) (x : TidState) : (s.setMemTid t x).resetRec = s.resetRec := rfl
@[simp] theorem State.setMemTid_settings (s : State) (t : MemTid) (x : TidState) : (s.setMemTid t x).settings = s.settings := rfl
@[simp] theorem State.setMemTid_loadResult (s : State) (t : MemTid) (x : TidState) : (s.setMemTid t x).loadResult = s.loadResult := rfl
@[simp] theorem State.setMemTid_held (s : State) (t : MemTid) (x : TidState) : (s.setMemTid t x).held = s.held := rfl
@[simp] theorem State.setMemTid_awaiting (s : State) (t : MemTid) (x : TidState) : (s.setMemTid t x).awaiting = s.awaiting := rfl
@[simp] theorem State.setMemTid_notices (s : State) (t : MemTid) (x : TidState) : (s.setMemTid t x).notices = s.notices := rfl
@[simp] theorem State.setMemTid_path (s : State) (t : MemTid) (x : TidState) : (s.setMemTid t x).path = s.path := rfl
@[simp] theorem State.setMemTid_windows (s : State) (t : MemTid) (x : TidState) : (s.setMemTid t x).windows = s.windows := rfl
@[simp] theorem State.setMemTid_keys (s : State) (t : MemTid) (x : TidState) : (s.setMemTid t x).keys = s.keys := rfl
@[simp] theorem State.setMemTid_tids (s : State) (t : MemTid) (x : TidState) : (s.setMemTid t x).tids = s.tids := rfl
@[simp] theorem State.setMemTid_pwq (s : State) (t : MemTid) (x : TidState) : (s.setMemTid t x).pwq = s.pwq := rfl
@[simp] theorem State.setMemTid_tracker (s : State) (t : MemTid) (x : TidState) : (s.setMemTid t x).tracker = s.tracker := rfl
@[simp] theorem State.setMemTid_hits (s : State) (t : MemTid) (x : TidState) : (s.setMemTid t x).hits = s.hits := rfl
@[simp] theorem State.setMemTid_flushes (s : State) (t : MemTid) (x : TidState) : (s.setMemTid t x).flushes = s.flushes := rfl
@[simp] theorem State.setMemTid_lines (s : State) (t : MemTid) (x : TidState) : (s.setMemTid t x).lines = s.lines := rfl
@[simp] theorem State.setMemTid_pages (s : State) (t : MemTid) (x : TidState) : (s.setMemTid t x).pages = s.pages := rfl
@[simp] theorem State.setMemTid_nextPage (s : State) (t : MemTid) (x : TidState) : (s.setMemTid t x).nextPage = s.nextPage := rfl
@[simp] theorem State.setMemTid_accounts (s : State) (t : MemTid) (x : TidState) : (s.setMemTid t x).accounts = s.accounts := rfl
@[simp] theorem State.setMemTid_meter (s : State) (t : MemTid) (x : TidState) : (s.setMemTid t x).meter = s.meter := rfl
@[simp] theorem State.setMemTid_commit (s : State) (t : MemTid) (x : TidState) : (s.setMemTid t x).commit = s.commit := rfl
@[simp] theorem State.setMemTid_slots (s : State) (t : MemTid) (x : TidState) : (s.setMemTid t x).slots = s.slots := rfl
@[simp] theorem State.setMemTid_gauges (s : State) (t : MemTid) (x : TidState) : (s.setMemTid t x).gauges = s.gauges := rfl
@[simp] theorem State.setMemTid_carry (s : State) (t : MemTid) (x : TidState) : (s.setMemTid t x).carry = s.carry := rfl
@[simp] theorem State.setMemTid_scrub (s : State) (t : MemTid) (x : TidState) : (s.setMemTid t x).scrub = s.scrub := rfl

@[simp] theorem State.setChan_pending (s : State) (c : ChannelId) (x : Channel) : (s.setChan c x).pending = s.pending := rfl
@[simp] theorem State.setChan_seq (s : State) (c : ChannelId) (x : Channel) : (s.setChan c x).seq = s.seq := rfl
@[simp] theorem State.setChan_draws (s : State) (c : ChannelId) (x : Channel) : (s.setChan c x).draws = s.draws := rfl
@[simp] theorem State.setChan_outbox (s : State) (c : ChannelId) (x : Channel) : (s.setChan c x).outbox = s.outbox := rfl
@[simp] theorem State.setChan_emitted (s : State) (c : ChannelId) (x : Channel) : (s.setChan c x).emitted = s.emitted := rfl
@[simp] theorem State.setChan_powered (s : State) (c : ChannelId) (x : Channel) : (s.setChan c x).powered = s.powered := rfl
@[simp] theorem State.setChan_pins (s : State) (c : ChannelId) (x : Channel) : (s.setChan c x).pins = s.pins := rfl
@[simp] theorem State.setChan_nv (s : State) (c : ChannelId) (x : Channel) : (s.setChan c x).nv = s.nv := rfl
@[simp] theorem State.setChan_power (s : State) (c : ChannelId) (x : Channel) : (s.setChan c x).power = s.power := rfl
@[simp] theorem State.setChan_wakeReset (s : State) (c : ChannelId) (x : Channel) : (s.setChan c x).wakeReset = s.wakeReset := rfl
@[simp] theorem State.setChan_resetRec (s : State) (c : ChannelId) (x : Channel) : (s.setChan c x).resetRec = s.resetRec := rfl
@[simp] theorem State.setChan_settings (s : State) (c : ChannelId) (x : Channel) : (s.setChan c x).settings = s.settings := rfl
@[simp] theorem State.setChan_loadResult (s : State) (c : ChannelId) (x : Channel) : (s.setChan c x).loadResult = s.loadResult := rfl
@[simp] theorem State.setChan_held (s : State) (c : ChannelId) (x : Channel) : (s.setChan c x).held = s.held := rfl
@[simp] theorem State.setChan_awaiting (s : State) (c : ChannelId) (x : Channel) : (s.setChan c x).awaiting = s.awaiting := rfl
@[simp] theorem State.setChan_notices (s : State) (c : ChannelId) (x : Channel) : (s.setChan c x).notices = s.notices := rfl
@[simp] theorem State.setChan_path (s : State) (c : ChannelId) (x : Channel) : (s.setChan c x).path = s.path := rfl
@[simp] theorem State.setChan_windows (s : State) (c : ChannelId) (x : Channel) : (s.setChan c x).windows = s.windows := rfl
@[simp] theorem State.setChan_keys (s : State) (c : ChannelId) (x : Channel) : (s.setChan c x).keys = s.keys := rfl
@[simp] theorem State.setChan_tids (s : State) (c : ChannelId) (x : Channel) : (s.setChan c x).tids = s.tids := rfl
@[simp] theorem State.setChan_pwq (s : State) (c : ChannelId) (x : Channel) : (s.setChan c x).pwq = s.pwq := rfl
@[simp] theorem State.setChan_tracker (s : State) (c : ChannelId) (x : Channel) : (s.setChan c x).tracker = s.tracker := rfl
@[simp] theorem State.setChan_hits (s : State) (c : ChannelId) (x : Channel) : (s.setChan c x).hits = s.hits := rfl
@[simp] theorem State.setChan_flushes (s : State) (c : ChannelId) (x : Channel) : (s.setChan c x).flushes = s.flushes := rfl
@[simp] theorem State.setChan_lines (s : State) (c : ChannelId) (x : Channel) : (s.setChan c x).lines = s.lines := rfl
@[simp] theorem State.setChan_pages (s : State) (c : ChannelId) (x : Channel) : (s.setChan c x).pages = s.pages := rfl
@[simp] theorem State.setChan_nextPage (s : State) (c : ChannelId) (x : Channel) : (s.setChan c x).nextPage = s.nextPage := rfl
@[simp] theorem State.setChan_accounts (s : State) (c : ChannelId) (x : Channel) : (s.setChan c x).accounts = s.accounts := rfl
@[simp] theorem State.setChan_meter (s : State) (c : ChannelId) (x : Channel) : (s.setChan c x).meter = s.meter := rfl
@[simp] theorem State.setChan_commit (s : State) (c : ChannelId) (x : Channel) : (s.setChan c x).commit = s.commit := rfl
@[simp] theorem State.setChan_slots (s : State) (c : ChannelId) (x : Channel) : (s.setChan c x).slots = s.slots := rfl
@[simp] theorem State.setChan_gauges (s : State) (c : ChannelId) (x : Channel) : (s.setChan c x).gauges = s.gauges := rfl
@[simp] theorem State.setChan_carry (s : State) (c : ChannelId) (x : Channel) : (s.setChan c x).carry = s.carry := rfl

@[simp] theorem State.emit_pending (s : State) (e : Emission) : (s.emit e).pending = s.pending := rfl
@[simp] theorem State.emit_seq (s : State) (e : Emission) : (s.emit e).seq = s.seq := rfl
@[simp] theorem State.emit_draws (s : State) (e : Emission) : (s.emit e).draws = s.draws := rfl
@[simp] theorem State.emit_outbox (s : State) (e : Emission) : (s.emit e).outbox = s.outbox := rfl
@[simp] theorem State.emit_powered (s : State) (e : Emission) : (s.emit e).powered = s.powered := rfl
@[simp] theorem State.emit_pins (s : State) (e : Emission) : (s.emit e).pins = s.pins := rfl
@[simp] theorem State.emit_nv (s : State) (e : Emission) : (s.emit e).nv = s.nv := rfl
@[simp] theorem State.emit_power (s : State) (e : Emission) : (s.emit e).power = s.power := rfl
@[simp] theorem State.emit_wakeReset (s : State) (e : Emission) : (s.emit e).wakeReset = s.wakeReset := rfl
@[simp] theorem State.emit_resetRec (s : State) (e : Emission) : (s.emit e).resetRec = s.resetRec := rfl
@[simp] theorem State.emit_settings (s : State) (e : Emission) : (s.emit e).settings = s.settings := rfl
@[simp] theorem State.emit_loadResult (s : State) (e : Emission) : (s.emit e).loadResult = s.loadResult := rfl
@[simp] theorem State.emit_held (s : State) (e : Emission) : (s.emit e).held = s.held := rfl
@[simp] theorem State.emit_awaiting (s : State) (e : Emission) : (s.emit e).awaiting = s.awaiting := rfl
@[simp] theorem State.emit_notices (s : State) (e : Emission) : (s.emit e).notices = s.notices := rfl
@[simp] theorem State.emit_path (s : State) (e : Emission) : (s.emit e).path = s.path := rfl
@[simp] theorem State.emit_windows (s : State) (e : Emission) : (s.emit e).windows = s.windows := rfl
@[simp] theorem State.emit_keys (s : State) (e : Emission) : (s.emit e).keys = s.keys := rfl
@[simp] theorem State.emit_tids (s : State) (e : Emission) : (s.emit e).tids = s.tids := rfl
@[simp] theorem State.emit_pwq (s : State) (e : Emission) : (s.emit e).pwq = s.pwq := rfl
@[simp] theorem State.emit_tracker (s : State) (e : Emission) : (s.emit e).tracker = s.tracker := rfl
@[simp] theorem State.emit_hits (s : State) (e : Emission) : (s.emit e).hits = s.hits := rfl
@[simp] theorem State.emit_flushes (s : State) (e : Emission) : (s.emit e).flushes = s.flushes := rfl
@[simp] theorem State.emit_lines (s : State) (e : Emission) : (s.emit e).lines = s.lines := rfl
@[simp] theorem State.emit_mem (s : State) (e : Emission) : (s.emit e).mem = s.mem := rfl
@[simp] theorem State.emit_pages (s : State) (e : Emission) : (s.emit e).pages = s.pages := rfl
@[simp] theorem State.emit_nextPage (s : State) (e : Emission) : (s.emit e).nextPage = s.nextPage := rfl
@[simp] theorem State.emit_accounts (s : State) (e : Emission) : (s.emit e).accounts = s.accounts := rfl
@[simp] theorem State.emit_meter (s : State) (e : Emission) : (s.emit e).meter = s.meter := rfl
@[simp] theorem State.emit_commit (s : State) (e : Emission) : (s.emit e).commit = s.commit := rfl
@[simp] theorem State.emit_slots (s : State) (e : Emission) : (s.emit e).slots = s.slots := rfl
@[simp] theorem State.emit_gauges (s : State) (e : Emission) : (s.emit e).gauges = s.gauges := rfl
@[simp] theorem State.emit_carry (s : State) (e : Emission) : (s.emit e).carry = s.carry := rfl
@[simp] theorem State.emit_scrub (s : State) (e : Emission) : (s.emit e).scrub = s.scrub := rfl

@[simp] theorem State.note_pending (s : State) (n : Notice) : (s.note n).pending = s.pending := rfl
@[simp] theorem State.note_seq (s : State) (n : Notice) : (s.note n).seq = s.seq := rfl
@[simp] theorem State.note_draws (s : State) (n : Notice) : (s.note n).draws = s.draws := rfl
@[simp] theorem State.note_emitted (s : State) (n : Notice) : (s.note n).emitted = s.emitted := rfl
@[simp] theorem State.note_powered (s : State) (n : Notice) : (s.note n).powered = s.powered := rfl
@[simp] theorem State.note_pins (s : State) (n : Notice) : (s.note n).pins = s.pins := rfl
@[simp] theorem State.note_nv (s : State) (n : Notice) : (s.note n).nv = s.nv := rfl
@[simp] theorem State.note_power (s : State) (n : Notice) : (s.note n).power = s.power := rfl
@[simp] theorem State.note_wakeReset (s : State) (n : Notice) : (s.note n).wakeReset = s.wakeReset := rfl
@[simp] theorem State.note_resetRec (s : State) (n : Notice) : (s.note n).resetRec = s.resetRec := rfl
@[simp] theorem State.note_settings (s : State) (n : Notice) : (s.note n).settings = s.settings := rfl
@[simp] theorem State.note_loadResult (s : State) (n : Notice) : (s.note n).loadResult = s.loadResult := rfl
@[simp] theorem State.note_held (s : State) (n : Notice) : (s.note n).held = s.held := rfl
@[simp] theorem State.note_awaiting (s : State) (n : Notice) : (s.note n).awaiting = s.awaiting := rfl
@[simp] theorem State.note_notices (s : State) (n : Notice) : (s.note n).notices = s.notices := rfl
@[simp] theorem State.note_path (s : State) (n : Notice) : (s.note n).path = s.path := rfl
@[simp] theorem State.note_windows (s : State) (n : Notice) : (s.note n).windows = s.windows := rfl
@[simp] theorem State.note_keys (s : State) (n : Notice) : (s.note n).keys = s.keys := rfl
@[simp] theorem State.note_tids (s : State) (n : Notice) : (s.note n).tids = s.tids := rfl
@[simp] theorem State.note_pwq (s : State) (n : Notice) : (s.note n).pwq = s.pwq := rfl
@[simp] theorem State.note_tracker (s : State) (n : Notice) : (s.note n).tracker = s.tracker := rfl
@[simp] theorem State.note_hits (s : State) (n : Notice) : (s.note n).hits = s.hits := rfl
@[simp] theorem State.note_flushes (s : State) (n : Notice) : (s.note n).flushes = s.flushes := rfl
@[simp] theorem State.note_lines (s : State) (n : Notice) : (s.note n).lines = s.lines := rfl
@[simp] theorem State.note_mem (s : State) (n : Notice) : (s.note n).mem = s.mem := rfl
@[simp] theorem State.note_pages (s : State) (n : Notice) : (s.note n).pages = s.pages := rfl
@[simp] theorem State.note_nextPage (s : State) (n : Notice) : (s.note n).nextPage = s.nextPage := rfl
@[simp] theorem State.note_accounts (s : State) (n : Notice) : (s.note n).accounts = s.accounts := rfl
@[simp] theorem State.note_meter (s : State) (n : Notice) : (s.note n).meter = s.meter := rfl
@[simp] theorem State.note_commit (s : State) (n : Notice) : (s.note n).commit = s.commit := rfl
@[simp] theorem State.note_slots (s : State) (n : Notice) : (s.note n).slots = s.slots := rfl
@[simp] theorem State.note_gauges (s : State) (n : Notice) : (s.note n).gauges = s.gauges := rfl
@[simp] theorem State.note_carry (s : State) (n : Notice) : (s.note n).carry = s.carry := rfl
@[simp] theorem State.note_scrub (s : State) (n : Notice) : (s.note n).scrub = s.scrub := rfl

@[simp] theorem State.noteDropped_pending (s : State) (e : CarryEntry) : (s.noteDropped e).pending = s.pending := rfl
@[simp] theorem State.noteDropped_seq (s : State) (e : CarryEntry) : (s.noteDropped e).seq = s.seq := rfl
@[simp] theorem State.noteDropped_draws (s : State) (e : CarryEntry) : (s.noteDropped e).draws = s.draws := rfl
@[simp] theorem State.noteDropped_emitted (s : State) (e : CarryEntry) : (s.noteDropped e).emitted = s.emitted := rfl
@[simp] theorem State.noteDropped_powered (s : State) (e : CarryEntry) : (s.noteDropped e).powered = s.powered := rfl
@[simp] theorem State.noteDropped_pins (s : State) (e : CarryEntry) : (s.noteDropped e).pins = s.pins := rfl
@[simp] theorem State.noteDropped_nv (s : State) (e : CarryEntry) : (s.noteDropped e).nv = s.nv := rfl
@[simp] theorem State.noteDropped_power (s : State) (e : CarryEntry) : (s.noteDropped e).power = s.power := rfl
@[simp] theorem State.noteDropped_wakeReset (s : State) (e : CarryEntry) : (s.noteDropped e).wakeReset = s.wakeReset := rfl
@[simp] theorem State.noteDropped_resetRec (s : State) (e : CarryEntry) : (s.noteDropped e).resetRec = s.resetRec := rfl
@[simp] theorem State.noteDropped_settings (s : State) (e : CarryEntry) : (s.noteDropped e).settings = s.settings := rfl
@[simp] theorem State.noteDropped_loadResult (s : State) (e : CarryEntry) : (s.noteDropped e).loadResult = s.loadResult := rfl
@[simp] theorem State.noteDropped_held (s : State) (e : CarryEntry) : (s.noteDropped e).held = s.held := rfl
@[simp] theorem State.noteDropped_awaiting (s : State) (e : CarryEntry) : (s.noteDropped e).awaiting = s.awaiting := rfl
@[simp] theorem State.noteDropped_notices (s : State) (e : CarryEntry) : (s.noteDropped e).notices = s.notices := rfl
@[simp] theorem State.noteDropped_path (s : State) (e : CarryEntry) : (s.noteDropped e).path = s.path := rfl
@[simp] theorem State.noteDropped_windows (s : State) (e : CarryEntry) : (s.noteDropped e).windows = s.windows := rfl
@[simp] theorem State.noteDropped_keys (s : State) (e : CarryEntry) : (s.noteDropped e).keys = s.keys := rfl
@[simp] theorem State.noteDropped_tids (s : State) (e : CarryEntry) : (s.noteDropped e).tids = s.tids := rfl
@[simp] theorem State.noteDropped_pwq (s : State) (e : CarryEntry) : (s.noteDropped e).pwq = s.pwq := rfl
@[simp] theorem State.noteDropped_tracker (s : State) (e : CarryEntry) : (s.noteDropped e).tracker = s.tracker := rfl
@[simp] theorem State.noteDropped_hits (s : State) (e : CarryEntry) : (s.noteDropped e).hits = s.hits := rfl
@[simp] theorem State.noteDropped_flushes (s : State) (e : CarryEntry) : (s.noteDropped e).flushes = s.flushes := rfl
@[simp] theorem State.noteDropped_lines (s : State) (e : CarryEntry) : (s.noteDropped e).lines = s.lines := rfl
@[simp] theorem State.noteDropped_mem (s : State) (e : CarryEntry) : (s.noteDropped e).mem = s.mem := rfl
@[simp] theorem State.noteDropped_pages (s : State) (e : CarryEntry) : (s.noteDropped e).pages = s.pages := rfl
@[simp] theorem State.noteDropped_nextPage (s : State) (e : CarryEntry) : (s.noteDropped e).nextPage = s.nextPage := rfl
@[simp] theorem State.noteDropped_accounts (s : State) (e : CarryEntry) : (s.noteDropped e).accounts = s.accounts := rfl
@[simp] theorem State.noteDropped_meter (s : State) (e : CarryEntry) : (s.noteDropped e).meter = s.meter := rfl
@[simp] theorem State.noteDropped_commit (s : State) (e : CarryEntry) : (s.noteDropped e).commit = s.commit := rfl
@[simp] theorem State.noteDropped_slots (s : State) (e : CarryEntry) : (s.noteDropped e).slots = s.slots := rfl
@[simp] theorem State.noteDropped_gauges (s : State) (e : CarryEntry) : (s.noteDropped e).gauges = s.gauges := rfl
@[simp] theorem State.noteDropped_carry (s : State) (e : CarryEntry) : (s.noteDropped e).carry = s.carry := rfl
@[simp] theorem State.noteDropped_scrub (s : State) (e : CarryEntry) : (s.noteDropped e).scrub = s.scrub := rfl

@[simp] theorem State.respond_pending (s : State) (b : BitVec 3) (t : Tid) (x : SysStatus) : (s.respond b t x).pending = s.pending := rfl
@[simp] theorem State.respond_seq (s : State) (b : BitVec 3) (t : Tid) (x : SysStatus) : (s.respond b t x).seq = s.seq := rfl
@[simp] theorem State.respond_draws (s : State) (b : BitVec 3) (t : Tid) (x : SysStatus) : (s.respond b t x).draws = s.draws := rfl
@[simp] theorem State.respond_outbox (s : State) (b : BitVec 3) (t : Tid) (x : SysStatus) : (s.respond b t x).outbox = s.outbox := rfl
@[simp] theorem State.respond_powered (s : State) (b : BitVec 3) (t : Tid) (x : SysStatus) : (s.respond b t x).powered = s.powered := rfl
@[simp] theorem State.respond_pins (s : State) (b : BitVec 3) (t : Tid) (x : SysStatus) : (s.respond b t x).pins = s.pins := rfl
@[simp] theorem State.respond_nv (s : State) (b : BitVec 3) (t : Tid) (x : SysStatus) : (s.respond b t x).nv = s.nv := rfl
@[simp] theorem State.respond_power (s : State) (b : BitVec 3) (t : Tid) (x : SysStatus) : (s.respond b t x).power = s.power := rfl
@[simp] theorem State.respond_wakeReset (s : State) (b : BitVec 3) (t : Tid) (x : SysStatus) : (s.respond b t x).wakeReset = s.wakeReset := rfl
@[simp] theorem State.respond_resetRec (s : State) (b : BitVec 3) (t : Tid) (x : SysStatus) : (s.respond b t x).resetRec = s.resetRec := rfl
@[simp] theorem State.respond_settings (s : State) (b : BitVec 3) (t : Tid) (x : SysStatus) : (s.respond b t x).settings = s.settings := rfl
@[simp] theorem State.respond_loadResult (s : State) (b : BitVec 3) (t : Tid) (x : SysStatus) : (s.respond b t x).loadResult = s.loadResult := rfl
@[simp] theorem State.respond_held (s : State) (b : BitVec 3) (t : Tid) (x : SysStatus) : (s.respond b t x).held = s.held := rfl
@[simp] theorem State.respond_awaiting (s : State) (b : BitVec 3) (t : Tid) (x : SysStatus) : (s.respond b t x).awaiting = s.awaiting := rfl
@[simp] theorem State.respond_notices (s : State) (b : BitVec 3) (t : Tid) (x : SysStatus) : (s.respond b t x).notices = s.notices := rfl
@[simp] theorem State.respond_path (s : State) (b : BitVec 3) (t : Tid) (x : SysStatus) : (s.respond b t x).path = s.path := rfl
@[simp] theorem State.respond_windows (s : State) (b : BitVec 3) (t : Tid) (x : SysStatus) : (s.respond b t x).windows = s.windows := rfl
@[simp] theorem State.respond_keys (s : State) (b : BitVec 3) (t : Tid) (x : SysStatus) : (s.respond b t x).keys = s.keys := rfl
@[simp] theorem State.respond_tids (s : State) (b : BitVec 3) (t : Tid) (x : SysStatus) : (s.respond b t x).tids = s.tids := rfl
@[simp] theorem State.respond_pwq (s : State) (b : BitVec 3) (t : Tid) (x : SysStatus) : (s.respond b t x).pwq = s.pwq := rfl
@[simp] theorem State.respond_tracker (s : State) (b : BitVec 3) (t : Tid) (x : SysStatus) : (s.respond b t x).tracker = s.tracker := rfl
@[simp] theorem State.respond_hits (s : State) (b : BitVec 3) (t : Tid) (x : SysStatus) : (s.respond b t x).hits = s.hits := rfl
@[simp] theorem State.respond_flushes (s : State) (b : BitVec 3) (t : Tid) (x : SysStatus) : (s.respond b t x).flushes = s.flushes := rfl
@[simp] theorem State.respond_lines (s : State) (b : BitVec 3) (t : Tid) (x : SysStatus) : (s.respond b t x).lines = s.lines := rfl
@[simp] theorem State.respond_mem (s : State) (b : BitVec 3) (t : Tid) (x : SysStatus) : (s.respond b t x).mem = s.mem := rfl
@[simp] theorem State.respond_pages (s : State) (b : BitVec 3) (t : Tid) (x : SysStatus) : (s.respond b t x).pages = s.pages := rfl
@[simp] theorem State.respond_nextPage (s : State) (b : BitVec 3) (t : Tid) (x : SysStatus) : (s.respond b t x).nextPage = s.nextPage := rfl
@[simp] theorem State.respond_accounts (s : State) (b : BitVec 3) (t : Tid) (x : SysStatus) : (s.respond b t x).accounts = s.accounts := rfl
@[simp] theorem State.respond_meter (s : State) (b : BitVec 3) (t : Tid) (x : SysStatus) : (s.respond b t x).meter = s.meter := rfl
@[simp] theorem State.respond_commit (s : State) (b : BitVec 3) (t : Tid) (x : SysStatus) : (s.respond b t x).commit = s.commit := rfl
@[simp] theorem State.respond_slots (s : State) (b : BitVec 3) (t : Tid) (x : SysStatus) : (s.respond b t x).slots = s.slots := rfl
@[simp] theorem State.respond_gauges (s : State) (b : BitVec 3) (t : Tid) (x : SysStatus) : (s.respond b t x).gauges = s.gauges := rfl
@[simp] theorem State.respond_carry (s : State) (b : BitVec 3) (t : Tid) (x : SysStatus) : (s.respond b t x).carry = s.carry := rfl
@[simp] theorem State.respond_scrub (s : State) (b : BitVec 3) (t : Tid) (x : SysStatus) : (s.respond b t x).scrub = s.scrub := rfl

@[simp] theorem State.takeTid_pending (s : State) (b : Source) (t : Tid) : (s.takeTid b t).pending = s.pending := rfl
@[simp] theorem State.takeTid_seq (s : State) (b : Source) (t : Tid) : (s.takeTid b t).seq = s.seq := rfl
@[simp] theorem State.takeTid_draws (s : State) (b : Source) (t : Tid) : (s.takeTid b t).draws = s.draws := rfl
@[simp] theorem State.takeTid_outbox (s : State) (b : Source) (t : Tid) : (s.takeTid b t).outbox = s.outbox := rfl
@[simp] theorem State.takeTid_emitted (s : State) (b : Source) (t : Tid) : (s.takeTid b t).emitted = s.emitted := rfl
@[simp] theorem State.takeTid_powered (s : State) (b : Source) (t : Tid) : (s.takeTid b t).powered = s.powered := rfl
@[simp] theorem State.takeTid_pins (s : State) (b : Source) (t : Tid) : (s.takeTid b t).pins = s.pins := rfl
@[simp] theorem State.takeTid_nv (s : State) (b : Source) (t : Tid) : (s.takeTid b t).nv = s.nv := rfl
@[simp] theorem State.takeTid_power (s : State) (b : Source) (t : Tid) : (s.takeTid b t).power = s.power := rfl
@[simp] theorem State.takeTid_wakeReset (s : State) (b : Source) (t : Tid) : (s.takeTid b t).wakeReset = s.wakeReset := rfl
@[simp] theorem State.takeTid_resetRec (s : State) (b : Source) (t : Tid) : (s.takeTid b t).resetRec = s.resetRec := rfl
@[simp] theorem State.takeTid_settings (s : State) (b : Source) (t : Tid) : (s.takeTid b t).settings = s.settings := rfl
@[simp] theorem State.takeTid_loadResult (s : State) (b : Source) (t : Tid) : (s.takeTid b t).loadResult = s.loadResult := rfl
@[simp] theorem State.takeTid_held (s : State) (b : Source) (t : Tid) : (s.takeTid b t).held = s.held := rfl
@[simp] theorem State.takeTid_awaiting (s : State) (b : Source) (t : Tid) : (s.takeTid b t).awaiting = s.awaiting := rfl
@[simp] theorem State.takeTid_notices (s : State) (b : Source) (t : Tid) : (s.takeTid b t).notices = s.notices := rfl
@[simp] theorem State.takeTid_path (s : State) (b : Source) (t : Tid) : (s.takeTid b t).path = s.path := rfl
@[simp] theorem State.takeTid_windows (s : State) (b : Source) (t : Tid) : (s.takeTid b t).windows = s.windows := rfl
@[simp] theorem State.takeTid_keys (s : State) (b : Source) (t : Tid) : (s.takeTid b t).keys = s.keys := rfl
@[simp] theorem State.takeTid_pwq (s : State) (b : Source) (t : Tid) : (s.takeTid b t).pwq = s.pwq := rfl
@[simp] theorem State.takeTid_tracker (s : State) (b : Source) (t : Tid) : (s.takeTid b t).tracker = s.tracker := rfl
@[simp] theorem State.takeTid_hits (s : State) (b : Source) (t : Tid) : (s.takeTid b t).hits = s.hits := rfl
@[simp] theorem State.takeTid_flushes (s : State) (b : Source) (t : Tid) : (s.takeTid b t).flushes = s.flushes := rfl
@[simp] theorem State.takeTid_lines (s : State) (b : Source) (t : Tid) : (s.takeTid b t).lines = s.lines := rfl
@[simp] theorem State.takeTid_mem (s : State) (b : Source) (t : Tid) : (s.takeTid b t).mem = s.mem := rfl
@[simp] theorem State.takeTid_pages (s : State) (b : Source) (t : Tid) : (s.takeTid b t).pages = s.pages := rfl
@[simp] theorem State.takeTid_nextPage (s : State) (b : Source) (t : Tid) : (s.takeTid b t).nextPage = s.nextPage := rfl
@[simp] theorem State.takeTid_accounts (s : State) (b : Source) (t : Tid) : (s.takeTid b t).accounts = s.accounts := rfl
@[simp] theorem State.takeTid_meter (s : State) (b : Source) (t : Tid) : (s.takeTid b t).meter = s.meter := rfl
@[simp] theorem State.takeTid_commit (s : State) (b : Source) (t : Tid) : (s.takeTid b t).commit = s.commit := rfl
@[simp] theorem State.takeTid_slots (s : State) (b : Source) (t : Tid) : (s.takeTid b t).slots = s.slots := rfl
@[simp] theorem State.takeTid_gauges (s : State) (b : Source) (t : Tid) : (s.takeTid b t).gauges = s.gauges := rfl
@[simp] theorem State.takeTid_carry (s : State) (b : Source) (t : Tid) : (s.takeTid b t).carry = s.carry := rfl
@[simp] theorem State.takeTid_scrub (s : State) (b : Source) (t : Tid) : (s.takeTid b t).scrub = s.scrub := rfl

@[simp] theorem State.freeTid_pending (s : State) (b : Source) (t : Tid) : (s.freeTid b t).pending = s.pending := rfl
@[simp] theorem State.freeTid_seq (s : State) (b : Source) (t : Tid) : (s.freeTid b t).seq = s.seq := rfl
@[simp] theorem State.freeTid_draws (s : State) (b : Source) (t : Tid) : (s.freeTid b t).draws = s.draws := rfl
@[simp] theorem State.freeTid_outbox (s : State) (b : Source) (t : Tid) : (s.freeTid b t).outbox = s.outbox := rfl
@[simp] theorem State.freeTid_emitted (s : State) (b : Source) (t : Tid) : (s.freeTid b t).emitted = s.emitted := rfl
@[simp] theorem State.freeTid_powered (s : State) (b : Source) (t : Tid) : (s.freeTid b t).powered = s.powered := rfl
@[simp] theorem State.freeTid_pins (s : State) (b : Source) (t : Tid) : (s.freeTid b t).pins = s.pins := rfl
@[simp] theorem State.freeTid_nv (s : State) (b : Source) (t : Tid) : (s.freeTid b t).nv = s.nv := rfl
@[simp] theorem State.freeTid_power (s : State) (b : Source) (t : Tid) : (s.freeTid b t).power = s.power := rfl
@[simp] theorem State.freeTid_wakeReset (s : State) (b : Source) (t : Tid) : (s.freeTid b t).wakeReset = s.wakeReset := rfl
@[simp] theorem State.freeTid_resetRec (s : State) (b : Source) (t : Tid) : (s.freeTid b t).resetRec = s.resetRec := rfl
@[simp] theorem State.freeTid_settings (s : State) (b : Source) (t : Tid) : (s.freeTid b t).settings = s.settings := rfl
@[simp] theorem State.freeTid_loadResult (s : State) (b : Source) (t : Tid) : (s.freeTid b t).loadResult = s.loadResult := rfl
@[simp] theorem State.freeTid_held (s : State) (b : Source) (t : Tid) : (s.freeTid b t).held = s.held := rfl
@[simp] theorem State.freeTid_awaiting (s : State) (b : Source) (t : Tid) : (s.freeTid b t).awaiting = s.awaiting := rfl
@[simp] theorem State.freeTid_notices (s : State) (b : Source) (t : Tid) : (s.freeTid b t).notices = s.notices := rfl
@[simp] theorem State.freeTid_path (s : State) (b : Source) (t : Tid) : (s.freeTid b t).path = s.path := rfl
@[simp] theorem State.freeTid_windows (s : State) (b : Source) (t : Tid) : (s.freeTid b t).windows = s.windows := rfl
@[simp] theorem State.freeTid_keys (s : State) (b : Source) (t : Tid) : (s.freeTid b t).keys = s.keys := rfl
@[simp] theorem State.freeTid_pwq (s : State) (b : Source) (t : Tid) : (s.freeTid b t).pwq = s.pwq := rfl
@[simp] theorem State.freeTid_tracker (s : State) (b : Source) (t : Tid) : (s.freeTid b t).tracker = s.tracker := rfl
@[simp] theorem State.freeTid_hits (s : State) (b : Source) (t : Tid) : (s.freeTid b t).hits = s.hits := rfl
@[simp] theorem State.freeTid_flushes (s : State) (b : Source) (t : Tid) : (s.freeTid b t).flushes = s.flushes := rfl
@[simp] theorem State.freeTid_lines (s : State) (b : Source) (t : Tid) : (s.freeTid b t).lines = s.lines := rfl
@[simp] theorem State.freeTid_mem (s : State) (b : Source) (t : Tid) : (s.freeTid b t).mem = s.mem := rfl
@[simp] theorem State.freeTid_pages (s : State) (b : Source) (t : Tid) : (s.freeTid b t).pages = s.pages := rfl
@[simp] theorem State.freeTid_nextPage (s : State) (b : Source) (t : Tid) : (s.freeTid b t).nextPage = s.nextPage := rfl
@[simp] theorem State.freeTid_accounts (s : State) (b : Source) (t : Tid) : (s.freeTid b t).accounts = s.accounts := rfl
@[simp] theorem State.freeTid_meter (s : State) (b : Source) (t : Tid) : (s.freeTid b t).meter = s.meter := rfl
@[simp] theorem State.freeTid_commit (s : State) (b : Source) (t : Tid) : (s.freeTid b t).commit = s.commit := rfl
@[simp] theorem State.freeTid_slots (s : State) (b : Source) (t : Tid) : (s.freeTid b t).slots = s.slots := rfl
@[simp] theorem State.freeTid_gauges (s : State) (b : Source) (t : Tid) : (s.freeTid b t).gauges = s.gauges := rfl
@[simp] theorem State.freeTid_carry (s : State) (b : Source) (t : Tid) : (s.freeTid b t).carry = s.carry := rfl
@[simp] theorem State.freeTid_scrub (s : State) (b : Source) (t : Tid) : (s.freeTid b t).scrub = s.scrub := rfl

@[simp] theorem State.nextSeq_pending (s : State) : (s.nextSeq).pending = s.pending := rfl
@[simp] theorem State.nextSeq_draws (s : State) : (s.nextSeq).draws = s.draws := rfl
@[simp] theorem State.nextSeq_outbox (s : State) : (s.nextSeq).outbox = s.outbox := rfl
@[simp] theorem State.nextSeq_emitted (s : State) : (s.nextSeq).emitted = s.emitted := rfl
@[simp] theorem State.nextSeq_powered (s : State) : (s.nextSeq).powered = s.powered := rfl
@[simp] theorem State.nextSeq_pins (s : State) : (s.nextSeq).pins = s.pins := rfl
@[simp] theorem State.nextSeq_nv (s : State) : (s.nextSeq).nv = s.nv := rfl
@[simp] theorem State.nextSeq_power (s : State) : (s.nextSeq).power = s.power := rfl
@[simp] theorem State.nextSeq_wakeReset (s : State) : (s.nextSeq).wakeReset = s.wakeReset := rfl
@[simp] theorem State.nextSeq_resetRec (s : State) : (s.nextSeq).resetRec = s.resetRec := rfl
@[simp] theorem State.nextSeq_settings (s : State) : (s.nextSeq).settings = s.settings := rfl
@[simp] theorem State.nextSeq_loadResult (s : State) : (s.nextSeq).loadResult = s.loadResult := rfl
@[simp] theorem State.nextSeq_held (s : State) : (s.nextSeq).held = s.held := rfl
@[simp] theorem State.nextSeq_awaiting (s : State) : (s.nextSeq).awaiting = s.awaiting := rfl
@[simp] theorem State.nextSeq_notices (s : State) : (s.nextSeq).notices = s.notices := rfl
@[simp] theorem State.nextSeq_path (s : State) : (s.nextSeq).path = s.path := rfl
@[simp] theorem State.nextSeq_windows (s : State) : (s.nextSeq).windows = s.windows := rfl
@[simp] theorem State.nextSeq_keys (s : State) : (s.nextSeq).keys = s.keys := rfl
@[simp] theorem State.nextSeq_tids (s : State) : (s.nextSeq).tids = s.tids := rfl
@[simp] theorem State.nextSeq_pwq (s : State) : (s.nextSeq).pwq = s.pwq := rfl
@[simp] theorem State.nextSeq_tracker (s : State) : (s.nextSeq).tracker = s.tracker := rfl
@[simp] theorem State.nextSeq_hits (s : State) : (s.nextSeq).hits = s.hits := rfl
@[simp] theorem State.nextSeq_flushes (s : State) : (s.nextSeq).flushes = s.flushes := rfl
@[simp] theorem State.nextSeq_lines (s : State) : (s.nextSeq).lines = s.lines := rfl
@[simp] theorem State.nextSeq_mem (s : State) : (s.nextSeq).mem = s.mem := rfl
@[simp] theorem State.nextSeq_pages (s : State) : (s.nextSeq).pages = s.pages := rfl
@[simp] theorem State.nextSeq_nextPage (s : State) : (s.nextSeq).nextPage = s.nextPage := rfl
@[simp] theorem State.nextSeq_accounts (s : State) : (s.nextSeq).accounts = s.accounts := rfl
@[simp] theorem State.nextSeq_meter (s : State) : (s.nextSeq).meter = s.meter := rfl
@[simp] theorem State.nextSeq_commit (s : State) : (s.nextSeq).commit = s.commit := rfl
@[simp] theorem State.nextSeq_slots (s : State) : (s.nextSeq).slots = s.slots := rfl
@[simp] theorem State.nextSeq_gauges (s : State) : (s.nextSeq).gauges = s.gauges := rfl
@[simp] theorem State.nextSeq_carry (s : State) : (s.nextSeq).carry = s.carry := rfl
@[simp] theorem State.nextSeq_scrub (s : State) : (s.nextSeq).scrub = s.scrub := rfl

@[simp] theorem State.destroyKeys_pending (s : State) (i : WindowIdx) : (s.destroyKeys i).pending = s.pending := rfl
@[simp] theorem State.destroyKeys_seq (s : State) (i : WindowIdx) : (s.destroyKeys i).seq = s.seq := rfl
@[simp] theorem State.destroyKeys_draws (s : State) (i : WindowIdx) : (s.destroyKeys i).draws = s.draws := rfl
@[simp] theorem State.destroyKeys_outbox (s : State) (i : WindowIdx) : (s.destroyKeys i).outbox = s.outbox := rfl
@[simp] theorem State.destroyKeys_emitted (s : State) (i : WindowIdx) : (s.destroyKeys i).emitted = s.emitted := rfl
@[simp] theorem State.destroyKeys_powered (s : State) (i : WindowIdx) : (s.destroyKeys i).powered = s.powered := rfl
@[simp] theorem State.destroyKeys_pins (s : State) (i : WindowIdx) : (s.destroyKeys i).pins = s.pins := rfl
@[simp] theorem State.destroyKeys_nv (s : State) (i : WindowIdx) : (s.destroyKeys i).nv = s.nv := rfl
@[simp] theorem State.destroyKeys_power (s : State) (i : WindowIdx) : (s.destroyKeys i).power = s.power := rfl
@[simp] theorem State.destroyKeys_wakeReset (s : State) (i : WindowIdx) : (s.destroyKeys i).wakeReset = s.wakeReset := rfl
@[simp] theorem State.destroyKeys_resetRec (s : State) (i : WindowIdx) : (s.destroyKeys i).resetRec = s.resetRec := rfl
@[simp] theorem State.destroyKeys_settings (s : State) (i : WindowIdx) : (s.destroyKeys i).settings = s.settings := rfl
@[simp] theorem State.destroyKeys_loadResult (s : State) (i : WindowIdx) : (s.destroyKeys i).loadResult = s.loadResult := rfl
@[simp] theorem State.destroyKeys_held (s : State) (i : WindowIdx) : (s.destroyKeys i).held = s.held := rfl
@[simp] theorem State.destroyKeys_awaiting (s : State) (i : WindowIdx) : (s.destroyKeys i).awaiting = s.awaiting := rfl
@[simp] theorem State.destroyKeys_notices (s : State) (i : WindowIdx) : (s.destroyKeys i).notices = s.notices := rfl
@[simp] theorem State.destroyKeys_path (s : State) (i : WindowIdx) : (s.destroyKeys i).path = s.path := rfl
@[simp] theorem State.destroyKeys_windows (s : State) (i : WindowIdx) : (s.destroyKeys i).windows = s.windows := rfl
@[simp] theorem State.destroyKeys_tids (s : State) (i : WindowIdx) : (s.destroyKeys i).tids = s.tids := rfl
@[simp] theorem State.destroyKeys_pwq (s : State) (i : WindowIdx) : (s.destroyKeys i).pwq = s.pwq := rfl
@[simp] theorem State.destroyKeys_tracker (s : State) (i : WindowIdx) : (s.destroyKeys i).tracker = s.tracker := rfl
@[simp] theorem State.destroyKeys_hits (s : State) (i : WindowIdx) : (s.destroyKeys i).hits = s.hits := rfl
@[simp] theorem State.destroyKeys_flushes (s : State) (i : WindowIdx) : (s.destroyKeys i).flushes = s.flushes := rfl
@[simp] theorem State.destroyKeys_lines (s : State) (i : WindowIdx) : (s.destroyKeys i).lines = s.lines := rfl
@[simp] theorem State.destroyKeys_mem (s : State) (i : WindowIdx) : (s.destroyKeys i).mem = s.mem := rfl
@[simp] theorem State.destroyKeys_pages (s : State) (i : WindowIdx) : (s.destroyKeys i).pages = s.pages := rfl
@[simp] theorem State.destroyKeys_nextPage (s : State) (i : WindowIdx) : (s.destroyKeys i).nextPage = s.nextPage := rfl
@[simp] theorem State.destroyKeys_accounts (s : State) (i : WindowIdx) : (s.destroyKeys i).accounts = s.accounts := rfl
@[simp] theorem State.destroyKeys_meter (s : State) (i : WindowIdx) : (s.destroyKeys i).meter = s.meter := rfl
@[simp] theorem State.destroyKeys_commit (s : State) (i : WindowIdx) : (s.destroyKeys i).commit = s.commit := rfl
@[simp] theorem State.destroyKeys_slots (s : State) (i : WindowIdx) : (s.destroyKeys i).slots = s.slots := rfl
@[simp] theorem State.destroyKeys_gauges (s : State) (i : WindowIdx) : (s.destroyKeys i).gauges = s.gauges := rfl
@[simp] theorem State.destroyKeys_carry (s : State) (i : WindowIdx) : (s.destroyKeys i).carry = s.carry := rfl
@[simp] theorem State.destroyKeys_scrub (s : State) (i : WindowIdx) : (s.destroyKeys i).scrub = s.scrub := rfl

@[simp] theorem State.answer_pending (s : State) (c : Nat) (x : Status) (d : RespData) : (s.answer c x d).pending = s.pending := rfl
@[simp] theorem State.answer_seq (s : State) (c : Nat) (x : Status) (d : RespData) : (s.answer c x d).seq = s.seq := rfl
@[simp] theorem State.answer_draws (s : State) (c : Nat) (x : Status) (d : RespData) : (s.answer c x d).draws = s.draws := rfl
@[simp] theorem State.answer_outbox (s : State) (c : Nat) (x : Status) (d : RespData) : (s.answer c x d).outbox = s.outbox := rfl
@[simp] theorem State.answer_emitted (s : State) (c : Nat) (x : Status) (d : RespData) : (s.answer c x d).emitted = s.emitted := rfl
@[simp] theorem State.answer_powered (s : State) (c : Nat) (x : Status) (d : RespData) : (s.answer c x d).powered = s.powered := rfl
@[simp] theorem State.answer_pins (s : State) (c : Nat) (x : Status) (d : RespData) : (s.answer c x d).pins = s.pins := rfl
@[simp] theorem State.answer_nv (s : State) (c : Nat) (x : Status) (d : RespData) : (s.answer c x d).nv = s.nv := rfl
@[simp] theorem State.answer_power (s : State) (c : Nat) (x : Status) (d : RespData) : (s.answer c x d).power = s.power := rfl
@[simp] theorem State.answer_wakeReset (s : State) (c : Nat) (x : Status) (d : RespData) : (s.answer c x d).wakeReset = s.wakeReset := rfl
@[simp] theorem State.answer_resetRec (s : State) (c : Nat) (x : Status) (d : RespData) : (s.answer c x d).resetRec = s.resetRec := rfl
@[simp] theorem State.answer_settings (s : State) (c : Nat) (x : Status) (d : RespData) : (s.answer c x d).settings = s.settings := rfl
@[simp] theorem State.answer_loadResult (s : State) (c : Nat) (x : Status) (d : RespData) : (s.answer c x d).loadResult = s.loadResult := rfl
@[simp] theorem State.answer_awaiting (s : State) (c : Nat) (x : Status) (d : RespData) : (s.answer c x d).awaiting = s.awaiting := rfl
@[simp] theorem State.answer_notices (s : State) (c : Nat) (x : Status) (d : RespData) : (s.answer c x d).notices = s.notices := rfl
@[simp] theorem State.answer_path (s : State) (c : Nat) (x : Status) (d : RespData) : (s.answer c x d).path = s.path := rfl
@[simp] theorem State.answer_windows (s : State) (c : Nat) (x : Status) (d : RespData) : (s.answer c x d).windows = s.windows := rfl
@[simp] theorem State.answer_keys (s : State) (c : Nat) (x : Status) (d : RespData) : (s.answer c x d).keys = s.keys := rfl
@[simp] theorem State.answer_tids (s : State) (c : Nat) (x : Status) (d : RespData) : (s.answer c x d).tids = s.tids := rfl
@[simp] theorem State.answer_pwq (s : State) (c : Nat) (x : Status) (d : RespData) : (s.answer c x d).pwq = s.pwq := rfl
@[simp] theorem State.answer_tracker (s : State) (c : Nat) (x : Status) (d : RespData) : (s.answer c x d).tracker = s.tracker := rfl
@[simp] theorem State.answer_hits (s : State) (c : Nat) (x : Status) (d : RespData) : (s.answer c x d).hits = s.hits := rfl
@[simp] theorem State.answer_flushes (s : State) (c : Nat) (x : Status) (d : RespData) : (s.answer c x d).flushes = s.flushes := rfl
@[simp] theorem State.answer_lines (s : State) (c : Nat) (x : Status) (d : RespData) : (s.answer c x d).lines = s.lines := rfl
@[simp] theorem State.answer_mem (s : State) (c : Nat) (x : Status) (d : RespData) : (s.answer c x d).mem = s.mem := rfl
@[simp] theorem State.answer_pages (s : State) (c : Nat) (x : Status) (d : RespData) : (s.answer c x d).pages = s.pages := rfl
@[simp] theorem State.answer_nextPage (s : State) (c : Nat) (x : Status) (d : RespData) : (s.answer c x d).nextPage = s.nextPage := rfl
@[simp] theorem State.answer_accounts (s : State) (c : Nat) (x : Status) (d : RespData) : (s.answer c x d).accounts = s.accounts := rfl
@[simp] theorem State.answer_meter (s : State) (c : Nat) (x : Status) (d : RespData) : (s.answer c x d).meter = s.meter := rfl
@[simp] theorem State.answer_commit (s : State) (c : Nat) (x : Status) (d : RespData) : (s.answer c x d).commit = s.commit := rfl
@[simp] theorem State.answer_slots (s : State) (c : Nat) (x : Status) (d : RespData) : (s.answer c x d).slots = s.slots := rfl
@[simp] theorem State.answer_gauges (s : State) (c : Nat) (x : Status) (d : RespData) : (s.answer c x d).gauges = s.gauges := rfl
@[simp] theorem State.answer_carry (s : State) (c : Nat) (x : Status) (d : RespData) : (s.answer c x d).carry = s.carry := rfl
@[simp] theorem State.answer_scrub (s : State) (c : Nat) (x : Status) (d : RespData) : (s.answer c x d).scrub = s.scrub := rfl

@[simp] theorem State.answerStatus_pending (s : State) (c : Nat) (x : Status) : (s.answerStatus c x).pending = s.pending := rfl
@[simp] theorem State.answerStatus_seq (s : State) (c : Nat) (x : Status) : (s.answerStatus c x).seq = s.seq := rfl
@[simp] theorem State.answerStatus_draws (s : State) (c : Nat) (x : Status) : (s.answerStatus c x).draws = s.draws := rfl
@[simp] theorem State.answerStatus_outbox (s : State) (c : Nat) (x : Status) : (s.answerStatus c x).outbox = s.outbox := rfl
@[simp] theorem State.answerStatus_emitted (s : State) (c : Nat) (x : Status) : (s.answerStatus c x).emitted = s.emitted := rfl
@[simp] theorem State.answerStatus_powered (s : State) (c : Nat) (x : Status) : (s.answerStatus c x).powered = s.powered := rfl
@[simp] theorem State.answerStatus_pins (s : State) (c : Nat) (x : Status) : (s.answerStatus c x).pins = s.pins := rfl
@[simp] theorem State.answerStatus_nv (s : State) (c : Nat) (x : Status) : (s.answerStatus c x).nv = s.nv := rfl
@[simp] theorem State.answerStatus_power (s : State) (c : Nat) (x : Status) : (s.answerStatus c x).power = s.power := rfl
@[simp] theorem State.answerStatus_wakeReset (s : State) (c : Nat) (x : Status) : (s.answerStatus c x).wakeReset = s.wakeReset := rfl
@[simp] theorem State.answerStatus_resetRec (s : State) (c : Nat) (x : Status) : (s.answerStatus c x).resetRec = s.resetRec := rfl
@[simp] theorem State.answerStatus_settings (s : State) (c : Nat) (x : Status) : (s.answerStatus c x).settings = s.settings := rfl
@[simp] theorem State.answerStatus_loadResult (s : State) (c : Nat) (x : Status) : (s.answerStatus c x).loadResult = s.loadResult := rfl
@[simp] theorem State.answerStatus_awaiting (s : State) (c : Nat) (x : Status) : (s.answerStatus c x).awaiting = s.awaiting := rfl
@[simp] theorem State.answerStatus_notices (s : State) (c : Nat) (x : Status) : (s.answerStatus c x).notices = s.notices := rfl
@[simp] theorem State.answerStatus_path (s : State) (c : Nat) (x : Status) : (s.answerStatus c x).path = s.path := rfl
@[simp] theorem State.answerStatus_windows (s : State) (c : Nat) (x : Status) : (s.answerStatus c x).windows = s.windows := rfl
@[simp] theorem State.answerStatus_keys (s : State) (c : Nat) (x : Status) : (s.answerStatus c x).keys = s.keys := rfl
@[simp] theorem State.answerStatus_tids (s : State) (c : Nat) (x : Status) : (s.answerStatus c x).tids = s.tids := rfl
@[simp] theorem State.answerStatus_pwq (s : State) (c : Nat) (x : Status) : (s.answerStatus c x).pwq = s.pwq := rfl
@[simp] theorem State.answerStatus_tracker (s : State) (c : Nat) (x : Status) : (s.answerStatus c x).tracker = s.tracker := rfl
@[simp] theorem State.answerStatus_hits (s : State) (c : Nat) (x : Status) : (s.answerStatus c x).hits = s.hits := rfl
@[simp] theorem State.answerStatus_flushes (s : State) (c : Nat) (x : Status) : (s.answerStatus c x).flushes = s.flushes := rfl
@[simp] theorem State.answerStatus_lines (s : State) (c : Nat) (x : Status) : (s.answerStatus c x).lines = s.lines := rfl
@[simp] theorem State.answerStatus_mem (s : State) (c : Nat) (x : Status) : (s.answerStatus c x).mem = s.mem := rfl
@[simp] theorem State.answerStatus_pages (s : State) (c : Nat) (x : Status) : (s.answerStatus c x).pages = s.pages := rfl
@[simp] theorem State.answerStatus_nextPage (s : State) (c : Nat) (x : Status) : (s.answerStatus c x).nextPage = s.nextPage := rfl
@[simp] theorem State.answerStatus_accounts (s : State) (c : Nat) (x : Status) : (s.answerStatus c x).accounts = s.accounts := rfl
@[simp] theorem State.answerStatus_meter (s : State) (c : Nat) (x : Status) : (s.answerStatus c x).meter = s.meter := rfl
@[simp] theorem State.answerStatus_commit (s : State) (c : Nat) (x : Status) : (s.answerStatus c x).commit = s.commit := rfl
@[simp] theorem State.answerStatus_slots (s : State) (c : Nat) (x : Status) : (s.answerStatus c x).slots = s.slots := rfl
@[simp] theorem State.answerStatus_gauges (s : State) (c : Nat) (x : Status) : (s.answerStatus c x).gauges = s.gauges := rfl
@[simp] theorem State.answerStatus_carry (s : State) (c : Nat) (x : Status) : (s.answerStatus c x).carry = s.carry := rfl
@[simp] theorem State.answerStatus_scrub (s : State) (c : Nat) (x : Status) : (s.answerStatus c x).scrub = s.scrub := rfl

/-! ## Fields that an update writes -/

@[simp] theorem State.emit_emitted (s : State) (e : Emission) : (s.emit e).emitted = s.emitted ++ [e] := rfl
@[simp] theorem State.respond_emitted (s : State) (b : BitVec 3) (t : Tid) (x : SysStatus) :
    (s.respond b t x).emitted = s.emitted ++ [.response b t x] := rfl
@[simp] theorem State.note_outbox (s : State) (n : Notice) : (s.note n).outbox = s.outbox ++ [n] := rfl
@[simp] theorem State.takeTid_tids (s : State) (b : Source) (t : Tid) : (s.takeTid b t).tids = (b, t) :: s.tids := rfl
@[simp] theorem State.freeTid_tids (s : State) (b : Source) (t : Tid) :
    (s.freeTid b t).tids = s.tids.filter (fun x => x != (b, t)) := rfl
@[simp] theorem State.nextSeq_seq (s : State) : s.nextSeq.seq = s.seq + 1 := rfl
@[simp] theorem State.answer_held (s : State) (c : Nat) (x : Status) (d : RespData) :
    (s.answer c x d).held = some ⟨.ofNat 8 c, x, d⟩ := rfl
@[simp] theorem State.answerStatus_held (s : State) (c : Nat) (x : Status) :
    (s.answerStatus c x).held = some ⟨.ofNat 8 c, x, .empty⟩ := rfl
@[simp] theorem State.setChan_chans (s : State) (c : ChannelId) (x : Channel) :
    (s.setChan c x).scrub.chans = s.scrub.chans.set c x := rfl
@[simp] theorem State.setChan_queue (s : State) (c : ChannelId) (x : Channel) :
    (s.setChan c x).scrub.queue = s.scrub.queue := rfl
@[simp] theorem State.setChan_memTids (s : State) (c : ChannelId) (x : Channel) : (s.setChan c x).mem.tids = s.mem.tids := rfl
@[simp] theorem State.setMemTid_share (s : State) (t : MemTid) (x : TidState) : (s.setMemTid t x).mem.share = s.mem.share := rfl

/-! ## Tables read after a write -/

@[simp] theorem State.window_setWindow (s : State) (i : WindowIdx) (w : Window) : (s.setWindow i w).window i = w := by
  simp [State.window, State.setWindow]
theorem State.window_setWindow_ne (s : State) {i j : WindowIdx} (w : Window) (h : i ≠ j) :
    (s.setWindow i w).window j = s.window j := by
  have h' : i.val ≠ j.val := fun e => h (Fin.ext e)
  simp [State.window, State.setWindow, h']
theorem State.window_setWindow_eq (s : State) (i j : WindowIdx) (w : Window) :
    (s.setWindow i w).window j = if i = j then w else s.window j := by
  by_cases h : i = j
  · subst h; simp
  · rw [if_neg h, State.window_setWindow_ne s w h]

@[simp] theorem State.account_setAccount (s : State) (a : (Fin 128)) (x : Account) : (s.setAccount a x).account a = x := by
  simp [State.account, State.setAccount]
theorem State.account_setAccount_ne (s : State) {a j : (Fin 128)} (x : Account) (h : a ≠ j) :
    (s.setAccount a x).account j = s.account j := by
  have h' : a.val ≠ j.val := fun e => h (Fin.ext e)
  simp [State.account, State.setAccount, h']
theorem State.account_setAccount_eq (s : State) (a j : (Fin 128)) (x : Account) :
    (s.setAccount a x).account j = if a = j then x else s.account j := by
  by_cases h : a = j
  · subst h; simp
  · rw [if_neg h, State.account_setAccount_ne s x h]

@[simp] theorem State.page_setPage (s : State) (i : (Fin 16)) (p : (Option Page)) : (s.setPage i p).page i = p := by
  simp [State.page, State.setPage]
theorem State.page_setPage_ne (s : State) {i j : (Fin 16)} (p : (Option Page)) (h : i ≠ j) :
    (s.setPage i p).page j = s.page j := by
  have h' : i.val ≠ j.val := fun e => h (Fin.ext e)
  simp [State.page, State.setPage, h']
theorem State.page_setPage_eq (s : State) (i j : (Fin 16)) (p : (Option Page)) :
    (s.setPage i p).page j = if i = j then p else s.page j := by
  by_cases h : i = j
  · subst h; simp
  · rw [if_neg h, State.page_setPage_ne s p h]

@[simp] theorem State.slot_setSlot (s : State) (k : Colour) (x : Slot) : (s.setSlot k x).slot k = x := by
  simp [State.slot, State.setSlot]
theorem State.slot_setSlot_ne (s : State) {k j : Colour} (x : Slot) (h : k ≠ j) :
    (s.setSlot k x).slot j = s.slot j := by
  have h' : k.val ≠ j.val := fun e => h (Fin.ext e)
  simp [State.slot, State.setSlot, h']
theorem State.slot_setSlot_eq (s : State) (k j : Colour) (x : Slot) :
    (s.setSlot k x).slot j = if k = j then x else s.slot j := by
  by_cases h : k = j
  · subst h; simp
  · rw [if_neg h, State.slot_setSlot_ne s x h]

@[simp] theorem State.gauge_setGauge (s : State) (k : Colour) (g : Gauge) : (s.setGauge k g).gauge k = g := by
  simp [State.gauge, State.setGauge]
theorem State.gauge_setGauge_ne (s : State) {k j : Colour} (g : Gauge) (h : k ≠ j) :
    (s.setGauge k g).gauge j = s.gauge j := by
  have h' : k.val ≠ j.val := fun e => h (Fin.ext e)
  simp [State.gauge, State.setGauge, h']
theorem State.gauge_setGauge_eq (s : State) (k j : Colour) (g : Gauge) :
    (s.setGauge k g).gauge j = if k = j then g else s.gauge j := by
  by_cases h : k = j
  · subst h; simp
  · rw [if_neg h, State.gauge_setGauge_ne s g h]

@[simp] theorem State.line_setLine (s : State) (i : (Fin 8)) (l : (Option Line)) : (s.setLine i l).line i = l := by
  simp [State.line, State.setLine]
theorem State.line_setLine_ne (s : State) {i j : (Fin 8)} (l : (Option Line)) (h : i ≠ j) :
    (s.setLine i l).line j = s.line j := by
  have h' : i.val ≠ j.val := fun e => h (Fin.ext e)
  simp [State.line, State.setLine, h']
theorem State.line_setLine_eq (s : State) (i j : (Fin 8)) (l : (Option Line)) :
    (s.setLine i l).line j = if i = j then l else s.line j := by
  by_cases h : i = j
  · subst h; simp
  · rw [if_neg h, State.line_setLine_ne s l h]

@[simp] theorem State.memTid_setMemTid (s : State) (t : MemTid) (x : TidState) : (s.setMemTid t x).memTid t = x := by
  simp [State.memTid, State.setMemTid]
theorem State.memTid_setMemTid_ne (s : State) {t j : MemTid} (x : TidState) (h : t ≠ j) :
    (s.setMemTid t x).memTid j = s.memTid j := by
  have h' : t.val ≠ j.val := fun e => h (Fin.ext e)
  simp [State.memTid, State.setMemTid, h']
theorem State.memTid_setMemTid_eq (s : State) (t j : MemTid) (x : TidState) :
    (s.setMemTid t x).memTid j = if t = j then x else s.memTid j := by
  by_cases h : t = j
  · subst h; simp
  · rw [if_neg h, State.memTid_setMemTid_ne s x h]

@[simp] theorem State.chan_setChan (s : State) (c : ChannelId) (x : Channel) : (s.setChan c x).chan c = x := by
  simp [State.chan, State.setChan]
theorem State.chan_setChan_ne (s : State) {c j : ChannelId} (x : Channel) (h : c ≠ j) :
    (s.setChan c x).chan j = s.chan j := by
  have h' : c.val ≠ j.val := fun e => h (Fin.ext e)
  simp [State.chan, State.setChan, h']
theorem State.chan_setChan_eq (s : State) (c j : ChannelId) (x : Channel) :
    (s.setChan c x).chan j = if c = j then x else s.chan j := by
  by_cases h : c = j
  · subst h; simp
  · rw [if_neg h, State.chan_setChan_ne s x h]

/-! ## Tables read after a write to another -/

@[simp] theorem State.account_setWindow (s : State) (i : WindowIdx) (w : Window) (j : Fin 128) : (s.setWindow i w).account j = s.account j := rfl
@[simp] theorem State.page_setWindow (s : State) (i : WindowIdx) (w : Window) (j : Fin 16) : (s.setWindow i w).page j = s.page j := rfl
@[simp] theorem State.slot_setWindow (s : State) (i : WindowIdx) (w : Window) (j : Colour) : (s.setWindow i w).slot j = s.slot j := rfl
@[simp] theorem State.gauge_setWindow (s : State) (i : WindowIdx) (w : Window) (j : Colour) : (s.setWindow i w).gauge j = s.gauge j := rfl
@[simp] theorem State.line_setWindow (s : State) (i : WindowIdx) (w : Window) (j : Fin 8) : (s.setWindow i w).line j = s.line j := rfl
@[simp] theorem State.memTid_setWindow (s : State) (i : WindowIdx) (w : Window) (j : MemTid) : (s.setWindow i w).memTid j = s.memTid j := rfl
@[simp] theorem State.chan_setWindow (s : State) (i : WindowIdx) (w : Window) (j : ChannelId) : (s.setWindow i w).chan j = s.chan j := rfl
@[simp] theorem State.window_setAccount (s : State) (a : Fin 128) (x : Account) (j : WindowIdx) : (s.setAccount a x).window j = s.window j := rfl
@[simp] theorem State.page_setAccount (s : State) (a : Fin 128) (x : Account) (j : Fin 16) : (s.setAccount a x).page j = s.page j := rfl
@[simp] theorem State.slot_setAccount (s : State) (a : Fin 128) (x : Account) (j : Colour) : (s.setAccount a x).slot j = s.slot j := rfl
@[simp] theorem State.gauge_setAccount (s : State) (a : Fin 128) (x : Account) (j : Colour) : (s.setAccount a x).gauge j = s.gauge j := rfl
@[simp] theorem State.line_setAccount (s : State) (a : Fin 128) (x : Account) (j : Fin 8) : (s.setAccount a x).line j = s.line j := rfl
@[simp] theorem State.memTid_setAccount (s : State) (a : Fin 128) (x : Account) (j : MemTid) : (s.setAccount a x).memTid j = s.memTid j := rfl
@[simp] theorem State.chan_setAccount (s : State) (a : Fin 128) (x : Account) (j : ChannelId) : (s.setAccount a x).chan j = s.chan j := rfl
@[simp] theorem State.window_setPage (s : State) (i : Fin 16) (p : Option Page) (j : WindowIdx) : (s.setPage i p).window j = s.window j := rfl
@[simp] theorem State.account_setPage (s : State) (i : Fin 16) (p : Option Page) (j : Fin 128) : (s.setPage i p).account j = s.account j := rfl
@[simp] theorem State.slot_setPage (s : State) (i : Fin 16) (p : Option Page) (j : Colour) : (s.setPage i p).slot j = s.slot j := rfl
@[simp] theorem State.gauge_setPage (s : State) (i : Fin 16) (p : Option Page) (j : Colour) : (s.setPage i p).gauge j = s.gauge j := rfl
@[simp] theorem State.line_setPage (s : State) (i : Fin 16) (p : Option Page) (j : Fin 8) : (s.setPage i p).line j = s.line j := rfl
@[simp] theorem State.memTid_setPage (s : State) (i : Fin 16) (p : Option Page) (j : MemTid) : (s.setPage i p).memTid j = s.memTid j := rfl
@[simp] theorem State.chan_setPage (s : State) (i : Fin 16) (p : Option Page) (j : ChannelId) : (s.setPage i p).chan j = s.chan j := rfl
@[simp] theorem State.window_setSlot (s : State) (k : Colour) (x : Slot) (j : WindowIdx) : (s.setSlot k x).window j = s.window j := rfl
@[simp] theorem State.account_setSlot (s : State) (k : Colour) (x : Slot) (j : Fin 128) : (s.setSlot k x).account j = s.account j := rfl
@[simp] theorem State.page_setSlot (s : State) (k : Colour) (x : Slot) (j : Fin 16) : (s.setSlot k x).page j = s.page j := rfl
@[simp] theorem State.gauge_setSlot (s : State) (k : Colour) (x : Slot) (j : Colour) : (s.setSlot k x).gauge j = s.gauge j := rfl
@[simp] theorem State.line_setSlot (s : State) (k : Colour) (x : Slot) (j : Fin 8) : (s.setSlot k x).line j = s.line j := rfl
@[simp] theorem State.memTid_setSlot (s : State) (k : Colour) (x : Slot) (j : MemTid) : (s.setSlot k x).memTid j = s.memTid j := rfl
@[simp] theorem State.chan_setSlot (s : State) (k : Colour) (x : Slot) (j : ChannelId) : (s.setSlot k x).chan j = s.chan j := rfl
@[simp] theorem State.window_setGauge (s : State) (k : Colour) (g : Gauge) (j : WindowIdx) : (s.setGauge k g).window j = s.window j := rfl
@[simp] theorem State.account_setGauge (s : State) (k : Colour) (g : Gauge) (j : Fin 128) : (s.setGauge k g).account j = s.account j := rfl
@[simp] theorem State.page_setGauge (s : State) (k : Colour) (g : Gauge) (j : Fin 16) : (s.setGauge k g).page j = s.page j := rfl
@[simp] theorem State.slot_setGauge (s : State) (k : Colour) (g : Gauge) (j : Colour) : (s.setGauge k g).slot j = s.slot j := rfl
@[simp] theorem State.line_setGauge (s : State) (k : Colour) (g : Gauge) (j : Fin 8) : (s.setGauge k g).line j = s.line j := rfl
@[simp] theorem State.memTid_setGauge (s : State) (k : Colour) (g : Gauge) (j : MemTid) : (s.setGauge k g).memTid j = s.memTid j := rfl
@[simp] theorem State.chan_setGauge (s : State) (k : Colour) (g : Gauge) (j : ChannelId) : (s.setGauge k g).chan j = s.chan j := rfl
@[simp] theorem State.window_setLine (s : State) (i : Fin 8) (l : Option Line) (j : WindowIdx) : (s.setLine i l).window j = s.window j := rfl
@[simp] theorem State.account_setLine (s : State) (i : Fin 8) (l : Option Line) (j : Fin 128) : (s.setLine i l).account j = s.account j := rfl
@[simp] theorem State.page_setLine (s : State) (i : Fin 8) (l : Option Line) (j : Fin 16) : (s.setLine i l).page j = s.page j := rfl
@[simp] theorem State.slot_setLine (s : State) (i : Fin 8) (l : Option Line) (j : Colour) : (s.setLine i l).slot j = s.slot j := rfl
@[simp] theorem State.gauge_setLine (s : State) (i : Fin 8) (l : Option Line) (j : Colour) : (s.setLine i l).gauge j = s.gauge j := rfl
@[simp] theorem State.memTid_setLine (s : State) (i : Fin 8) (l : Option Line) (j : MemTid) : (s.setLine i l).memTid j = s.memTid j := rfl
@[simp] theorem State.chan_setLine (s : State) (i : Fin 8) (l : Option Line) (j : ChannelId) : (s.setLine i l).chan j = s.chan j := rfl
@[simp] theorem State.window_setMemTid (s : State) (t : MemTid) (x : TidState) (j : WindowIdx) : (s.setMemTid t x).window j = s.window j := rfl
@[simp] theorem State.account_setMemTid (s : State) (t : MemTid) (x : TidState) (j : Fin 128) : (s.setMemTid t x).account j = s.account j := rfl
@[simp] theorem State.page_setMemTid (s : State) (t : MemTid) (x : TidState) (j : Fin 16) : (s.setMemTid t x).page j = s.page j := rfl
@[simp] theorem State.slot_setMemTid (s : State) (t : MemTid) (x : TidState) (j : Colour) : (s.setMemTid t x).slot j = s.slot j := rfl
@[simp] theorem State.gauge_setMemTid (s : State) (t : MemTid) (x : TidState) (j : Colour) : (s.setMemTid t x).gauge j = s.gauge j := rfl
@[simp] theorem State.line_setMemTid (s : State) (t : MemTid) (x : TidState) (j : Fin 8) : (s.setMemTid t x).line j = s.line j := rfl
@[simp] theorem State.chan_setMemTid (s : State) (t : MemTid) (x : TidState) (j : ChannelId) : (s.setMemTid t x).chan j = s.chan j := rfl
@[simp] theorem State.window_setChan (s : State) (c : ChannelId) (x : Channel) (j : WindowIdx) : (s.setChan c x).window j = s.window j := rfl
@[simp] theorem State.account_setChan (s : State) (c : ChannelId) (x : Channel) (j : Fin 128) : (s.setChan c x).account j = s.account j := rfl
@[simp] theorem State.page_setChan (s : State) (c : ChannelId) (x : Channel) (j : Fin 16) : (s.setChan c x).page j = s.page j := rfl
@[simp] theorem State.slot_setChan (s : State) (c : ChannelId) (x : Channel) (j : Colour) : (s.setChan c x).slot j = s.slot j := rfl
@[simp] theorem State.gauge_setChan (s : State) (c : ChannelId) (x : Channel) (j : Colour) : (s.setChan c x).gauge j = s.gauge j := rfl
@[simp] theorem State.line_setChan (s : State) (c : ChannelId) (x : Channel) (j : Fin 8) : (s.setChan c x).line j = s.line j := rfl
@[simp] theorem State.memTid_setChan (s : State) (c : ChannelId) (x : Channel) (j : MemTid) : (s.setChan c x).memTid j = s.memTid j := rfl
@[simp] theorem State.window_emit (s : State) (e : Emission) (j : WindowIdx) : (s.emit e).window j = s.window j := rfl
@[simp] theorem State.account_emit (s : State) (e : Emission) (j : Fin 128) : (s.emit e).account j = s.account j := rfl
@[simp] theorem State.page_emit (s : State) (e : Emission) (j : Fin 16) : (s.emit e).page j = s.page j := rfl
@[simp] theorem State.slot_emit (s : State) (e : Emission) (j : Colour) : (s.emit e).slot j = s.slot j := rfl
@[simp] theorem State.gauge_emit (s : State) (e : Emission) (j : Colour) : (s.emit e).gauge j = s.gauge j := rfl
@[simp] theorem State.line_emit (s : State) (e : Emission) (j : Fin 8) : (s.emit e).line j = s.line j := rfl
@[simp] theorem State.memTid_emit (s : State) (e : Emission) (j : MemTid) : (s.emit e).memTid j = s.memTid j := rfl
@[simp] theorem State.chan_emit (s : State) (e : Emission) (j : ChannelId) : (s.emit e).chan j = s.chan j := rfl
@[simp] theorem State.window_note (s : State) (n : Notice) (j : WindowIdx) : (s.note n).window j = s.window j := rfl
@[simp] theorem State.account_note (s : State) (n : Notice) (j : Fin 128) : (s.note n).account j = s.account j := rfl
@[simp] theorem State.page_note (s : State) (n : Notice) (j : Fin 16) : (s.note n).page j = s.page j := rfl
@[simp] theorem State.slot_note (s : State) (n : Notice) (j : Colour) : (s.note n).slot j = s.slot j := rfl
@[simp] theorem State.gauge_note (s : State) (n : Notice) (j : Colour) : (s.note n).gauge j = s.gauge j := rfl
@[simp] theorem State.line_note (s : State) (n : Notice) (j : Fin 8) : (s.note n).line j = s.line j := rfl
@[simp] theorem State.memTid_note (s : State) (n : Notice) (j : MemTid) : (s.note n).memTid j = s.memTid j := rfl
@[simp] theorem State.chan_note (s : State) (n : Notice) (j : ChannelId) : (s.note n).chan j = s.chan j := rfl
@[simp] theorem State.window_noteDropped (s : State) (e : CarryEntry) (j : WindowIdx) : (s.noteDropped e).window j = s.window j := rfl
@[simp] theorem State.account_noteDropped (s : State) (e : CarryEntry) (j : Fin 128) : (s.noteDropped e).account j = s.account j := rfl
@[simp] theorem State.page_noteDropped (s : State) (e : CarryEntry) (j : Fin 16) : (s.noteDropped e).page j = s.page j := rfl
@[simp] theorem State.slot_noteDropped (s : State) (e : CarryEntry) (j : Colour) : (s.noteDropped e).slot j = s.slot j := rfl
@[simp] theorem State.gauge_noteDropped (s : State) (e : CarryEntry) (j : Colour) : (s.noteDropped e).gauge j = s.gauge j := rfl
@[simp] theorem State.line_noteDropped (s : State) (e : CarryEntry) (j : Fin 8) : (s.noteDropped e).line j = s.line j := rfl
@[simp] theorem State.memTid_noteDropped (s : State) (e : CarryEntry) (j : MemTid) : (s.noteDropped e).memTid j = s.memTid j := rfl
@[simp] theorem State.chan_noteDropped (s : State) (e : CarryEntry) (j : ChannelId) : (s.noteDropped e).chan j = s.chan j := rfl
@[simp] theorem State.window_respond (s : State) (b : BitVec 3) (t : Tid) (x : SysStatus) (j : WindowIdx) : (s.respond b t x).window j = s.window j := rfl
@[simp] theorem State.account_respond (s : State) (b : BitVec 3) (t : Tid) (x : SysStatus) (j : Fin 128) : (s.respond b t x).account j = s.account j := rfl
@[simp] theorem State.page_respond (s : State) (b : BitVec 3) (t : Tid) (x : SysStatus) (j : Fin 16) : (s.respond b t x).page j = s.page j := rfl
@[simp] theorem State.slot_respond (s : State) (b : BitVec 3) (t : Tid) (x : SysStatus) (j : Colour) : (s.respond b t x).slot j = s.slot j := rfl
@[simp] theorem State.gauge_respond (s : State) (b : BitVec 3) (t : Tid) (x : SysStatus) (j : Colour) : (s.respond b t x).gauge j = s.gauge j := rfl
@[simp] theorem State.line_respond (s : State) (b : BitVec 3) (t : Tid) (x : SysStatus) (j : Fin 8) : (s.respond b t x).line j = s.line j := rfl
@[simp] theorem State.memTid_respond (s : State) (b : BitVec 3) (t : Tid) (x : SysStatus) (j : MemTid) : (s.respond b t x).memTid j = s.memTid j := rfl
@[simp] theorem State.chan_respond (s : State) (b : BitVec 3) (t : Tid) (x : SysStatus) (j : ChannelId) : (s.respond b t x).chan j = s.chan j := rfl
@[simp] theorem State.window_takeTid (s : State) (b : Source) (t : Tid) (j : WindowIdx) : (s.takeTid b t).window j = s.window j := rfl
@[simp] theorem State.account_takeTid (s : State) (b : Source) (t : Tid) (j : Fin 128) : (s.takeTid b t).account j = s.account j := rfl
@[simp] theorem State.page_takeTid (s : State) (b : Source) (t : Tid) (j : Fin 16) : (s.takeTid b t).page j = s.page j := rfl
@[simp] theorem State.slot_takeTid (s : State) (b : Source) (t : Tid) (j : Colour) : (s.takeTid b t).slot j = s.slot j := rfl
@[simp] theorem State.gauge_takeTid (s : State) (b : Source) (t : Tid) (j : Colour) : (s.takeTid b t).gauge j = s.gauge j := rfl
@[simp] theorem State.line_takeTid (s : State) (b : Source) (t : Tid) (j : Fin 8) : (s.takeTid b t).line j = s.line j := rfl
@[simp] theorem State.memTid_takeTid (s : State) (b : Source) (t : Tid) (j : MemTid) : (s.takeTid b t).memTid j = s.memTid j := rfl
@[simp] theorem State.chan_takeTid (s : State) (b : Source) (t : Tid) (j : ChannelId) : (s.takeTid b t).chan j = s.chan j := rfl
@[simp] theorem State.window_freeTid (s : State) (b : Source) (t : Tid) (j : WindowIdx) : (s.freeTid b t).window j = s.window j := rfl
@[simp] theorem State.account_freeTid (s : State) (b : Source) (t : Tid) (j : Fin 128) : (s.freeTid b t).account j = s.account j := rfl
@[simp] theorem State.page_freeTid (s : State) (b : Source) (t : Tid) (j : Fin 16) : (s.freeTid b t).page j = s.page j := rfl
@[simp] theorem State.slot_freeTid (s : State) (b : Source) (t : Tid) (j : Colour) : (s.freeTid b t).slot j = s.slot j := rfl
@[simp] theorem State.gauge_freeTid (s : State) (b : Source) (t : Tid) (j : Colour) : (s.freeTid b t).gauge j = s.gauge j := rfl
@[simp] theorem State.line_freeTid (s : State) (b : Source) (t : Tid) (j : Fin 8) : (s.freeTid b t).line j = s.line j := rfl
@[simp] theorem State.memTid_freeTid (s : State) (b : Source) (t : Tid) (j : MemTid) : (s.freeTid b t).memTid j = s.memTid j := rfl
@[simp] theorem State.chan_freeTid (s : State) (b : Source) (t : Tid) (j : ChannelId) : (s.freeTid b t).chan j = s.chan j := rfl
@[simp] theorem State.window_nextSeq (s : State) (j : WindowIdx) : (s.nextSeq).window j = s.window j := rfl
@[simp] theorem State.account_nextSeq (s : State) (j : Fin 128) : (s.nextSeq).account j = s.account j := rfl
@[simp] theorem State.page_nextSeq (s : State) (j : Fin 16) : (s.nextSeq).page j = s.page j := rfl
@[simp] theorem State.slot_nextSeq (s : State) (j : Colour) : (s.nextSeq).slot j = s.slot j := rfl
@[simp] theorem State.gauge_nextSeq (s : State) (j : Colour) : (s.nextSeq).gauge j = s.gauge j := rfl
@[simp] theorem State.line_nextSeq (s : State) (j : Fin 8) : (s.nextSeq).line j = s.line j := rfl
@[simp] theorem State.memTid_nextSeq (s : State) (j : MemTid) : (s.nextSeq).memTid j = s.memTid j := rfl
@[simp] theorem State.chan_nextSeq (s : State) (j : ChannelId) : (s.nextSeq).chan j = s.chan j := rfl
@[simp] theorem State.window_destroyKeys (s : State) (i : WindowIdx) (j : WindowIdx) : (s.destroyKeys i).window j = s.window j := rfl
@[simp] theorem State.account_destroyKeys (s : State) (i : WindowIdx) (j : Fin 128) : (s.destroyKeys i).account j = s.account j := rfl
@[simp] theorem State.page_destroyKeys (s : State) (i : WindowIdx) (j : Fin 16) : (s.destroyKeys i).page j = s.page j := rfl
@[simp] theorem State.slot_destroyKeys (s : State) (i : WindowIdx) (j : Colour) : (s.destroyKeys i).slot j = s.slot j := rfl
@[simp] theorem State.gauge_destroyKeys (s : State) (i : WindowIdx) (j : Colour) : (s.destroyKeys i).gauge j = s.gauge j := rfl
@[simp] theorem State.line_destroyKeys (s : State) (i : WindowIdx) (j : Fin 8) : (s.destroyKeys i).line j = s.line j := rfl
@[simp] theorem State.memTid_destroyKeys (s : State) (i : WindowIdx) (j : MemTid) : (s.destroyKeys i).memTid j = s.memTid j := rfl
@[simp] theorem State.chan_destroyKeys (s : State) (i : WindowIdx) (j : ChannelId) : (s.destroyKeys i).chan j = s.chan j := rfl
@[simp] theorem State.window_answer (s : State) (c : Nat) (x : Status) (d : RespData) (j : WindowIdx) : (s.answer c x d).window j = s.window j := rfl
@[simp] theorem State.account_answer (s : State) (c : Nat) (x : Status) (d : RespData) (j : Fin 128) : (s.answer c x d).account j = s.account j := rfl
@[simp] theorem State.page_answer (s : State) (c : Nat) (x : Status) (d : RespData) (j : Fin 16) : (s.answer c x d).page j = s.page j := rfl
@[simp] theorem State.slot_answer (s : State) (c : Nat) (x : Status) (d : RespData) (j : Colour) : (s.answer c x d).slot j = s.slot j := rfl
@[simp] theorem State.gauge_answer (s : State) (c : Nat) (x : Status) (d : RespData) (j : Colour) : (s.answer c x d).gauge j = s.gauge j := rfl
@[simp] theorem State.line_answer (s : State) (c : Nat) (x : Status) (d : RespData) (j : Fin 8) : (s.answer c x d).line j = s.line j := rfl
@[simp] theorem State.memTid_answer (s : State) (c : Nat) (x : Status) (d : RespData) (j : MemTid) : (s.answer c x d).memTid j = s.memTid j := rfl
@[simp] theorem State.chan_answer (s : State) (c : Nat) (x : Status) (d : RespData) (j : ChannelId) : (s.answer c x d).chan j = s.chan j := rfl
@[simp] theorem State.window_answerStatus (s : State) (c : Nat) (x : Status) (j : WindowIdx) : (s.answerStatus c x).window j = s.window j := rfl
@[simp] theorem State.account_answerStatus (s : State) (c : Nat) (x : Status) (j : Fin 128) : (s.answerStatus c x).account j = s.account j := rfl
@[simp] theorem State.page_answerStatus (s : State) (c : Nat) (x : Status) (j : Fin 16) : (s.answerStatus c x).page j = s.page j := rfl
@[simp] theorem State.slot_answerStatus (s : State) (c : Nat) (x : Status) (j : Colour) : (s.answerStatus c x).slot j = s.slot j := rfl
@[simp] theorem State.gauge_answerStatus (s : State) (c : Nat) (x : Status) (j : Colour) : (s.answerStatus c x).gauge j = s.gauge j := rfl
@[simp] theorem State.line_answerStatus (s : State) (c : Nat) (x : Status) (j : Fin 8) : (s.answerStatus c x).line j = s.line j := rfl
@[simp] theorem State.memTid_answerStatus (s : State) (c : Nat) (x : Status) (j : MemTid) : (s.answerStatus c x).memTid j = s.memTid j := rfl
@[simp] theorem State.chan_answerStatus (s : State) (c : Nat) (x : Status) (j : ChannelId) : (s.answerStatus c x).chan j = s.chan j := rfl

end Sys2Proof.Machine
end

