-- ==== Sys2Proof/Laws/Ops.lean ====
section
/-! SUPPORT. What each shared operation leaves alone: one lemma per operation, naming the fields it
never changes; and, at the end, what receiving a frame, a reply or a printed beat comes to. -/

namespace Sys2Proof.Machine

/-- A fold of steps that each keep a reading of the state keeps it. -/
theorem State.foldl_frame {α β : Type} (get : State → α) (f : State → β → State) (h : ∀ s x, get (f s x) = get s)
    (l : List β) (s : State) : get (l.foldl f s) = get s := by
  induction l generalizing s with
  | nil => rfl
  | cons x l ih => rw [List.foldl_cons, ih, h]

@[simp] theorem State.raiseError_frame (s : State) (c : Capture) :
    (s.raiseError c).powered = s.powered ∧ (s.raiseError c).settings = s.settings ∧ (s.raiseError c).nv = s.nv
      ∧ (s.raiseError c).windows = s.windows ∧ (s.raiseError c).pages = s.pages
      ∧ (s.raiseError c).accounts = s.accounts ∧ (s.raiseError c).meter = s.meter ∧ (s.raiseError c).commit = s.commit
      ∧ (s.raiseError c).slots = s.slots ∧ (s.raiseError c).gauges = s.gauges ∧ (s.raiseError c).carry = s.carry
      ∧ (s.raiseError c).keys = s.keys ∧ (s.raiseError c).scrub = s.scrub ∧ (s.raiseError c).pwq = s.pwq
      ∧ (s.raiseError c).tracker = s.tracker ∧ (s.raiseError c).flushes = s.flushes
      ∧ (s.raiseError c).notices = s.notices ∧ (s.raiseError c).held = s.held ∧ (s.raiseError c).power = s.power
      ∧ (s.raiseError c).resetRec = s.resetRec := by
  unfold State.raiseError; (repeat' split) <;> simp

@[simp] theorem State.dropRequest_frame (s : State) (t : MemTid) :
    (s.dropRequest t).powered = s.powered ∧ (s.dropRequest t).settings = s.settings ∧ (s.dropRequest t).nv = s.nv
      ∧ (s.dropRequest t).windows = s.windows ∧ (s.dropRequest t).pages = s.pages
      ∧ (s.dropRequest t).accounts = s.accounts ∧ (s.dropRequest t).meter = s.meter
      ∧ (s.dropRequest t).commit = s.commit ∧ (s.dropRequest t).slots = s.slots ∧ (s.dropRequest t).gauges = s.gauges
      ∧ (s.dropRequest t).carry = s.carry ∧ (s.dropRequest t).keys = s.keys ∧ (s.dropRequest t).scrub = s.scrub
      ∧ (s.dropRequest t).pwq = s.pwq ∧ (s.dropRequest t).tracker = s.tracker ∧ (s.dropRequest t).flushes = s.flushes
      ∧ (s.dropRequest t).notices = s.notices ∧ (s.dropRequest t).held = s.held ∧ (s.dropRequest t).power = s.power
      ∧ (s.dropRequest t).resetRec = s.resetRec := by
  unfold State.dropRequest; (repeat' split) <;> simp

@[simp] theorem State.invalidateLine_frame (s : State) (i : Fin 8) :
    (s.invalidateLine i).powered = s.powered ∧ (s.invalidateLine i).settings = s.settings
      ∧ (s.invalidateLine i).nv = s.nv ∧ (s.invalidateLine i).windows = s.windows
      ∧ (s.invalidateLine i).pages = s.pages ∧ (s.invalidateLine i).accounts = s.accounts
      ∧ (s.invalidateLine i).meter = s.meter ∧ (s.invalidateLine i).commit = s.commit
      ∧ (s.invalidateLine i).slots = s.slots ∧ (s.invalidateLine i).gauges = s.gauges
      ∧ (s.invalidateLine i).carry = s.carry ∧ (s.invalidateLine i).keys = s.keys
      ∧ (s.invalidateLine i).scrub = s.scrub ∧ (s.invalidateLine i).pwq = s.pwq
      ∧ (s.invalidateLine i).tracker = s.tracker ∧ (s.invalidateLine i).flushes = s.flushes
      ∧ (s.invalidateLine i).notices = s.notices ∧ (s.invalidateLine i).held = s.held
      ∧ (s.invalidateLine i).power = s.power ∧ (s.invalidateLine i).resetRec = s.resetRec := by
  unfold State.invalidateLine; (repeat' split) <;> simp

@[simp] theorem State.invalidateLines_frame (s : State) (p : Line → Bool) :
    (s.invalidateLines p).powered = s.powered ∧ (s.invalidateLines p).settings = s.settings
      ∧ (s.invalidateLines p).nv = s.nv ∧ (s.invalidateLines p).windows = s.windows
      ∧ (s.invalidateLines p).pages = s.pages ∧ (s.invalidateLines p).accounts = s.accounts
      ∧ (s.invalidateLines p).meter = s.meter ∧ (s.invalidateLines p).commit = s.commit
      ∧ (s.invalidateLines p).slots = s.slots ∧ (s.invalidateLines p).gauges = s.gauges
      ∧ (s.invalidateLines p).carry = s.carry ∧ (s.invalidateLines p).keys = s.keys
      ∧ (s.invalidateLines p).scrub = s.scrub ∧ (s.invalidateLines p).pwq = s.pwq
      ∧ (s.invalidateLines p).tracker = s.tracker ∧ (s.invalidateLines p).flushes = s.flushes
      ∧ (s.invalidateLines p).notices = s.notices ∧ (s.invalidateLines p).held = s.held
      ∧ (s.invalidateLines p).power = s.power ∧ (s.invalidateLines p).resetRec = s.resetRec := by
  have h : ((s.invalidateLines p).powered, (s.invalidateLines p).settings, (s.invalidateLines p).nv, (s.invalidateLines p).windows, (s.invalidateLines p).pages, (s.invalidateLines p).accounts, (s.invalidateLines p).meter, (s.invalidateLines p).commit, (s.invalidateLines p).slots, (s.invalidateLines p).gauges, (s.invalidateLines p).carry, (s.invalidateLines p).keys, (s.invalidateLines p).scrub, (s.invalidateLines p).pwq, (s.invalidateLines p).tracker, (s.invalidateLines p).flushes, (s.invalidateLines p).notices, (s.invalidateLines p).held, (s.invalidateLines p).power, (s.invalidateLines p).resetRec) = (s.powered, s.settings, s.nv, s.windows, s.pages, s.accounts, s.meter, s.commit, s.slots, s.gauges, s.carry, s.keys, s.scrub, s.pwq, s.tracker, s.flushes, s.notices, s.held, s.power, s.resetRec) := by
    unfold State.invalidateLines; exact State.foldl_frame (fun s => (s.powered, s.settings, s.nv, s.windows, s.pages, s.accounts, s.meter, s.commit, s.slots, s.gauges, s.carry, s.keys, s.scrub, s.pwq, s.tracker, s.flushes, s.notices, s.held, s.power, s.resetRec)) _ (fun s x => by (repeat' split) <;> simp) _ s
  simpa only [Prod.mk.injEq] using h

@[simp] theorem State.freeWindow_frame (s : State) (i : WindowIdx) (b : Bool) :
    (s.freeWindow i b).powered = s.powered ∧ (s.freeWindow i b).settings = s.settings ∧ (s.freeWindow i b).nv = s.nv
      ∧ (s.freeWindow i b).pages = s.pages ∧ (s.freeWindow i b).accounts = s.accounts
      ∧ (s.freeWindow i b).meter = s.meter ∧ (s.freeWindow i b).commit = s.commit ∧ (s.freeWindow i b).slots = s.slots
      ∧ (s.freeWindow i b).gauges = s.gauges ∧ (s.freeWindow i b).carry = s.carry ∧ (s.freeWindow i b).keys = s.keys
      ∧ (s.freeWindow i b).scrub = s.scrub ∧ (s.freeWindow i b).pwq = s.pwq ∧ (s.freeWindow i b).tracker = s.tracker
      ∧ (s.freeWindow i b).flushes = s.flushes ∧ (s.freeWindow i b).notices = s.notices
      ∧ (s.freeWindow i b).held = s.held ∧ (s.freeWindow i b).power = s.power
      ∧ (s.freeWindow i b).resetRec = s.resetRec := by
  unfold State.freeWindow; simp

@[simp] theorem State.rejudge_frame (s : State) :
    (s.rejudge).powered = s.powered ∧ (s.rejudge).settings = s.settings ∧ (s.rejudge).nv = s.nv
      ∧ (s.rejudge).windows = s.windows ∧ (s.rejudge).accounts = s.accounts ∧ (s.rejudge).meter = s.meter
      ∧ (s.rejudge).commit = s.commit ∧ (s.rejudge).slots = s.slots ∧ (s.rejudge).gauges = s.gauges
      ∧ (s.rejudge).carry = s.carry ∧ (s.rejudge).keys = s.keys ∧ (s.rejudge).scrub = s.scrub
      ∧ (s.rejudge).pwq = s.pwq ∧ (s.rejudge).tracker = s.tracker ∧ (s.rejudge).flushes = s.flushes
      ∧ (s.rejudge).notices = s.notices ∧ (s.rejudge).held = s.held ∧ (s.rejudge).power = s.power
      ∧ (s.rejudge).resetRec = s.resetRec := by
  unfold State.rejudge; simp

@[simp] theorem State.abortEntry_frame (s : State) (c : AbortCause) :
    (s.abortEntry c).powered = s.powered ∧ (s.abortEntry c).settings = s.settings ∧ (s.abortEntry c).nv = s.nv
      ∧ (s.abortEntry c).windows = s.windows ∧ (s.abortEntry c).accounts = s.accounts
      ∧ (s.abortEntry c).meter = s.meter ∧ (s.abortEntry c).commit = s.commit ∧ (s.abortEntry c).slots = s.slots
      ∧ (s.abortEntry c).gauges = s.gauges ∧ (s.abortEntry c).carry = s.carry ∧ (s.abortEntry c).keys = s.keys
      ∧ (s.abortEntry c).scrub = s.scrub ∧ (s.abortEntry c).pwq = s.pwq ∧ (s.abortEntry c).tracker = s.tracker
      ∧ (s.abortEntry c).flushes = s.flushes ∧ (s.abortEntry c).notices = s.notices ∧ (s.abortEntry c).held = s.held
      ∧ (s.abortEntry c).resetRec = s.resetRec := by
  unfold State.abortEntry; (repeat' split) <;> simp

@[simp] theorem State.carryAdd_frame (s : State) (x : Serial) (n : Nat) :
    (s.carryAdd x n).powered = s.powered ∧ (s.carryAdd x n).settings = s.settings ∧ (s.carryAdd x n).nv = s.nv
      ∧ (s.carryAdd x n).windows = s.windows ∧ (s.carryAdd x n).pages = s.pages
      ∧ (s.carryAdd x n).accounts = s.accounts ∧ (s.carryAdd x n).meter = s.meter ∧ (s.carryAdd x n).commit = s.commit
      ∧ (s.carryAdd x n).slots = s.slots ∧ (s.carryAdd x n).gauges = s.gauges ∧ (s.carryAdd x n).keys = s.keys
      ∧ (s.carryAdd x n).scrub = s.scrub ∧ (s.carryAdd x n).pwq = s.pwq ∧ (s.carryAdd x n).tracker = s.tracker
      ∧ (s.carryAdd x n).flushes = s.flushes ∧ (s.carryAdd x n).notices = s.notices ∧ (s.carryAdd x n).held = s.held
      ∧ (s.carryAdd x n).power = s.power ∧ (s.carryAdd x n).resetRec = s.resetRec := by
  unfold State.carryAdd; (repeat' split) <;> simp

@[simp] theorem State.lowMarkCheck_frame (s : State) (k : Colour) :
    (s.lowMarkCheck k).powered = s.powered ∧ (s.lowMarkCheck k).settings = s.settings ∧ (s.lowMarkCheck k).nv = s.nv
      ∧ (s.lowMarkCheck k).windows = s.windows ∧ (s.lowMarkCheck k).pages = s.pages
      ∧ (s.lowMarkCheck k).accounts = s.accounts ∧ (s.lowMarkCheck k).meter = s.meter
      ∧ (s.lowMarkCheck k).commit = s.commit ∧ (s.lowMarkCheck k).slots = s.slots ∧ (s.lowMarkCheck k).carry = s.carry
      ∧ (s.lowMarkCheck k).keys = s.keys ∧ (s.lowMarkCheck k).scrub = s.scrub ∧ (s.lowMarkCheck k).pwq = s.pwq
      ∧ (s.lowMarkCheck k).tracker = s.tracker ∧ (s.lowMarkCheck k).flushes = s.flushes
      ∧ (s.lowMarkCheck k).notices = s.notices ∧ (s.lowMarkCheck k).held = s.held ∧ (s.lowMarkCheck k).power = s.power
      ∧ (s.lowMarkCheck k).resetRec = s.resetRec := by
  unfold State.lowMarkCheck; (repeat' split) <;> simp

@[simp] theorem State.noteDepletion_frame (s : State) (k : Colour) (r : Reason) :
    (s.noteDepletion k r).powered = s.powered ∧ (s.noteDepletion k r).settings = s.settings
      ∧ (s.noteDepletion k r).nv = s.nv ∧ (s.noteDepletion k r).windows = s.windows
      ∧ (s.noteDepletion k r).pages = s.pages ∧ (s.noteDepletion k r).accounts = s.accounts
      ∧ (s.noteDepletion k r).meter = s.meter ∧ (s.noteDepletion k r).commit = s.commit
      ∧ (s.noteDepletion k r).slots = s.slots ∧ (s.noteDepletion k r).gauges = s.gauges
      ∧ (s.noteDepletion k r).carry = s.carry ∧ (s.noteDepletion k r).keys = s.keys
      ∧ (s.noteDepletion k r).scrub = s.scrub ∧ (s.noteDepletion k r).pwq = s.pwq
      ∧ (s.noteDepletion k r).tracker = s.tracker ∧ (s.noteDepletion k r).flushes = s.flushes
      ∧ (s.noteDepletion k r).notices = s.notices ∧ (s.noteDepletion k r).held = s.held
      ∧ (s.noteDepletion k r).power = s.power ∧ (s.noteDepletion k r).resetRec = s.resetRec := by
  unfold State.noteDepletion; simp

@[simp] theorem State.setRemaining_frame (s : State) (k : Colour) (n : Nat) :
    (s.setRemaining k n).powered = s.powered ∧ (s.setRemaining k n).settings = s.settings
      ∧ (s.setRemaining k n).nv = s.nv ∧ (s.setRemaining k n).windows = s.windows
      ∧ (s.setRemaining k n).accounts = s.accounts ∧ (s.setRemaining k n).meter = s.meter
      ∧ (s.setRemaining k n).commit = s.commit ∧ (s.setRemaining k n).slots = s.slots
      ∧ (s.setRemaining k n).carry = s.carry ∧ (s.setRemaining k n).keys = s.keys
      ∧ (s.setRemaining k n).scrub = s.scrub ∧ (s.setRemaining k n).pwq = s.pwq
      ∧ (s.setRemaining k n).tracker = s.tracker ∧ (s.setRemaining k n).flushes = s.flushes
      ∧ (s.setRemaining k n).notices = s.notices ∧ (s.setRemaining k n).held = s.held
      ∧ (s.setRemaining k n).power = s.power ∧ (s.setRemaining k n).resetRec = s.resetRec := by
  unfold State.setRemaining; dsimp only; (repeat' split) <;> simp

@[simp] theorem State.sendDebit_frame (s : State) (k : Colour) (r : Record) (n : Nat) :
    (s.sendDebit k r n).powered = s.powered ∧ (s.sendDebit k r n).settings = s.settings
      ∧ (s.sendDebit k r n).nv = s.nv ∧ (s.sendDebit k r n).windows = s.windows ∧ (s.sendDebit k r n).pages = s.pages
      ∧ (s.sendDebit k r n).accounts = s.accounts ∧ (s.sendDebit k r n).meter = s.meter
      ∧ (s.sendDebit k r n).commit = s.commit ∧ (s.sendDebit k r n).carry = s.carry
      ∧ (s.sendDebit k r n).keys = s.keys ∧ (s.sendDebit k r n).scrub = s.scrub ∧ (s.sendDebit k r n).pwq = s.pwq
      ∧ (s.sendDebit k r n).tracker = s.tracker ∧ (s.sendDebit k r n).flushes = s.flushes
      ∧ (s.sendDebit k r n).notices = s.notices ∧ (s.sendDebit k r n).held = s.held
      ∧ (s.sendDebit k r n).power = s.power ∧ (s.sendDebit k r n).resetRec = s.resetRec := by
  unfold State.sendDebit; simp

@[simp] theorem State.postIfDue_frame (s : State) (k : Colour) :
    (s.postIfDue k).powered = s.powered ∧ (s.postIfDue k).settings = s.settings ∧ (s.postIfDue k).nv = s.nv
      ∧ (s.postIfDue k).windows = s.windows ∧ (s.postIfDue k).pages = s.pages ∧ (s.postIfDue k).accounts = s.accounts
      ∧ (s.postIfDue k).meter = s.meter ∧ (s.postIfDue k).commit = s.commit ∧ (s.postIfDue k).carry = s.carry
      ∧ (s.postIfDue k).keys = s.keys ∧ (s.postIfDue k).scrub = s.scrub ∧ (s.postIfDue k).pwq = s.pwq
      ∧ (s.postIfDue k).tracker = s.tracker ∧ (s.postIfDue k).flushes = s.flushes
      ∧ (s.postIfDue k).notices = s.notices ∧ (s.postIfDue k).held = s.held ∧ (s.postIfDue k).power = s.power
      ∧ (s.postIfDue k).resetRec = s.resetRec := by
  unfold State.postIfDue; (repeat' split) <;> simp

@[simp] theorem State.departGauge_frame (s : State) (k : Colour) :
    (s.departGauge k).powered = s.powered ∧ (s.departGauge k).settings = s.settings ∧ (s.departGauge k).nv = s.nv
      ∧ (s.departGauge k).windows = s.windows ∧ (s.departGauge k).pages = s.pages
      ∧ (s.departGauge k).accounts = s.accounts ∧ (s.departGauge k).meter = s.meter
      ∧ (s.departGauge k).commit = s.commit ∧ (s.departGauge k).slots = s.slots ∧ (s.departGauge k).keys = s.keys
      ∧ (s.departGauge k).scrub = s.scrub ∧ (s.departGauge k).pwq = s.pwq ∧ (s.departGauge k).tracker = s.tracker
      ∧ (s.departGauge k).flushes = s.flushes ∧ (s.departGauge k).notices = s.notices
      ∧ (s.departGauge k).held = s.held ∧ (s.departGauge k).power = s.power ∧ (s.departGauge k).resetRec = s.resetRec := by
  unfold State.departGauge; (repeat' split) <;> simp

@[simp] theorem State.enterGauge_frame (s : State) (k : Colour) (x : SlotState) :
    (s.enterGauge k x).powered = s.powered ∧ (s.enterGauge k x).settings = s.settings ∧ (s.enterGauge k x).nv = s.nv
      ∧ (s.enterGauge k x).windows = s.windows ∧ (s.enterGauge k x).pages = s.pages
      ∧ (s.enterGauge k x).accounts = s.accounts ∧ (s.enterGauge k x).meter = s.meter
      ∧ (s.enterGauge k x).commit = s.commit ∧ (s.enterGauge k x).slots = s.slots ∧ (s.enterGauge k x).keys = s.keys
      ∧ (s.enterGauge k x).scrub = s.scrub ∧ (s.enterGauge k x).pwq = s.pwq ∧ (s.enterGauge k x).tracker = s.tracker
      ∧ (s.enterGauge k x).flushes = s.flushes ∧ (s.enterGauge k x).notices = s.notices
      ∧ (s.enterGauge k x).held = s.held ∧ (s.enterGauge k x).power = s.power
      ∧ (s.enterGauge k x).resetRec = s.resetRec := by
  unfold State.enterGauge; dsimp only; (repeat' split) <;> simp

@[simp] theorem State.changeSlot_frame (s : State) (k : Colour) (x : SlotState) (r : Reason) (m : Option Message) :
    (s.changeSlot k x r m).powered = s.powered ∧ (s.changeSlot k x r m).settings = s.settings
      ∧ (s.changeSlot k x r m).nv = s.nv ∧ (s.changeSlot k x r m).windows = s.windows
      ∧ (s.changeSlot k x r m).accounts = s.accounts ∧ (s.changeSlot k x r m).meter = s.meter
      ∧ (s.changeSlot k x r m).commit = s.commit ∧ (s.changeSlot k x r m).keys = s.keys
      ∧ (s.changeSlot k x r m).scrub = s.scrub ∧ (s.changeSlot k x r m).pwq = s.pwq
      ∧ (s.changeSlot k x r m).tracker = s.tracker ∧ (s.changeSlot k x r m).flushes = s.flushes
      ∧ (s.changeSlot k x r m).notices = s.notices ∧ (s.changeSlot k x r m).held = s.held
      ∧ (s.changeSlot k x r m).power = s.power ∧ (s.changeSlot k x r m).resetRec = s.resetRec := by
  unfold State.changeSlot; simp

@[simp] theorem State.takeDraw_frame (s : State) (k : Colour) (b : Option DrawBasis) (n : Nat) :
    (s.takeDraw k b n).powered = s.powered ∧ (s.takeDraw k b n).settings = s.settings ∧ (s.takeDraw k b n).nv = s.nv
      ∧ (s.takeDraw k b n).windows = s.windows ∧ (s.takeDraw k b n).accounts = s.accounts
      ∧ (s.takeDraw k b n).meter = s.meter ∧ (s.takeDraw k b n).commit = s.commit ∧ (s.takeDraw k b n).keys = s.keys
      ∧ (s.takeDraw k b n).scrub = s.scrub ∧ (s.takeDraw k b n).pwq = s.pwq ∧ (s.takeDraw k b n).tracker = s.tracker
      ∧ (s.takeDraw k b n).flushes = s.flushes ∧ (s.takeDraw k b n).notices = s.notices
      ∧ (s.takeDraw k b n).held = s.held ∧ (s.takeDraw k b n).power = s.power
      ∧ (s.takeDraw k b n).resetRec = s.resetRec := by
  unfold State.takeDraw; dsimp only; (repeat' split) <;> simp

@[simp] theorem State.takeDraws_frame (s : State) (l : List Plane) :
    (s.takeDraws l).powered = s.powered ∧ (s.takeDraws l).settings = s.settings ∧ (s.takeDraws l).nv = s.nv
      ∧ (s.takeDraws l).windows = s.windows ∧ (s.takeDraws l).accounts = s.accounts ∧ (s.takeDraws l).meter = s.meter
      ∧ (s.takeDraws l).commit = s.commit ∧ (s.takeDraws l).keys = s.keys ∧ (s.takeDraws l).scrub = s.scrub
      ∧ (s.takeDraws l).pwq = s.pwq ∧ (s.takeDraws l).tracker = s.tracker ∧ (s.takeDraws l).flushes = s.flushes
      ∧ (s.takeDraws l).notices = s.notices ∧ (s.takeDraws l).held = s.held ∧ (s.takeDraws l).power = s.power
      ∧ (s.takeDraws l).resetRec = s.resetRec := by
  have h : ((s.takeDraws l).powered, (s.takeDraws l).settings, (s.takeDraws l).nv, (s.takeDraws l).windows, (s.takeDraws l).accounts, (s.takeDraws l).meter, (s.takeDraws l).commit, (s.takeDraws l).keys, (s.takeDraws l).scrub, (s.takeDraws l).pwq, (s.takeDraws l).tracker, (s.takeDraws l).flushes, (s.takeDraws l).notices, (s.takeDraws l).held, (s.takeDraws l).power, (s.takeDraws l).resetRec) = (s.powered, s.settings, s.nv, s.windows, s.accounts, s.meter, s.commit, s.keys, s.scrub, s.pwq, s.tracker, s.flushes, s.notices, s.held, s.power, s.resetRec) := by
    unfold State.takeDraws; exact State.foldl_frame (fun s => (s.powered, s.settings, s.nv, s.windows, s.accounts, s.meter, s.commit, s.keys, s.scrub, s.pwq, s.tracker, s.flushes, s.notices, s.held, s.power, s.resetRec)) _ (fun s x => by simp) _ s
  simpa only [Prod.mk.injEq] using h

@[simp] theorem State.startCommit_frame (s : State) (c : BitVec 5) :
    (s.startCommit c).powered = s.powered ∧ (s.startCommit c).settings = s.settings
      ∧ (s.startCommit c).windows = s.windows ∧ (s.startCommit c).pages = s.pages
      ∧ (s.startCommit c).accounts = s.accounts ∧ (s.startCommit c).meter = s.meter
      ∧ (s.startCommit c).slots = s.slots ∧ (s.startCommit c).gauges = s.gauges ∧ (s.startCommit c).carry = s.carry
      ∧ (s.startCommit c).keys = s.keys ∧ (s.startCommit c).scrub = s.scrub ∧ (s.startCommit c).pwq = s.pwq
      ∧ (s.startCommit c).tracker = s.tracker ∧ (s.startCommit c).flushes = s.flushes
      ∧ (s.startCommit c).notices = s.notices ∧ (s.startCommit c).held = s.held ∧ (s.startCommit c).power = s.power
      ∧ (s.startCommit c).resetRec = s.resetRec := by
  unfold State.startCommit; simp

@[simp] theorem State.triggerCommit_frame (s : State) (c : Cause) :
    (s.triggerCommit c).powered = s.powered ∧ (s.triggerCommit c).settings = s.settings
      ∧ (s.triggerCommit c).windows = s.windows ∧ (s.triggerCommit c).pages = s.pages
      ∧ (s.triggerCommit c).accounts = s.accounts ∧ (s.triggerCommit c).meter = s.meter
      ∧ (s.triggerCommit c).slots = s.slots ∧ (s.triggerCommit c).gauges = s.gauges
      ∧ (s.triggerCommit c).carry = s.carry ∧ (s.triggerCommit c).keys = s.keys ∧ (s.triggerCommit c).scrub = s.scrub
      ∧ (s.triggerCommit c).pwq = s.pwq ∧ (s.triggerCommit c).tracker = s.tracker
      ∧ (s.triggerCommit c).flushes = s.flushes ∧ (s.triggerCommit c).notices = s.notices
      ∧ (s.triggerCommit c).held = s.held ∧ (s.triggerCommit c).power = s.power
      ∧ (s.triggerCommit c).resetRec = s.resetRec := by
  unfold State.triggerCommit; (repeat' split) <;> simp

@[simp] theorem State.raiseSince_frame (s : State) :
    (s.raiseSince).powered = s.powered ∧ (s.raiseSince).settings = s.settings ∧ (s.raiseSince).windows = s.windows
      ∧ (s.raiseSince).pages = s.pages ∧ (s.raiseSince).accounts = s.accounts ∧ (s.raiseSince).meter = s.meter
      ∧ (s.raiseSince).slots = s.slots ∧ (s.raiseSince).gauges = s.gauges ∧ (s.raiseSince).carry = s.carry
      ∧ (s.raiseSince).keys = s.keys ∧ (s.raiseSince).scrub = s.scrub ∧ (s.raiseSince).pwq = s.pwq
      ∧ (s.raiseSince).tracker = s.tracker ∧ (s.raiseSince).flushes = s.flushes ∧ (s.raiseSince).notices = s.notices
      ∧ (s.raiseSince).held = s.held ∧ (s.raiseSince).power = s.power ∧ (s.raiseSince).resetRec = s.resetRec := by
  unfold State.raiseSince; dsimp only; (repeat' split) <;> simp

@[simp] theorem State.startRemembered_frame (s : State) :
    (s.startRemembered).powered = s.powered ∧ (s.startRemembered).settings = s.settings
      ∧ (s.startRemembered).windows = s.windows ∧ (s.startRemembered).pages = s.pages
      ∧ (s.startRemembered).accounts = s.accounts ∧ (s.startRemembered).meter = s.meter
      ∧ (s.startRemembered).slots = s.slots ∧ (s.startRemembered).gauges = s.gauges
      ∧ (s.startRemembered).carry = s.carry ∧ (s.startRemembered).keys = s.keys ∧ (s.startRemembered).scrub = s.scrub
      ∧ (s.startRemembered).pwq = s.pwq ∧ (s.startRemembered).tracker = s.tracker
      ∧ (s.startRemembered).flushes = s.flushes ∧ (s.startRemembered).notices = s.notices
      ∧ (s.startRemembered).held = s.held ∧ (s.startRemembered).power = s.power
      ∧ (s.startRemembered).resetRec = s.resetRec := by
  unfold State.startRemembered; (repeat' split) <;> simp

@[simp] theorem State.commitDone_frame (s : State) :
    (s.commitDone).powered = s.powered ∧ (s.commitDone).settings = s.settings ∧ (s.commitDone).windows = s.windows
      ∧ (s.commitDone).pages = s.pages ∧ (s.commitDone).accounts = s.accounts ∧ (s.commitDone).meter = s.meter
      ∧ (s.commitDone).slots = s.slots ∧ (s.commitDone).gauges = s.gauges ∧ (s.commitDone).carry = s.carry
      ∧ (s.commitDone).keys = s.keys ∧ (s.commitDone).scrub = s.scrub ∧ (s.commitDone).pwq = s.pwq
      ∧ (s.commitDone).tracker = s.tracker ∧ (s.commitDone).flushes = s.flushes ∧ (s.commitDone).notices = s.notices
      ∧ (s.commitDone).held = s.held ∧ (s.commitDone).power = s.power ∧ (s.commitDone).resetRec = s.resetRec := by
  unfold State.commitDone; (repeat' split) <;> simp

@[simp] theorem State.commitFailed_frame (s : State) :
    (s.commitFailed).powered = s.powered ∧ (s.commitFailed).settings = s.settings
      ∧ (s.commitFailed).windows = s.windows ∧ (s.commitFailed).pages = s.pages
      ∧ (s.commitFailed).accounts = s.accounts ∧ (s.commitFailed).meter = s.meter ∧ (s.commitFailed).slots = s.slots
      ∧ (s.commitFailed).gauges = s.gauges ∧ (s.commitFailed).carry = s.carry ∧ (s.commitFailed).keys = s.keys
      ∧ (s.commitFailed).scrub = s.scrub ∧ (s.commitFailed).pwq = s.pwq ∧ (s.commitFailed).tracker = s.tracker
      ∧ (s.commitFailed).flushes = s.flushes ∧ (s.commitFailed).notices = s.notices ∧ (s.commitFailed).held = s.held
      ∧ (s.commitFailed).power = s.power ∧ (s.commitFailed).resetRec = s.resetRec := by
  unfold State.commitFailed; (repeat' split) <;> simp

@[simp] theorem State.sendNotReady_frame (s : State) (f : Frame) :
    (s.sendNotReady f).powered = s.powered ∧ (s.sendNotReady f).settings = s.settings ∧ (s.sendNotReady f).nv = s.nv
      ∧ (s.sendNotReady f).windows = s.windows ∧ (s.sendNotReady f).pages = s.pages
      ∧ (s.sendNotReady f).accounts = s.accounts ∧ (s.sendNotReady f).meter = s.meter
      ∧ (s.sendNotReady f).commit = s.commit ∧ (s.sendNotReady f).slots = s.slots
      ∧ (s.sendNotReady f).gauges = s.gauges ∧ (s.sendNotReady f).carry = s.carry ∧ (s.sendNotReady f).keys = s.keys
      ∧ (s.sendNotReady f).scrub = s.scrub ∧ (s.sendNotReady f).pwq = s.pwq ∧ (s.sendNotReady f).tracker = s.tracker
      ∧ (s.sendNotReady f).flushes = s.flushes ∧ (s.sendNotReady f).notices = s.notices
      ∧ (s.sendNotReady f).held = s.held ∧ (s.sendNotReady f).power = s.power
      ∧ (s.sendNotReady f).resetRec = s.resetRec := by
  unfold State.sendNotReady; simp

@[simp] theorem State.sendHeld_frame (s : State) (f : Frame) :
    (s.sendHeld f).powered = s.powered ∧ (s.sendHeld f).settings = s.settings ∧ (s.sendHeld f).nv = s.nv
      ∧ (s.sendHeld f).windows = s.windows ∧ (s.sendHeld f).pages = s.pages ∧ (s.sendHeld f).accounts = s.accounts
      ∧ (s.sendHeld f).meter = s.meter ∧ (s.sendHeld f).commit = s.commit ∧ (s.sendHeld f).slots = s.slots
      ∧ (s.sendHeld f).gauges = s.gauges ∧ (s.sendHeld f).carry = s.carry ∧ (s.sendHeld f).keys = s.keys
      ∧ (s.sendHeld f).scrub = s.scrub ∧ (s.sendHeld f).pwq = s.pwq ∧ (s.sendHeld f).tracker = s.tracker
      ∧ (s.sendHeld f).flushes = s.flushes ∧ (s.sendHeld f).notices = s.notices ∧ (s.sendHeld f).held = none
      ∧ (s.sendHeld f).power = s.power ∧ (s.sendHeld f).resetRec = s.resetRec := by
  unfold State.sendHeld; simp

@[simp] theorem State.raiseLive_frame (s : State) (i : WindowIdx) :
    (s.raiseLive i).powered = s.powered ∧ (s.raiseLive i).settings = s.settings ∧ (s.raiseLive i).nv = s.nv
      ∧ (s.raiseLive i).pages = s.pages ∧ (s.raiseLive i).accounts = s.accounts ∧ (s.raiseLive i).meter = s.meter
      ∧ (s.raiseLive i).commit = s.commit ∧ (s.raiseLive i).slots = s.slots ∧ (s.raiseLive i).gauges = s.gauges
      ∧ (s.raiseLive i).carry = s.carry ∧ (s.raiseLive i).keys = s.keys ∧ (s.raiseLive i).scrub = s.scrub
      ∧ (s.raiseLive i).pwq = s.pwq ∧ (s.raiseLive i).tracker = s.tracker ∧ (s.raiseLive i).flushes = s.flushes
      ∧ (s.raiseLive i).notices = s.notices ∧ (s.raiseLive i).held = s.held ∧ (s.raiseLive i).power = s.power
      ∧ (s.raiseLive i).resetRec = s.resetRec := by
  unfold State.raiseLive; simp

@[simp] theorem State.lowerLive_frame (s : State) (i : WindowIdx) :
    (s.lowerLive i).powered = s.powered ∧ (s.lowerLive i).settings = s.settings ∧ (s.lowerLive i).nv = s.nv
      ∧ (s.lowerLive i).pages = s.pages ∧ (s.lowerLive i).accounts = s.accounts ∧ (s.lowerLive i).meter = s.meter
      ∧ (s.lowerLive i).commit = s.commit ∧ (s.lowerLive i).slots = s.slots ∧ (s.lowerLive i).gauges = s.gauges
      ∧ (s.lowerLive i).carry = s.carry ∧ (s.lowerLive i).keys = s.keys ∧ (s.lowerLive i).scrub = s.scrub
      ∧ (s.lowerLive i).pwq = s.pwq ∧ (s.lowerLive i).tracker = s.tracker ∧ (s.lowerLive i).flushes = s.flushes
      ∧ (s.lowerLive i).notices = s.notices ∧ (s.lowerLive i).held = s.held ∧ (s.lowerLive i).power = s.power
      ∧ (s.lowerLive i).resetRec = s.resetRec := by
  unfold State.lowerLive; simp

@[simp] theorem State.endCharged_frame (s : State) (i : Fin 16) (p : Page) (c : Option CancelCause) :
    (s.endCharged i p c).powered = s.powered ∧ (s.endCharged i p c).settings = s.settings
      ∧ (s.endCharged i p c).keys = s.keys ∧ (s.endCharged i p c).scrub = s.scrub ∧ (s.endCharged i p c).pwq = s.pwq
      ∧ (s.endCharged i p c).tracker = s.tracker ∧ (s.endCharged i p c).flushes = s.flushes
      ∧ (s.endCharged i p c).notices = s.notices ∧ (s.endCharged i p c).held = s.held
      ∧ (s.endCharged i p c).power = s.power ∧ (s.endCharged i p c).resetRec = s.resetRec := by
  unfold State.endCharged; (repeat' split) <;> simp

@[simp] theorem State.endUncharged_frame (s : State) (i : Fin 16) (p : Page) (c : CancelCause) :
    (s.endUncharged i p c).powered = s.powered ∧ (s.endUncharged i p c).settings = s.settings
      ∧ (s.endUncharged i p c).nv = s.nv ∧ (s.endUncharged i p c).meter = s.meter
      ∧ (s.endUncharged i p c).commit = s.commit ∧ (s.endUncharged i p c).slots = s.slots
      ∧ (s.endUncharged i p c).gauges = s.gauges ∧ (s.endUncharged i p c).carry = s.carry
      ∧ (s.endUncharged i p c).keys = s.keys ∧ (s.endUncharged i p c).scrub = s.scrub
      ∧ (s.endUncharged i p c).pwq = s.pwq ∧ (s.endUncharged i p c).tracker = s.tracker
      ∧ (s.endUncharged i p c).flushes = s.flushes ∧ (s.endUncharged i p c).notices = s.notices
      ∧ (s.endUncharged i p c).held = s.held ∧ (s.endUncharged i p c).power = s.power
      ∧ (s.endUncharged i p c).resetRec = s.resetRec := by
  unfold State.endUncharged; simp

@[simp] theorem State.cancelPage_frame (s : State) (c : CancelCause) (i : Fin 16) :
    (s.cancelPage c i).powered = s.powered ∧ (s.cancelPage c i).settings = s.settings
      ∧ (s.cancelPage c i).keys = s.keys ∧ (s.cancelPage c i).scrub = s.scrub ∧ (s.cancelPage c i).pwq = s.pwq
      ∧ (s.cancelPage c i).tracker = s.tracker ∧ (s.cancelPage c i).flushes = s.flushes
      ∧ (s.cancelPage c i).notices = s.notices ∧ (s.cancelPage c i).held = s.held ∧ (s.cancelPage c i).power = s.power
      ∧ (s.cancelPage c i).resetRec = s.resetRec := by
  unfold State.cancelPage; (repeat' split) <;> simp

@[simp] theorem State.cancelAll_frame (s : State) :
    (s.cancelAll).powered = s.powered ∧ (s.cancelAll).settings = s.settings ∧ (s.cancelAll).keys = s.keys
      ∧ (s.cancelAll).scrub = s.scrub ∧ (s.cancelAll).pwq = s.pwq ∧ (s.cancelAll).tracker = s.tracker
      ∧ (s.cancelAll).flushes = s.flushes ∧ (s.cancelAll).notices = s.notices ∧ (s.cancelAll).held = s.held
      ∧ (s.cancelAll).power = s.power ∧ (s.cancelAll).resetRec = s.resetRec := by
  have h : ((s.cancelAll).powered, (s.cancelAll).settings, (s.cancelAll).keys, (s.cancelAll).scrub, (s.cancelAll).pwq, (s.cancelAll).tracker, (s.cancelAll).flushes, (s.cancelAll).notices, (s.cancelAll).held, (s.cancelAll).power, (s.cancelAll).resetRec) = (s.powered, s.settings, s.keys, s.scrub, s.pwq, s.tracker, s.flushes, s.notices, s.held, s.power, s.resetRec) := by
    unfold State.cancelAll; exact State.foldl_frame (fun s => (s.powered, s.settings, s.keys, s.scrub, s.pwq, s.tracker, s.flushes, s.notices, s.held, s.power, s.resetRec)) _ (fun s x => by simp) _ s
  simpa only [Prod.mk.injEq] using h

@[simp] theorem State.countBeat_frame (s : State) (r : Option PlaneRef) (n : Nat) (b : Bool) (x : Beat) :
    (s.countBeat r n b x).powered = s.powered ∧ (s.countBeat r n b x).settings = s.settings
      ∧ (s.countBeat r n b x).keys = s.keys ∧ (s.countBeat r n b x).scrub = s.scrub
      ∧ (s.countBeat r n b x).pwq = s.pwq ∧ (s.countBeat r n b x).tracker = s.tracker
      ∧ (s.countBeat r n b x).flushes = s.flushes ∧ (s.countBeat r n b x).notices = s.notices
      ∧ (s.countBeat r n b x).held = s.held ∧ (s.countBeat r n b x).power = s.power
      ∧ (s.countBeat r n b x).resetRec = s.resetRec := by
  unfold State.countBeat; dsimp only; (repeat' split) <;> simp

@[simp] theorem State.setMessage_frame (s : State) (k : Colour) (m : Option Message) :
    (s.setMessage k m).powered = s.powered ∧ (s.setMessage k m).settings = s.settings ∧ (s.setMessage k m).nv = s.nv
      ∧ (s.setMessage k m).windows = s.windows ∧ (s.setMessage k m).pages = s.pages
      ∧ (s.setMessage k m).accounts = s.accounts ∧ (s.setMessage k m).meter = s.meter
      ∧ (s.setMessage k m).commit = s.commit ∧ (s.setMessage k m).gauges = s.gauges
      ∧ (s.setMessage k m).carry = s.carry ∧ (s.setMessage k m).keys = s.keys ∧ (s.setMessage k m).scrub = s.scrub
      ∧ (s.setMessage k m).pwq = s.pwq ∧ (s.setMessage k m).tracker = s.tracker
      ∧ (s.setMessage k m).flushes = s.flushes ∧ (s.setMessage k m).notices = s.notices
      ∧ (s.setMessage k m).held = s.held ∧ (s.setMessage k m).power = s.power
      ∧ (s.setMessage k m).resetRec = s.resetRec := by
  unfold State.setMessage; simp

@[simp] theorem State.failAttempt_frame (s : State) (k : Colour) :
    (s.failAttempt k).powered = s.powered ∧ (s.failAttempt k).settings = s.settings ∧ (s.failAttempt k).nv = s.nv
      ∧ (s.failAttempt k).windows = s.windows ∧ (s.failAttempt k).accounts = s.accounts
      ∧ (s.failAttempt k).meter = s.meter ∧ (s.failAttempt k).commit = s.commit ∧ (s.failAttempt k).keys = s.keys
      ∧ (s.failAttempt k).scrub = s.scrub ∧ (s.failAttempt k).pwq = s.pwq ∧ (s.failAttempt k).tracker = s.tracker
      ∧ (s.failAttempt k).flushes = s.flushes ∧ (s.failAttempt k).notices = s.notices
      ∧ (s.failAttempt k).held = s.held ∧ (s.failAttempt k).power = s.power ∧ (s.failAttempt k).resetRec = s.resetRec := by
  unfold State.failAttempt; (repeat' split) <;> simp

@[simp] theorem State.drawn_frame (s : State) :
    (s.drawn).powered = s.powered ∧ (s.drawn).settings = s.settings ∧ (s.drawn).nv = s.nv
      ∧ (s.drawn).windows = s.windows ∧ (s.drawn).pages = s.pages ∧ (s.drawn).accounts = s.accounts
      ∧ (s.drawn).meter = s.meter ∧ (s.drawn).commit = s.commit ∧ (s.drawn).slots = s.slots
      ∧ (s.drawn).gauges = s.gauges ∧ (s.drawn).carry = s.carry ∧ (s.drawn).keys = s.keys ∧ (s.drawn).scrub = s.scrub
      ∧ (s.drawn).pwq = s.pwq ∧ (s.drawn).tracker = s.tracker ∧ (s.drawn).flushes = s.flushes
      ∧ (s.drawn).notices = s.notices ∧ (s.drawn).held = s.held ∧ (s.drawn).power = s.power
      ∧ (s.drawn).resetRec = s.resetRec := by
  unfold State.drawn; simp

@[simp] theorem State.nextAttempt_frame (s : State) (k : Colour) (m : Message) :
    (s.nextAttempt k m).powered = s.powered ∧ (s.nextAttempt k m).settings = s.settings
      ∧ (s.nextAttempt k m).nv = s.nv ∧ (s.nextAttempt k m).windows = s.windows ∧ (s.nextAttempt k m).pages = s.pages
      ∧ (s.nextAttempt k m).accounts = s.accounts ∧ (s.nextAttempt k m).meter = s.meter
      ∧ (s.nextAttempt k m).commit = s.commit ∧ (s.nextAttempt k m).gauges = s.gauges
      ∧ (s.nextAttempt k m).carry = s.carry ∧ (s.nextAttempt k m).keys = s.keys ∧ (s.nextAttempt k m).scrub = s.scrub
      ∧ (s.nextAttempt k m).pwq = s.pwq ∧ (s.nextAttempt k m).tracker = s.tracker
      ∧ (s.nextAttempt k m).flushes = s.flushes ∧ (s.nextAttempt k m).notices = s.notices
      ∧ (s.nextAttempt k m).held = s.held ∧ (s.nextAttempt k m).power = s.power
      ∧ (s.nextAttempt k m).resetRec = s.resetRec := by
  unfold State.nextAttempt; (repeat' split) <;> simp

@[simp] theorem State.reprobeSlot_frame (s : State) (k : Colour) (r : Reason) :
    (s.reprobeSlot k r).powered = s.powered ∧ (s.reprobeSlot k r).settings = s.settings
      ∧ (s.reprobeSlot k r).nv = s.nv ∧ (s.reprobeSlot k r).windows = s.windows
      ∧ (s.reprobeSlot k r).accounts = s.accounts ∧ (s.reprobeSlot k r).meter = s.meter
      ∧ (s.reprobeSlot k r).commit = s.commit ∧ (s.reprobeSlot k r).keys = s.keys
      ∧ (s.reprobeSlot k r).scrub = s.scrub ∧ (s.reprobeSlot k r).pwq = s.pwq
      ∧ (s.reprobeSlot k r).tracker = s.tracker ∧ (s.reprobeSlot k r).flushes = s.flushes
      ∧ (s.reprobeSlot k r).notices = s.notices ∧ (s.reprobeSlot k r).held = s.held
      ∧ (s.reprobeSlot k r).power = s.power ∧ (s.reprobeSlot k r).resetRec = s.resetRec := by
  unfold State.reprobeSlot; (repeat' split) <;> simp

@[simp] theorem State.reprobeAll_frame (s : State) (r : Reason) :
    (s.reprobeAll r).powered = s.powered ∧ (s.reprobeAll r).settings = s.settings ∧ (s.reprobeAll r).nv = s.nv
      ∧ (s.reprobeAll r).windows = s.windows ∧ (s.reprobeAll r).accounts = s.accounts
      ∧ (s.reprobeAll r).meter = s.meter ∧ (s.reprobeAll r).commit = s.commit ∧ (s.reprobeAll r).keys = s.keys
      ∧ (s.reprobeAll r).scrub = s.scrub ∧ (s.reprobeAll r).pwq = s.pwq ∧ (s.reprobeAll r).tracker = s.tracker
      ∧ (s.reprobeAll r).flushes = s.flushes ∧ (s.reprobeAll r).notices = s.notices ∧ (s.reprobeAll r).held = s.held
      ∧ (s.reprobeAll r).power = s.power ∧ (s.reprobeAll r).resetRec = s.resetRec := by
  have h : ((s.reprobeAll r).powered, (s.reprobeAll r).settings, (s.reprobeAll r).nv, (s.reprobeAll r).windows, (s.reprobeAll r).accounts, (s.reprobeAll r).meter, (s.reprobeAll r).commit, (s.reprobeAll r).keys, (s.reprobeAll r).scrub, (s.reprobeAll r).pwq, (s.reprobeAll r).tracker, (s.reprobeAll r).flushes, (s.reprobeAll r).notices, (s.reprobeAll r).held, (s.reprobeAll r).power, (s.reprobeAll r).resetRec) = (s.powered, s.settings, s.nv, s.windows, s.accounts, s.meter, s.commit, s.keys, s.scrub, s.pwq, s.tracker, s.flushes, s.notices, s.held, s.power, s.resetRec) := by
    unfold State.reprobeAll; exact State.foldl_frame (fun s => (s.powered, s.settings, s.nv, s.windows, s.accounts, s.meter, s.commit, s.keys, s.scrub, s.pwq, s.tracker, s.flushes, s.notices, s.held, s.power, s.resetRec)) _ (fun s x => by simp) _ s
  simpa only [Prod.mk.injEq] using h

@[simp] theorem State.judgeHello_frame (s : State) (k : Colour) (r : Record) :
    (s.judgeHello k r).powered = s.powered ∧ (s.judgeHello k r).settings = s.settings ∧ (s.judgeHello k r).nv = s.nv
      ∧ (s.judgeHello k r).windows = s.windows ∧ (s.judgeHello k r).accounts = s.accounts
      ∧ (s.judgeHello k r).meter = s.meter ∧ (s.judgeHello k r).commit = s.commit ∧ (s.judgeHello k r).keys = s.keys
      ∧ (s.judgeHello k r).scrub = s.scrub ∧ (s.judgeHello k r).pwq = s.pwq ∧ (s.judgeHello k r).tracker = s.tracker
      ∧ (s.judgeHello k r).flushes = s.flushes ∧ (s.judgeHello k r).notices = s.notices
      ∧ (s.judgeHello k r).held = s.held ∧ (s.judgeHello k r).power = s.power
      ∧ (s.judgeHello k r).resetRec = s.resetRec := by
  unfold State.judgeHello; (repeat' split) <;> simp

@[simp] theorem State.abortIfOwed_frame (s : State) (k : Colour) :
    (s.abortIfOwed k).powered = s.powered ∧ (s.abortIfOwed k).settings = s.settings ∧ (s.abortIfOwed k).nv = s.nv
      ∧ (s.abortIfOwed k).windows = s.windows ∧ (s.abortIfOwed k).accounts = s.accounts
      ∧ (s.abortIfOwed k).meter = s.meter ∧ (s.abortIfOwed k).commit = s.commit ∧ (s.abortIfOwed k).slots = s.slots
      ∧ (s.abortIfOwed k).gauges = s.gauges ∧ (s.abortIfOwed k).carry = s.carry ∧ (s.abortIfOwed k).keys = s.keys
      ∧ (s.abortIfOwed k).scrub = s.scrub ∧ (s.abortIfOwed k).pwq = s.pwq ∧ (s.abortIfOwed k).tracker = s.tracker
      ∧ (s.abortIfOwed k).flushes = s.flushes ∧ (s.abortIfOwed k).notices = s.notices
      ∧ (s.abortIfOwed k).held = s.held ∧ (s.abortIfOwed k).resetRec = s.resetRec := by
  unfold State.abortIfOwed; (repeat' split) <;> simp

@[simp] theorem State.judgeProve_frame (s : State) (k : Colour) (r : Record) (n : BitVec 128) (t : BitVec 64) :
    (s.judgeProve k r n t).powered = s.powered ∧ (s.judgeProve k r n t).settings = s.settings
      ∧ (s.judgeProve k r n t).nv = s.nv ∧ (s.judgeProve k r n t).windows = s.windows
      ∧ (s.judgeProve k r n t).accounts = s.accounts ∧ (s.judgeProve k r n t).meter = s.meter
      ∧ (s.judgeProve k r n t).commit = s.commit ∧ (s.judgeProve k r n t).keys = s.keys
      ∧ (s.judgeProve k r n t).scrub = s.scrub ∧ (s.judgeProve k r n t).pwq = s.pwq
      ∧ (s.judgeProve k r n t).tracker = s.tracker ∧ (s.judgeProve k r n t).flushes = s.flushes
      ∧ (s.judgeProve k r n t).notices = s.notices ∧ (s.judgeProve k r n t).held = s.held
      ∧ (s.judgeProve k r n t).resetRec = s.resetRec := by
  unfold State.judgeProve; (repeat' split) <;> simp

@[simp] theorem State.recompute_frame (s : State) (k : Colour) :
    (s.recompute k).powered = s.powered ∧ (s.recompute k).settings = s.settings ∧ (s.recompute k).nv = s.nv
      ∧ (s.recompute k).windows = s.windows ∧ (s.recompute k).accounts = s.accounts ∧ (s.recompute k).meter = s.meter
      ∧ (s.recompute k).commit = s.commit ∧ (s.recompute k).slots = s.slots ∧ (s.recompute k).carry = s.carry
      ∧ (s.recompute k).keys = s.keys ∧ (s.recompute k).scrub = s.scrub ∧ (s.recompute k).pwq = s.pwq
      ∧ (s.recompute k).tracker = s.tracker ∧ (s.recompute k).flushes = s.flushes
      ∧ (s.recompute k).notices = s.notices ∧ (s.recompute k).held = s.held ∧ (s.recompute k).power = s.power
      ∧ (s.recompute k).resetRec = s.resetRec := by
  unfold State.recompute; simp

@[simp] theorem State.ackDebit_frame (s : State) (k : Colour) (p : Posting) (r : DebitReply) :
    (s.ackDebit k p r).powered = s.powered ∧ (s.ackDebit k p r).settings = s.settings ∧ (s.ackDebit k p r).nv = s.nv
      ∧ (s.ackDebit k p r).windows = s.windows ∧ (s.ackDebit k p r).accounts = s.accounts
      ∧ (s.ackDebit k p r).meter = s.meter ∧ (s.ackDebit k p r).commit = s.commit ∧ (s.ackDebit k p r).carry = s.carry
      ∧ (s.ackDebit k p r).keys = s.keys ∧ (s.ackDebit k p r).scrub = s.scrub ∧ (s.ackDebit k p r).pwq = s.pwq
      ∧ (s.ackDebit k p r).tracker = s.tracker ∧ (s.ackDebit k p r).flushes = s.flushes
      ∧ (s.ackDebit k p r).notices = s.notices ∧ (s.ackDebit k p r).held = s.held ∧ (s.ackDebit k p r).power = s.power
      ∧ (s.ackDebit k p r).resetRec = s.resetRec := by
  unfold State.ackDebit; simp

@[simp] theorem State.seqError_frame (s : State) (k : Colour) (r : Record) (p : Posting) :
    (s.seqError k r p).powered = s.powered ∧ (s.seqError k r p).settings = s.settings ∧ (s.seqError k r p).nv = s.nv
      ∧ (s.seqError k r p).windows = s.windows ∧ (s.seqError k r p).accounts = s.accounts
      ∧ (s.seqError k r p).meter = s.meter ∧ (s.seqError k r p).commit = s.commit ∧ (s.seqError k r p).keys = s.keys
      ∧ (s.seqError k r p).scrub = s.scrub ∧ (s.seqError k r p).pwq = s.pwq ∧ (s.seqError k r p).tracker = s.tracker
      ∧ (s.seqError k r p).flushes = s.flushes ∧ (s.seqError k r p).notices = s.notices
      ∧ (s.seqError k r p).held = s.held ∧ (s.seqError k r p).power = s.power
      ∧ (s.seqError k r p).resetRec = s.resetRec := by
  unfold State.seqError; (repeat' split) <;> simp

@[simp] theorem State.judgeDebit_frame (s : State) (k : Colour) (r : Record) (p : Posting) (x : DebitReply) :
    (s.judgeDebit k r p x).powered = s.powered ∧ (s.judgeDebit k r p x).settings = s.settings
      ∧ (s.judgeDebit k r p x).nv = s.nv ∧ (s.judgeDebit k r p x).windows = s.windows
      ∧ (s.judgeDebit k r p x).accounts = s.accounts ∧ (s.judgeDebit k r p x).meter = s.meter
      ∧ (s.judgeDebit k r p x).commit = s.commit ∧ (s.judgeDebit k r p x).keys = s.keys
      ∧ (s.judgeDebit k r p x).scrub = s.scrub ∧ (s.judgeDebit k r p x).pwq = s.pwq
      ∧ (s.judgeDebit k r p x).tracker = s.tracker ∧ (s.judgeDebit k r p x).flushes = s.flushes
      ∧ (s.judgeDebit k r p x).notices = s.notices ∧ (s.judgeDebit k r p x).held = s.held
      ∧ (s.judgeDebit k r p x).power = s.power ∧ (s.judgeDebit k r p x).resetRec = s.resetRec := by
  unfold State.judgeDebit; (repeat' split) <;> simp

@[simp] theorem State.judgeResync_frame (s : State) (k : Colour) (r : Record) (p : Posting) (x : Record) :
    (s.judgeResync k r p x).powered = s.powered ∧ (s.judgeResync k r p x).settings = s.settings
      ∧ (s.judgeResync k r p x).nv = s.nv ∧ (s.judgeResync k r p x).windows = s.windows
      ∧ (s.judgeResync k r p x).accounts = s.accounts ∧ (s.judgeResync k r p x).meter = s.meter
      ∧ (s.judgeResync k r p x).commit = s.commit ∧ (s.judgeResync k r p x).keys = s.keys
      ∧ (s.judgeResync k r p x).scrub = s.scrub ∧ (s.judgeResync k r p x).pwq = s.pwq
      ∧ (s.judgeResync k r p x).tracker = s.tracker ∧ (s.judgeResync k r p x).flushes = s.flushes
      ∧ (s.judgeResync k r p x).notices = s.notices ∧ (s.judgeResync k r p x).held = s.held
      ∧ (s.judgeResync k r p x).power = s.power ∧ (s.judgeResync k r p x).resetRec = s.resetRec := by
  unfold State.judgeResync; dsimp only; (repeat' split) <;> simp

@[simp] theorem State.judgeReply_frame (s : State) (k : Colour) (l : List Byte) :
    (s.judgeReply k l).powered = s.powered ∧ (s.judgeReply k l).settings = s.settings ∧ (s.judgeReply k l).nv = s.nv
      ∧ (s.judgeReply k l).windows = s.windows ∧ (s.judgeReply k l).accounts = s.accounts
      ∧ (s.judgeReply k l).meter = s.meter ∧ (s.judgeReply k l).commit = s.commit ∧ (s.judgeReply k l).keys = s.keys
      ∧ (s.judgeReply k l).scrub = s.scrub ∧ (s.judgeReply k l).pwq = s.pwq ∧ (s.judgeReply k l).tracker = s.tracker
      ∧ (s.judgeReply k l).flushes = s.flushes ∧ (s.judgeReply k l).notices = s.notices
      ∧ (s.judgeReply k l).held = s.held ∧ (s.judgeReply k l).resetRec = s.resetRec := by
  unfold State.judgeReply; dsimp only; (repeat' split) <;> simp

@[simp] theorem State.takeReply_frame (s : State) (k : Colour) (l : List Byte) :
    (s.takeReply k l).powered = s.powered ∧ (s.takeReply k l).settings = s.settings ∧ (s.takeReply k l).nv = s.nv
      ∧ (s.takeReply k l).windows = s.windows ∧ (s.takeReply k l).accounts = s.accounts
      ∧ (s.takeReply k l).meter = s.meter ∧ (s.takeReply k l).commit = s.commit ∧ (s.takeReply k l).keys = s.keys
      ∧ (s.takeReply k l).scrub = s.scrub ∧ (s.takeReply k l).pwq = s.pwq ∧ (s.takeReply k l).tracker = s.tracker
      ∧ (s.takeReply k l).flushes = s.flushes ∧ (s.takeReply k l).notices = s.notices
      ∧ (s.takeReply k l).held = s.held ∧ (s.takeReply k l).resetRec = s.resetRec := by
  unfold State.takeReply; split <;> simp

@[simp] theorem State.setPresence_frame (s : State) (k : Colour) (p : Presence) :
    (s.setPresence k p).powered = s.powered ∧ (s.setPresence k p).settings = s.settings
      ∧ (s.setPresence k p).nv = s.nv ∧ (s.setPresence k p).windows = s.windows ∧ (s.setPresence k p).pages = s.pages
      ∧ (s.setPresence k p).accounts = s.accounts ∧ (s.setPresence k p).meter = s.meter
      ∧ (s.setPresence k p).commit = s.commit ∧ (s.setPresence k p).gauges = s.gauges
      ∧ (s.setPresence k p).carry = s.carry ∧ (s.setPresence k p).keys = s.keys ∧ (s.setPresence k p).scrub = s.scrub
      ∧ (s.setPresence k p).pwq = s.pwq ∧ (s.setPresence k p).tracker = s.tracker
      ∧ (s.setPresence k p).flushes = s.flushes ∧ (s.setPresence k p).notices = s.notices
      ∧ (s.setPresence k p).held = s.held ∧ (s.setPresence k p).power = s.power
      ∧ (s.setPresence k p).resetRec = s.resetRec := by
  unfold State.setPresence; simp

@[simp] theorem State.setPresenceLine_frame (s : State) (k : Colour) (b : Bool) :
    (s.setPresenceLine k b).powered = s.powered ∧ (s.setPresenceLine k b).settings = s.settings
      ∧ (s.setPresenceLine k b).nv = s.nv ∧ (s.setPresenceLine k b).windows = s.windows
      ∧ (s.setPresenceLine k b).pages = s.pages ∧ (s.setPresenceLine k b).accounts = s.accounts
      ∧ (s.setPresenceLine k b).meter = s.meter ∧ (s.setPresenceLine k b).commit = s.commit
      ∧ (s.setPresenceLine k b).slots = s.slots ∧ (s.setPresenceLine k b).gauges = s.gauges
      ∧ (s.setPresenceLine k b).carry = s.carry ∧ (s.setPresenceLine k b).keys = s.keys
      ∧ (s.setPresenceLine k b).scrub = s.scrub ∧ (s.setPresenceLine k b).pwq = s.pwq
      ∧ (s.setPresenceLine k b).tracker = s.tracker ∧ (s.setPresenceLine k b).flushes = s.flushes
      ∧ (s.setPresenceLine k b).notices = s.notices ∧ (s.setPresenceLine k b).held = s.held
      ∧ (s.setPresenceLine k b).power = s.power ∧ (s.setPresenceLine k b).resetRec = s.resetRec := by
  unfold State.setPresenceLine; simp

@[simp] theorem State.lineRises_frame (s : State) (k : Colour) :
    (s.lineRises k).powered = s.powered ∧ (s.lineRises k).settings = s.settings ∧ (s.lineRises k).nv = s.nv
      ∧ (s.lineRises k).windows = s.windows ∧ (s.lineRises k).pages = s.pages ∧ (s.lineRises k).accounts = s.accounts
      ∧ (s.lineRises k).meter = s.meter ∧ (s.lineRises k).commit = s.commit ∧ (s.lineRises k).gauges = s.gauges
      ∧ (s.lineRises k).carry = s.carry ∧ (s.lineRises k).keys = s.keys ∧ (s.lineRises k).scrub = s.scrub
      ∧ (s.lineRises k).pwq = s.pwq ∧ (s.lineRises k).tracker = s.tracker ∧ (s.lineRises k).flushes = s.flushes
      ∧ (s.lineRises k).notices = s.notices ∧ (s.lineRises k).held = s.held ∧ (s.lineRises k).power = s.power
      ∧ (s.lineRises k).resetRec = s.resetRec := by
  unfold State.lineRises; (repeat' split) <;> simp

@[simp] theorem State.lineDrops_frame (s : State) (k : Colour) :
    (s.lineDrops k).powered = s.powered ∧ (s.lineDrops k).settings = s.settings ∧ (s.lineDrops k).nv = s.nv
      ∧ (s.lineDrops k).windows = s.windows ∧ (s.lineDrops k).accounts = s.accounts ∧ (s.lineDrops k).meter = s.meter
      ∧ (s.lineDrops k).commit = s.commit ∧ (s.lineDrops k).keys = s.keys ∧ (s.lineDrops k).scrub = s.scrub
      ∧ (s.lineDrops k).pwq = s.pwq ∧ (s.lineDrops k).tracker = s.tracker ∧ (s.lineDrops k).flushes = s.flushes
      ∧ (s.lineDrops k).notices = s.notices ∧ (s.lineDrops k).held = s.held ∧ (s.lineDrops k).power = s.power
      ∧ (s.lineDrops k).resetRec = s.resetRec := by
  unfold State.lineDrops; dsimp only; (repeat' split) <;> simp

@[simp] theorem State.settled_frame (s : State) (k : Colour) :
    (s.settled k).powered = s.powered ∧ (s.settled k).settings = s.settings ∧ (s.settled k).nv = s.nv
      ∧ (s.settled k).windows = s.windows ∧ (s.settled k).accounts = s.accounts ∧ (s.settled k).meter = s.meter
      ∧ (s.settled k).commit = s.commit ∧ (s.settled k).keys = s.keys ∧ (s.settled k).scrub = s.scrub
      ∧ (s.settled k).pwq = s.pwq ∧ (s.settled k).tracker = s.tracker ∧ (s.settled k).flushes = s.flushes
      ∧ (s.settled k).notices = s.notices ∧ (s.settled k).held = s.held ∧ (s.settled k).power = s.power
      ∧ (s.settled k).resetRec = s.resetRec := by
  unfold State.settled; dsimp only; (repeat' split) <;> simp

@[simp] theorem State.idleChannel_frame (s : State) (c : ChannelId) :
    (s.idleChannel c).powered = s.powered ∧ (s.idleChannel c).settings = s.settings ∧ (s.idleChannel c).nv = s.nv
      ∧ (s.idleChannel c).windows = s.windows ∧ (s.idleChannel c).pages = s.pages
      ∧ (s.idleChannel c).accounts = s.accounts ∧ (s.idleChannel c).meter = s.meter
      ∧ (s.idleChannel c).commit = s.commit ∧ (s.idleChannel c).slots = s.slots ∧ (s.idleChannel c).gauges = s.gauges
      ∧ (s.idleChannel c).carry = s.carry ∧ (s.idleChannel c).keys = s.keys ∧ (s.idleChannel c).pwq = s.pwq
      ∧ (s.idleChannel c).tracker = s.tracker ∧ (s.idleChannel c).flushes = s.flushes
      ∧ (s.idleChannel c).notices = s.notices ∧ (s.idleChannel c).held = s.held ∧ (s.idleChannel c).power = s.power
      ∧ (s.idleChannel c).resetRec = s.resetRec := by
  unfold State.idleChannel; simp

@[simp] theorem State.idleChannel_scrub (s : State) (c : ChannelId) :
    (s.idleChannel c).scrub = ⟨s.scrub.chans.set c {}, s.scrub.queue, s.markAtIdle c⟩ := rfl

/-- The choice of R178 arises only where the other channel became IDLE last, nothing was assigned since and two jobs or
more wait. -/
theorem State.markAtIdle_eq_together (s : State) (c : ChannelId) :
    s.markAtIdle c = .together ↔ s.assigns = true ∧ s.scrub.idleMark = .fresh (1 - c) ∧ 2 ≤ s.scrub.queue.length := by
  unfold State.markAtIdle
  split
  · rename_i h
    rcases h with h | h <;> simp [h]
  · split <;> simp_all

@[simp] theorem ScrubEngine.dropRekey_chans (e : ScrubEngine) (i : WindowIdx) : (e.dropRekey i).chans = e.chans := rfl
@[simp] theorem ScrubEngine.dropRekey_queue (e : ScrubEngine) (i : WindowIdx) :
    (e.dropRekey i).queue = e.queue.filter (fun j => !j.isRekeyOf i) := rfl

@[simp] theorem State.joinQueue_frame (s : State) (j : Job) :
    (s.joinQueue j).powered = s.powered ∧ (s.joinQueue j).settings = s.settings ∧ (s.joinQueue j).nv = s.nv
      ∧ (s.joinQueue j).windows = s.windows ∧ (s.joinQueue j).pages = s.pages ∧ (s.joinQueue j).accounts = s.accounts
      ∧ (s.joinQueue j).meter = s.meter ∧ (s.joinQueue j).commit = s.commit ∧ (s.joinQueue j).slots = s.slots
      ∧ (s.joinQueue j).gauges = s.gauges ∧ (s.joinQueue j).carry = s.carry ∧ (s.joinQueue j).keys = s.keys
      ∧ (s.joinQueue j).pwq = s.pwq ∧ (s.joinQueue j).tracker = s.tracker ∧ (s.joinQueue j).flushes = s.flushes
      ∧ (s.joinQueue j).notices = s.notices ∧ (s.joinQueue j).held = s.held ∧ (s.joinQueue j).power = s.power
      ∧ (s.joinQueue j).resetRec = s.resetRec := by
  unfold State.joinQueue; simp

@[simp] theorem State.endDrain_frame (s : State) (i : WindowIdx) :
    (s.endDrain i).powered = s.powered ∧ (s.endDrain i).settings = s.settings ∧ (s.endDrain i).nv = s.nv
      ∧ (s.endDrain i).pages = s.pages ∧ (s.endDrain i).accounts = s.accounts ∧ (s.endDrain i).meter = s.meter
      ∧ (s.endDrain i).commit = s.commit ∧ (s.endDrain i).slots = s.slots ∧ (s.endDrain i).gauges = s.gauges
      ∧ (s.endDrain i).carry = s.carry ∧ (s.endDrain i).pwq = s.pwq ∧ (s.endDrain i).tracker = s.tracker
      ∧ (s.endDrain i).flushes = s.flushes ∧ (s.endDrain i).notices = s.notices ∧ (s.endDrain i).held = s.held
      ∧ (s.endDrain i).power = s.power ∧ (s.endDrain i).resetRec = s.resetRec := by
  unfold State.endDrain; dsimp only; (repeat' split) <;> simp

@[simp] theorem State.endDrainIfDone_frame (s : State) (i : WindowIdx) :
    (s.endDrainIfDone i).powered = s.powered ∧ (s.endDrainIfDone i).settings = s.settings
      ∧ (s.endDrainIfDone i).nv = s.nv ∧ (s.endDrainIfDone i).pages = s.pages
      ∧ (s.endDrainIfDone i).accounts = s.accounts ∧ (s.endDrainIfDone i).meter = s.meter
      ∧ (s.endDrainIfDone i).commit = s.commit ∧ (s.endDrainIfDone i).slots = s.slots
      ∧ (s.endDrainIfDone i).gauges = s.gauges ∧ (s.endDrainIfDone i).carry = s.carry
      ∧ (s.endDrainIfDone i).pwq = s.pwq ∧ (s.endDrainIfDone i).tracker = s.tracker
      ∧ (s.endDrainIfDone i).flushes = s.flushes ∧ (s.endDrainIfDone i).notices = s.notices
      ∧ (s.endDrainIfDone i).held = s.held ∧ (s.endDrainIfDone i).power = s.power
      ∧ (s.endDrainIfDone i).resetRec = s.resetRec := by
  unfold State.endDrainIfDone; (repeat' split) <;> simp

@[simp] theorem State.drawKey_frame (s : State) (i : WindowIdx) :
    (s.drawKey i).powered = s.powered ∧ (s.drawKey i).settings = s.settings ∧ (s.drawKey i).nv = s.nv
      ∧ (s.drawKey i).windows = s.windows ∧ (s.drawKey i).pages = s.pages ∧ (s.drawKey i).accounts = s.accounts
      ∧ (s.drawKey i).meter = s.meter ∧ (s.drawKey i).commit = s.commit ∧ (s.drawKey i).slots = s.slots
      ∧ (s.drawKey i).gauges = s.gauges ∧ (s.drawKey i).carry = s.carry ∧ (s.drawKey i).scrub = s.scrub
      ∧ (s.drawKey i).pwq = s.pwq ∧ (s.drawKey i).tracker = s.tracker ∧ (s.drawKey i).flushes = s.flushes
      ∧ (s.drawKey i).notices = s.notices ∧ (s.drawKey i).held = s.held ∧ (s.drawKey i).power = s.power
      ∧ (s.drawKey i).resetRec = s.resetRec := by
  unfold State.drawKey; simp

@[simp] theorem State.denyHeld_frame (s : State) (e : TrackerEntry) :
    (s.denyHeld e).powered = s.powered ∧ (s.denyHeld e).settings = s.settings ∧ (s.denyHeld e).nv = s.nv
      ∧ (s.denyHeld e).windows = s.windows ∧ (s.denyHeld e).pages = s.pages ∧ (s.denyHeld e).accounts = s.accounts
      ∧ (s.denyHeld e).meter = s.meter ∧ (s.denyHeld e).commit = s.commit ∧ (s.denyHeld e).slots = s.slots
      ∧ (s.denyHeld e).gauges = s.gauges ∧ (s.denyHeld e).carry = s.carry ∧ (s.denyHeld e).keys = s.keys
      ∧ (s.denyHeld e).scrub = s.scrub ∧ (s.denyHeld e).pwq = s.pwq ∧ (s.denyHeld e).tracker = s.tracker
      ∧ (s.denyHeld e).flushes = s.flushes ∧ (s.denyHeld e).notices = s.notices ∧ (s.denyHeld e).held = s.held
      ∧ (s.denyHeld e).power = s.power ∧ (s.denyHeld e).resetRec = s.resetRec := by
  unfold State.denyHeld; simp

@[simp] theorem State.denyHeldReads_frame (s : State) (w : WindowRef) :
    (s.denyHeldReads w).powered = s.powered ∧ (s.denyHeldReads w).settings = s.settings
      ∧ (s.denyHeldReads w).nv = s.nv ∧ (s.denyHeldReads w).windows = s.windows ∧ (s.denyHeldReads w).pages = s.pages
      ∧ (s.denyHeldReads w).accounts = s.accounts ∧ (s.denyHeldReads w).meter = s.meter
      ∧ (s.denyHeldReads w).commit = s.commit ∧ (s.denyHeldReads w).slots = s.slots
      ∧ (s.denyHeldReads w).gauges = s.gauges ∧ (s.denyHeldReads w).carry = s.carry
      ∧ (s.denyHeldReads w).keys = s.keys ∧ (s.denyHeldReads w).scrub = s.scrub ∧ (s.denyHeldReads w).pwq = s.pwq
      ∧ (s.denyHeldReads w).flushes = s.flushes ∧ (s.denyHeldReads w).notices = s.notices
      ∧ (s.denyHeldReads w).held = s.held ∧ (s.denyHeldReads w).power = s.power
      ∧ (s.denyHeldReads w).resetRec = s.resetRec := by
  have h : ((s.denyHeldReads w).powered, (s.denyHeldReads w).settings, (s.denyHeldReads w).nv, (s.denyHeldReads w).windows, (s.denyHeldReads w).pages, (s.denyHeldReads w).accounts, (s.denyHeldReads w).meter, (s.denyHeldReads w).commit, (s.denyHeldReads w).slots, (s.denyHeldReads w).gauges, (s.denyHeldReads w).carry, (s.denyHeldReads w).keys, (s.denyHeldReads w).scrub, (s.denyHeldReads w).pwq, (s.denyHeldReads w).flushes, (s.denyHeldReads w).notices, (s.denyHeldReads w).held, (s.denyHeldReads w).power, (s.denyHeldReads w).resetRec) = (s.powered, s.settings, s.nv, s.windows, s.pages, s.accounts, s.meter, s.commit, s.slots, s.gauges, s.carry, s.keys, s.scrub, s.pwq, s.flushes, s.notices, s.held, s.power, s.resetRec) := by
    unfold State.denyHeldReads; first | rfl | exact State.foldl_frame (fun s => (s.powered, s.settings, s.nv, s.windows, s.pages, s.accounts, s.meter, s.commit, s.slots, s.gauges, s.carry, s.keys, s.scrub, s.pwq, s.flushes, s.notices, s.held, s.power, s.resetRec)) _ (fun s x => by simp) _ s
  simpa only [Prod.mk.injEq] using h

@[simp] theorem State.endRekey_frame (s : State) (i : WindowIdx) :
    (s.endRekey i).powered = s.powered ∧ (s.endRekey i).settings = s.settings ∧ (s.endRekey i).nv = s.nv
      ∧ (s.endRekey i).windows = s.windows ∧ (s.endRekey i).pages = s.pages ∧ (s.endRekey i).accounts = s.accounts
      ∧ (s.endRekey i).meter = s.meter ∧ (s.endRekey i).commit = s.commit ∧ (s.endRekey i).slots = s.slots
      ∧ (s.endRekey i).gauges = s.gauges ∧ (s.endRekey i).carry = s.carry ∧ (s.endRekey i).pwq = s.pwq
      ∧ (s.endRekey i).tracker = s.tracker ∧ (s.endRekey i).flushes = s.flushes ∧ (s.endRekey i).notices = s.notices
      ∧ (s.endRekey i).held = s.held ∧ (s.endRekey i).power = s.power ∧ (s.endRekey i).resetRec = s.resetRec := by
  unfold State.endRekey; dsimp only; (repeat' split) <;> simp

@[simp] theorem State.retire_frame (s : State) (i : WindowIdx) (l : List Pattern) :
    (s.retire i l).powered = s.powered ∧ (s.retire i l).settings = s.settings ∧ (s.retire i l).nv = s.nv
      ∧ (s.retire i l).pages = s.pages ∧ (s.retire i l).accounts = s.accounts ∧ (s.retire i l).meter = s.meter
      ∧ (s.retire i l).commit = s.commit ∧ (s.retire i l).slots = s.slots ∧ (s.retire i l).gauges = s.gauges
      ∧ (s.retire i l).carry = s.carry ∧ (s.retire i l).pwq = s.pwq ∧ (s.retire i l).flushes = s.flushes
      ∧ (s.retire i l).notices = s.notices ∧ (s.retire i l).held = s.held ∧ (s.retire i l).power = s.power
      ∧ (s.retire i l).resetRec = s.resetRec := by
  unfold State.retire; simp

@[simp] theorem State.reserveSpare_frame (s : State) (k : Fin 2) (i : WindowIdx) :
    (s.reserveSpare k i).powered = s.powered ∧ (s.reserveSpare k i).settings = s.settings
      ∧ (s.reserveSpare k i).nv = s.nv ∧ (s.reserveSpare k i).windows = s.windows
      ∧ (s.reserveSpare k i).pages = s.pages ∧ (s.reserveSpare k i).accounts = s.accounts
      ∧ (s.reserveSpare k i).meter = s.meter ∧ (s.reserveSpare k i).commit = s.commit
      ∧ (s.reserveSpare k i).slots = s.slots ∧ (s.reserveSpare k i).gauges = s.gauges
      ∧ (s.reserveSpare k i).carry = s.carry ∧ (s.reserveSpare k i).scrub = s.scrub ∧ (s.reserveSpare k i).pwq = s.pwq
      ∧ (s.reserveSpare k i).tracker = s.tracker ∧ (s.reserveSpare k i).flushes = s.flushes
      ∧ (s.reserveSpare k i).notices = s.notices ∧ (s.reserveSpare k i).held = s.held
      ∧ (s.reserveSpare k i).power = s.power ∧ (s.reserveSpare k i).resetRec = s.resetRec := by
  unfold State.reserveSpare; simp

@[simp] theorem State.settleSpare_frame (s : State) (i : WindowIdx) :
    (s.settleSpare i).powered = s.powered ∧ (s.settleSpare i).settings = s.settings ∧ (s.settleSpare i).nv = s.nv
      ∧ (s.settleSpare i).pages = s.pages ∧ (s.settleSpare i).accounts = s.accounts
      ∧ (s.settleSpare i).meter = s.meter ∧ (s.settleSpare i).commit = s.commit ∧ (s.settleSpare i).slots = s.slots
      ∧ (s.settleSpare i).gauges = s.gauges ∧ (s.settleSpare i).carry = s.carry ∧ (s.settleSpare i).scrub = s.scrub
      ∧ (s.settleSpare i).pwq = s.pwq ∧ (s.settleSpare i).tracker = s.tracker ∧ (s.settleSpare i).flushes = s.flushes
      ∧ (s.settleSpare i).notices = s.notices ∧ (s.settleSpare i).held = s.held ∧ (s.settleSpare i).power = s.power
      ∧ (s.settleSpare i).resetRec = s.resetRec := by
  unfold State.settleSpare; (repeat' split) <;> simp

@[simp] theorem State.assignJob_frame (s : State) (c : ChannelId) (j : Job) :
    (s.assignJob c j).powered = s.powered ∧ (s.assignJob c j).settings = s.settings ∧ (s.assignJob c j).nv = s.nv
      ∧ (s.assignJob c j).pages = s.pages ∧ (s.assignJob c j).accounts = s.accounts
      ∧ (s.assignJob c j).meter = s.meter ∧ (s.assignJob c j).commit = s.commit ∧ (s.assignJob c j).slots = s.slots
      ∧ (s.assignJob c j).gauges = s.gauges ∧ (s.assignJob c j).carry = s.carry ∧ (s.assignJob c j).pwq = s.pwq
      ∧ (s.assignJob c j).tracker = s.tracker ∧ (s.assignJob c j).flushes = s.flushes
      ∧ (s.assignJob c j).notices = s.notices ∧ (s.assignJob c j).held = s.held ∧ (s.assignJob c j).power = s.power
      ∧ (s.assignJob c j).resetRec = s.resetRec := by
  unfold State.assignJob; (repeat' split) <;> simp

@[simp] theorem State.assignOldest_frame (s : State) (c : ChannelId) :
    (s.assignOldest c).powered = s.powered ∧ (s.assignOldest c).settings = s.settings ∧ (s.assignOldest c).nv = s.nv
      ∧ (s.assignOldest c).pages = s.pages ∧ (s.assignOldest c).accounts = s.accounts
      ∧ (s.assignOldest c).meter = s.meter ∧ (s.assignOldest c).commit = s.commit ∧ (s.assignOldest c).slots = s.slots
      ∧ (s.assignOldest c).gauges = s.gauges ∧ (s.assignOldest c).carry = s.carry ∧ (s.assignOldest c).pwq = s.pwq
      ∧ (s.assignOldest c).tracker = s.tracker ∧ (s.assignOldest c).flushes = s.flushes
      ∧ (s.assignOldest c).notices = s.notices ∧ (s.assignOldest c).held = s.held ∧ (s.assignOldest c).power = s.power
      ∧ (s.assignOldest c).resetRec = s.resetRec := by
  unfold State.assignOldest; (repeat' split) <;> simp

@[simp] theorem State.lockChunk_frame (s : State) (c : ChannelId) :
    (s.lockChunk c).powered = s.powered ∧ (s.lockChunk c).settings = s.settings ∧ (s.lockChunk c).nv = s.nv
      ∧ (s.lockChunk c).windows = s.windows ∧ (s.lockChunk c).pages = s.pages ∧ (s.lockChunk c).accounts = s.accounts
      ∧ (s.lockChunk c).meter = s.meter ∧ (s.lockChunk c).commit = s.commit ∧ (s.lockChunk c).slots = s.slots
      ∧ (s.lockChunk c).gauges = s.gauges ∧ (s.lockChunk c).carry = s.carry ∧ (s.lockChunk c).keys = s.keys
      ∧ (s.lockChunk c).pwq = s.pwq ∧ (s.lockChunk c).tracker = s.tracker ∧ (s.lockChunk c).flushes = s.flushes
      ∧ (s.lockChunk c).notices = s.notices ∧ (s.lockChunk c).held = s.held ∧ (s.lockChunk c).power = s.power
      ∧ (s.lockChunk c).resetRec = s.resetRec := by
  unfold State.lockChunk; dsimp only; (repeat' split) <;> simp

@[simp] theorem State.moveKey_frame (s : State) (i : WindowIdx) :
    (s.moveKey i).powered = s.powered ∧ (s.moveKey i).settings = s.settings ∧ (s.moveKey i).nv = s.nv
      ∧ (s.moveKey i).windows = s.windows ∧ (s.moveKey i).pages = s.pages ∧ (s.moveKey i).accounts = s.accounts
      ∧ (s.moveKey i).meter = s.meter ∧ (s.moveKey i).commit = s.commit ∧ (s.moveKey i).slots = s.slots
      ∧ (s.moveKey i).gauges = s.gauges ∧ (s.moveKey i).carry = s.carry ∧ (s.moveKey i).scrub = s.scrub
      ∧ (s.moveKey i).pwq = s.pwq ∧ (s.moveKey i).tracker = s.tracker ∧ (s.moveKey i).flushes = s.flushes
      ∧ (s.moveKey i).notices = s.notices ∧ (s.moveKey i).held = s.held ∧ (s.moveKey i).power = s.power
      ∧ (s.moveKey i).resetRec = s.resetRec := by
  unfold State.moveKey; simp

@[simp] theorem State.endRekeyJob_frame (s : State) (c : ChannelId) (i : WindowIdx) :
    (s.endRekeyJob c i).powered = s.powered ∧ (s.endRekeyJob c i).settings = s.settings
      ∧ (s.endRekeyJob c i).nv = s.nv ∧ (s.endRekeyJob c i).pages = s.pages
      ∧ (s.endRekeyJob c i).accounts = s.accounts ∧ (s.endRekeyJob c i).meter = s.meter
      ∧ (s.endRekeyJob c i).commit = s.commit ∧ (s.endRekeyJob c i).slots = s.slots
      ∧ (s.endRekeyJob c i).gauges = s.gauges ∧ (s.endRekeyJob c i).carry = s.carry ∧ (s.endRekeyJob c i).pwq = s.pwq
      ∧ (s.endRekeyJob c i).tracker = s.tracker ∧ (s.endRekeyJob c i).flushes = s.flushes
      ∧ (s.endRekeyJob c i).notices = s.notices ∧ (s.endRekeyJob c i).held = s.held
      ∧ (s.endRekeyJob c i).power = s.power ∧ (s.endRekeyJob c i).resetRec = s.resetRec := by
  unfold State.endRekeyJob; simp

@[simp] theorem State.eraseWritten_frame (s : State) (c : ChannelId) (i : WindowIdx) (l : List Pattern) :
    (s.eraseWritten c i l).powered = s.powered ∧ (s.eraseWritten c i l).settings = s.settings
      ∧ (s.eraseWritten c i l).nv = s.nv ∧ (s.eraseWritten c i l).pages = s.pages
      ∧ (s.eraseWritten c i l).accounts = s.accounts ∧ (s.eraseWritten c i l).meter = s.meter
      ∧ (s.eraseWritten c i l).commit = s.commit ∧ (s.eraseWritten c i l).slots = s.slots
      ∧ (s.eraseWritten c i l).gauges = s.gauges ∧ (s.eraseWritten c i l).carry = s.carry
      ∧ (s.eraseWritten c i l).keys = s.keys ∧ (s.eraseWritten c i l).pwq = s.pwq
      ∧ (s.eraseWritten c i l).tracker = s.tracker ∧ (s.eraseWritten c i l).flushes = s.flushes
      ∧ (s.eraseWritten c i l).notices = s.notices ∧ (s.eraseWritten c i l).held = s.held
      ∧ (s.eraseWritten c i l).power = s.power ∧ (s.eraseWritten c i l).resetRec = s.resetRec := by
  unfold State.eraseWritten; dsimp only; (repeat' split) <;> simp

@[simp] theorem State.rekeyWritten_frame (s : State) (c : ChannelId) (i : WindowIdx) :
    (s.rekeyWritten c i).powered = s.powered ∧ (s.rekeyWritten c i).settings = s.settings
      ∧ (s.rekeyWritten c i).nv = s.nv ∧ (s.rekeyWritten c i).pages = s.pages
      ∧ (s.rekeyWritten c i).accounts = s.accounts ∧ (s.rekeyWritten c i).meter = s.meter
      ∧ (s.rekeyWritten c i).commit = s.commit ∧ (s.rekeyWritten c i).slots = s.slots
      ∧ (s.rekeyWritten c i).gauges = s.gauges ∧ (s.rekeyWritten c i).carry = s.carry
      ∧ (s.rekeyWritten c i).pwq = s.pwq ∧ (s.rekeyWritten c i).tracker = s.tracker
      ∧ (s.rekeyWritten c i).flushes = s.flushes ∧ (s.rekeyWritten c i).notices = s.notices
      ∧ (s.rekeyWritten c i).held = s.held ∧ (s.rekeyWritten c i).power = s.power
      ∧ (s.rekeyWritten c i).resetRec = s.resetRec := by
  unfold State.rekeyWritten; dsimp only; (repeat' split) <;> simp

@[simp] theorem State.scrubDone_frame (s : State) (c : ChannelId) (l : List Beat) :
    (s.scrubDone c l).powered = s.powered ∧ (s.scrubDone c l).settings = s.settings ∧ (s.scrubDone c l).nv = s.nv
      ∧ (s.scrubDone c l).pages = s.pages ∧ (s.scrubDone c l).accounts = s.accounts
      ∧ (s.scrubDone c l).meter = s.meter ∧ (s.scrubDone c l).commit = s.commit ∧ (s.scrubDone c l).slots = s.slots
      ∧ (s.scrubDone c l).gauges = s.gauges ∧ (s.scrubDone c l).carry = s.carry ∧ (s.scrubDone c l).pwq = s.pwq
      ∧ (s.scrubDone c l).tracker = s.tracker ∧ (s.scrubDone c l).flushes = s.flushes
      ∧ (s.scrubDone c l).notices = s.notices ∧ (s.scrubDone c l).held = s.held ∧ (s.scrubDone c l).power = s.power
      ∧ (s.scrubDone c l).resetRec = s.resetRec := by
  unfold State.scrubDone; dsimp only; (repeat' split) <;> simp

@[simp] theorem State.scrubFailed_frame (s : State) (c : ChannelId) (o : MemOp) (x : FailCause) :
    (s.scrubFailed c o x).powered = s.powered ∧ (s.scrubFailed c o x).settings = s.settings
      ∧ (s.scrubFailed c o x).nv = s.nv ∧ (s.scrubFailed c o x).windows = s.windows
      ∧ (s.scrubFailed c o x).pages = s.pages ∧ (s.scrubFailed c o x).accounts = s.accounts
      ∧ (s.scrubFailed c o x).meter = s.meter ∧ (s.scrubFailed c o x).commit = s.commit
      ∧ (s.scrubFailed c o x).slots = s.slots ∧ (s.scrubFailed c o x).gauges = s.gauges
      ∧ (s.scrubFailed c o x).carry = s.carry ∧ (s.scrubFailed c o x).keys = s.keys
      ∧ (s.scrubFailed c o x).pwq = s.pwq ∧ (s.scrubFailed c o x).tracker = s.tracker
      ∧ (s.scrubFailed c o x).flushes = s.flushes ∧ (s.scrubFailed c o x).notices = s.notices
      ∧ (s.scrubFailed c o x).held = s.held ∧ (s.scrubFailed c o x).power = s.power
      ∧ (s.scrubFailed c o x).resetRec = s.resetRec := by
  unfold State.scrubFailed; dsimp only; (repeat' split) <;> simp

@[simp] theorem State.abandon_frame (s : State) (c : ChannelId) (j : Job) :
    (s.abandon c j).powered = s.powered ∧ (s.abandon c j).settings = s.settings ∧ (s.abandon c j).nv = s.nv
      ∧ (s.abandon c j).pages = s.pages ∧ (s.abandon c j).accounts = s.accounts ∧ (s.abandon c j).meter = s.meter
      ∧ (s.abandon c j).commit = s.commit ∧ (s.abandon c j).slots = s.slots ∧ (s.abandon c j).gauges = s.gauges
      ∧ (s.abandon c j).carry = s.carry ∧ (s.abandon c j).keys = s.keys ∧ (s.abandon c j).pwq = s.pwq
      ∧ (s.abandon c j).tracker = s.tracker ∧ (s.abandon c j).flushes = s.flushes
      ∧ (s.abandon c j).notices = s.notices ∧ (s.abandon c j).held = s.held ∧ (s.abandon c j).power = s.power
      ∧ (s.abandon c j).resetRec = s.resetRec := by
  unfold State.abandon; (repeat' split) <;> simp

@[simp] theorem State.leaveHead_frame (s : State) (b : Bool) :
    (s.leaveHead b).powered = s.powered ∧ (s.leaveHead b).settings = s.settings ∧ (s.leaveHead b).nv = s.nv
      ∧ (s.leaveHead b).windows = s.windows ∧ (s.leaveHead b).pages = s.pages ∧ (s.leaveHead b).accounts = s.accounts
      ∧ (s.leaveHead b).meter = s.meter ∧ (s.leaveHead b).commit = s.commit ∧ (s.leaveHead b).slots = s.slots
      ∧ (s.leaveHead b).gauges = s.gauges ∧ (s.leaveHead b).carry = s.carry ∧ (s.leaveHead b).keys = s.keys
      ∧ (s.leaveHead b).scrub = s.scrub ∧ (s.leaveHead b).notices = s.notices ∧ (s.leaveHead b).held = s.held
      ∧ (s.leaveHead b).power = s.power ∧ (s.leaveHead b).resetRec = s.resetRec := by
  unfold State.leaveHead; (repeat' split) <;> simp

@[simp] theorem State.leaveEmpties_frame (s : State) (n : Nat) :
    (State.leaveEmpties n s).powered = s.powered ∧ (State.leaveEmpties n s).settings = s.settings
      ∧ (State.leaveEmpties n s).nv = s.nv ∧ (State.leaveEmpties n s).windows = s.windows
      ∧ (State.leaveEmpties n s).pages = s.pages ∧ (State.leaveEmpties n s).accounts = s.accounts
      ∧ (State.leaveEmpties n s).meter = s.meter ∧ (State.leaveEmpties n s).commit = s.commit
      ∧ (State.leaveEmpties n s).slots = s.slots ∧ (State.leaveEmpties n s).gauges = s.gauges
      ∧ (State.leaveEmpties n s).carry = s.carry ∧ (State.leaveEmpties n s).keys = s.keys
      ∧ (State.leaveEmpties n s).scrub = s.scrub ∧ (State.leaveEmpties n s).notices = s.notices
      ∧ (State.leaveEmpties n s).held = s.held ∧ (State.leaveEmpties n s).power = s.power
      ∧ (State.leaveEmpties n s).resetRec = s.resetRec := by
  induction n generalizing s with | zero => simp [State.leaveEmpties] | succ n ih => unfold State.leaveEmpties; (repeat' split) <;> simp [ih]

@[simp] theorem State.settleHead_frame (s : State) :
    (s.settleHead).powered = s.powered ∧ (s.settleHead).settings = s.settings ∧ (s.settleHead).nv = s.nv
      ∧ (s.settleHead).windows = s.windows ∧ (s.settleHead).pages = s.pages ∧ (s.settleHead).accounts = s.accounts
      ∧ (s.settleHead).meter = s.meter ∧ (s.settleHead).commit = s.commit ∧ (s.settleHead).slots = s.slots
      ∧ (s.settleHead).gauges = s.gauges ∧ (s.settleHead).carry = s.carry ∧ (s.settleHead).keys = s.keys
      ∧ (s.settleHead).scrub = s.scrub ∧ (s.settleHead).notices = s.notices ∧ (s.settleHead).held = s.held
      ∧ (s.settleHead).power = s.power ∧ (s.settleHead).resetRec = s.resetRec := by
  unfold State.settleHead; simp

@[simp] theorem State.setHead_frame (s : State) (e : PwqEntry) :
    (s.setHead e).powered = s.powered ∧ (s.setHead e).settings = s.settings ∧ (s.setHead e).nv = s.nv
      ∧ (s.setHead e).windows = s.windows ∧ (s.setHead e).pages = s.pages ∧ (s.setHead e).accounts = s.accounts
      ∧ (s.setHead e).meter = s.meter ∧ (s.setHead e).commit = s.commit ∧ (s.setHead e).slots = s.slots
      ∧ (s.setHead e).gauges = s.gauges ∧ (s.setHead e).carry = s.carry ∧ (s.setHead e).keys = s.keys
      ∧ (s.setHead e).scrub = s.scrub ∧ (s.setHead e).tracker = s.tracker ∧ (s.setHead e).flushes = s.flushes
      ∧ (s.setHead e).notices = s.notices ∧ (s.setHead e).held = s.held ∧ (s.setHead e).power = s.power
      ∧ (s.setHead e).resetRec = s.resetRec := by
  unfold State.setHead; (repeat' split) <;> simp

@[simp] theorem State.headWritten_frame (s : State) :
    (s.headWritten).powered = s.powered ∧ (s.headWritten).settings = s.settings ∧ (s.headWritten).nv = s.nv
      ∧ (s.headWritten).windows = s.windows ∧ (s.headWritten).pages = s.pages ∧ (s.headWritten).accounts = s.accounts
      ∧ (s.headWritten).meter = s.meter ∧ (s.headWritten).commit = s.commit ∧ (s.headWritten).slots = s.slots
      ∧ (s.headWritten).gauges = s.gauges ∧ (s.headWritten).carry = s.carry ∧ (s.headWritten).keys = s.keys
      ∧ (s.headWritten).scrub = s.scrub ∧ (s.headWritten).notices = s.notices ∧ (s.headWritten).held = s.held
      ∧ (s.headWritten).power = s.power ∧ (s.headWritten).resetRec = s.resetRec := by
  unfold State.headWritten; simp

@[simp] theorem State.headDropped_frame (s : State) (f : PathFlag) :
    (s.headDropped f).powered = s.powered ∧ (s.headDropped f).settings = s.settings ∧ (s.headDropped f).nv = s.nv
      ∧ (s.headDropped f).windows = s.windows ∧ (s.headDropped f).pages = s.pages
      ∧ (s.headDropped f).accounts = s.accounts ∧ (s.headDropped f).meter = s.meter
      ∧ (s.headDropped f).commit = s.commit ∧ (s.headDropped f).slots = s.slots ∧ (s.headDropped f).gauges = s.gauges
      ∧ (s.headDropped f).carry = s.carry ∧ (s.headDropped f).keys = s.keys ∧ (s.headDropped f).scrub = s.scrub
      ∧ (s.headDropped f).notices = s.notices ∧ (s.headDropped f).held = s.held ∧ (s.headDropped f).power = s.power
      ∧ (s.headDropped f).resetRec = s.resetRec := by
  unfold State.headDropped; (repeat' split) <;> simp

@[simp] theorem State.refuse_frame (s : State) (f : PathFlag) (k : Option ReqKind) (r : PageRequest) (w : Option WindowRef) :
    (s.refuse f k r w).powered = s.powered ∧ (s.refuse f k r w).settings = s.settings ∧ (s.refuse f k r w).nv = s.nv
      ∧ (s.refuse f k r w).windows = s.windows ∧ (s.refuse f k r w).pages = s.pages
      ∧ (s.refuse f k r w).accounts = s.accounts ∧ (s.refuse f k r w).meter = s.meter
      ∧ (s.refuse f k r w).commit = s.commit ∧ (s.refuse f k r w).slots = s.slots
      ∧ (s.refuse f k r w).gauges = s.gauges ∧ (s.refuse f k r w).carry = s.carry ∧ (s.refuse f k r w).keys = s.keys
      ∧ (s.refuse f k r w).scrub = s.scrub ∧ (s.refuse f k r w).pwq = s.pwq ∧ (s.refuse f k r w).tracker = s.tracker
      ∧ (s.refuse f k r w).flushes = s.flushes ∧ (s.refuse f k r w).notices = s.notices
      ∧ (s.refuse f k r w).held = s.held ∧ (s.refuse f k r w).power = s.power
      ∧ (s.refuse f k r w).resetRec = s.resetRec := by
  unfold State.refuse; simp

@[simp] theorem State.retry_frame (s : State) (r : PageRequest) :
    (s.retry r).powered = s.powered ∧ (s.retry r).settings = s.settings ∧ (s.retry r).nv = s.nv
      ∧ (s.retry r).windows = s.windows ∧ (s.retry r).pages = s.pages ∧ (s.retry r).accounts = s.accounts
      ∧ (s.retry r).meter = s.meter ∧ (s.retry r).commit = s.commit ∧ (s.retry r).slots = s.slots
      ∧ (s.retry r).gauges = s.gauges ∧ (s.retry r).carry = s.carry ∧ (s.retry r).keys = s.keys
      ∧ (s.retry r).scrub = s.scrub ∧ (s.retry r).pwq = s.pwq ∧ (s.retry r).tracker = s.tracker
      ∧ (s.retry r).flushes = s.flushes ∧ (s.retry r).notices = s.notices ∧ (s.retry r).held = s.held
      ∧ (s.retry r).power = s.power ∧ (s.retry r).resetRec = s.resetRec := by
  unfold State.retry; simp

@[simp] theorem State.startWake_frame (s : State) :
    (s.startWake).powered = s.powered ∧ (s.startWake).settings = s.settings ∧ (s.startWake).nv = s.nv
      ∧ (s.startWake).windows = s.windows ∧ (s.startWake).pages = s.pages ∧ (s.startWake).accounts = s.accounts
      ∧ (s.startWake).meter = s.meter ∧ (s.startWake).commit = s.commit ∧ (s.startWake).slots = s.slots
      ∧ (s.startWake).gauges = s.gauges ∧ (s.startWake).carry = s.carry ∧ (s.startWake).keys = s.keys
      ∧ (s.startWake).scrub = s.scrub ∧ (s.startWake).pwq = s.pwq ∧ (s.startWake).tracker = s.tracker
      ∧ (s.startWake).flushes = s.flushes ∧ (s.startWake).notices = s.notices ∧ (s.startWake).held = s.held
      ∧ (s.startWake).resetRec = s.resetRec := by
  unfold State.startWake; (repeat' split) <;> simp

@[simp] theorem State.takeTracked_frame (s : State) (x : Source) (r : PageRequest) (a : ReadAccess) (p : Place) (y : Option PlaneRef) (z : ReadState) :
    (s.takeTracked x r a p y z).powered = s.powered ∧ (s.takeTracked x r a p y z).settings = s.settings
      ∧ (s.takeTracked x r a p y z).nv = s.nv ∧ (s.takeTracked x r a p y z).windows = s.windows
      ∧ (s.takeTracked x r a p y z).pages = s.pages ∧ (s.takeTracked x r a p y z).accounts = s.accounts
      ∧ (s.takeTracked x r a p y z).meter = s.meter ∧ (s.takeTracked x r a p y z).commit = s.commit
      ∧ (s.takeTracked x r a p y z).slots = s.slots ∧ (s.takeTracked x r a p y z).gauges = s.gauges
      ∧ (s.takeTracked x r a p y z).carry = s.carry ∧ (s.takeTracked x r a p y z).keys = s.keys
      ∧ (s.takeTracked x r a p y z).scrub = s.scrub ∧ (s.takeTracked x r a p y z).pwq = s.pwq
      ∧ (s.takeTracked x r a p y z).flushes = s.flushes ∧ (s.takeTracked x r a p y z).notices = s.notices
      ∧ (s.takeTracked x r a p y z).held = s.held ∧ (s.takeTracked x r a p y z).power = s.power
      ∧ (s.takeTracked x r a p y z).resetRec = s.resetRec := by
  unfold State.takeTracked; dsimp only; (repeat' split) <;> simp

@[simp] theorem State.takeHit_frame (s : State) (x : Source) (r : PageRequest) (w : WindowRef) (n : Nat) (y : Option PlaneRef) (i : Fin 8) (l : Line) (b : List Beat) :
    (s.takeHit x r w n y i l b).powered = s.powered ∧ (s.takeHit x r w n y i l b).settings = s.settings
      ∧ (s.takeHit x r w n y i l b).nv = s.nv ∧ (s.takeHit x r w n y i l b).windows = s.windows
      ∧ (s.takeHit x r w n y i l b).pages = s.pages ∧ (s.takeHit x r w n y i l b).accounts = s.accounts
      ∧ (s.takeHit x r w n y i l b).meter = s.meter ∧ (s.takeHit x r w n y i l b).commit = s.commit
      ∧ (s.takeHit x r w n y i l b).slots = s.slots ∧ (s.takeHit x r w n y i l b).gauges = s.gauges
      ∧ (s.takeHit x r w n y i l b).carry = s.carry ∧ (s.takeHit x r w n y i l b).keys = s.keys
      ∧ (s.takeHit x r w n y i l b).scrub = s.scrub ∧ (s.takeHit x r w n y i l b).pwq = s.pwq
      ∧ (s.takeHit x r w n y i l b).tracker = s.tracker ∧ (s.takeHit x r w n y i l b).flushes = s.flushes
      ∧ (s.takeHit x r w n y i l b).notices = s.notices ∧ (s.takeHit x r w n y i l b).held = s.held
      ∧ (s.takeHit x r w n y i l b).power = s.power ∧ (s.takeHit x r w n y i l b).resetRec = s.resetRec := by
  unfold State.takeHit; simp

@[simp] theorem State.takeRead_frame (s : State) (x : Source) (r : PageRequest) (a : ReadAccess) (p : Place) (y : Option PlaneRef) :
    (s.takeRead x r a p y).powered = s.powered ∧ (s.takeRead x r a p y).settings = s.settings
      ∧ (s.takeRead x r a p y).nv = s.nv ∧ (s.takeRead x r a p y).windows = s.windows
      ∧ (s.takeRead x r a p y).pages = s.pages ∧ (s.takeRead x r a p y).accounts = s.accounts
      ∧ (s.takeRead x r a p y).meter = s.meter ∧ (s.takeRead x r a p y).commit = s.commit
      ∧ (s.takeRead x r a p y).slots = s.slots ∧ (s.takeRead x r a p y).gauges = s.gauges
      ∧ (s.takeRead x r a p y).carry = s.carry ∧ (s.takeRead x r a p y).keys = s.keys
      ∧ (s.takeRead x r a p y).scrub = s.scrub ∧ (s.takeRead x r a p y).pwq = s.pwq
      ∧ (s.takeRead x r a p y).flushes = s.flushes ∧ (s.takeRead x r a p y).notices = s.notices
      ∧ (s.takeRead x r a p y).held = s.held ∧ (s.takeRead x r a p y).power = s.power
      ∧ (s.takeRead x r a p y).resetRec = s.resetRec := by
  unfold State.takeRead; dsimp only; (repeat' split) <;> simp

@[simp] theorem State.gateRead_frame (s : State) (x : Source) (r : PageRequest) (i : WindowIdx) :
    (s.gateRead x r i).powered = s.powered ∧ (s.gateRead x r i).settings = s.settings ∧ (s.gateRead x r i).nv = s.nv
      ∧ (s.gateRead x r i).windows = s.windows ∧ (s.gateRead x r i).pages = s.pages
      ∧ (s.gateRead x r i).accounts = s.accounts ∧ (s.gateRead x r i).meter = s.meter
      ∧ (s.gateRead x r i).commit = s.commit ∧ (s.gateRead x r i).slots = s.slots
      ∧ (s.gateRead x r i).gauges = s.gauges ∧ (s.gateRead x r i).carry = s.carry ∧ (s.gateRead x r i).keys = s.keys
      ∧ (s.gateRead x r i).scrub = s.scrub ∧ (s.gateRead x r i).pwq = s.pwq ∧ (s.gateRead x r i).flushes = s.flushes
      ∧ (s.gateRead x r i).notices = s.notices ∧ (s.gateRead x r i).held = s.held ∧ (s.gateRead x r i).power = s.power
      ∧ (s.gateRead x r i).resetRec = s.resetRec := by
  unfold State.gateRead; dsimp only; (repeat' split) <;> simp

@[simp] theorem State.serveRead_frame (s : State) (r : PageRequest) (x : Source) :
    (s.serveRead r x).powered = s.powered ∧ (s.serveRead r x).settings = s.settings ∧ (s.serveRead r x).nv = s.nv
      ∧ (s.serveRead r x).windows = s.windows ∧ (s.serveRead r x).pages = s.pages
      ∧ (s.serveRead r x).accounts = s.accounts ∧ (s.serveRead r x).meter = s.meter
      ∧ (s.serveRead r x).commit = s.commit ∧ (s.serveRead r x).slots = s.slots ∧ (s.serveRead r x).gauges = s.gauges
      ∧ (s.serveRead r x).carry = s.carry ∧ (s.serveRead r x).keys = s.keys ∧ (s.serveRead r x).scrub = s.scrub
      ∧ (s.serveRead r x).pwq = s.pwq ∧ (s.serveRead r x).flushes = s.flushes ∧ (s.serveRead r x).notices = s.notices
      ∧ (s.serveRead r x).held = s.held ∧ (s.serveRead r x).power = s.power ∧ (s.serveRead r x).resetRec = s.resetRec := by
  unfold State.serveRead; (repeat' split) <;> simp

@[simp] theorem State.countScan_frame (s : State) (x : Source) (i : WindowIdx) (n : Nat) (b : List QueuedBeat) :
    (s.countScan x i n b).powered = s.powered ∧ (s.countScan x i n b).settings = s.settings
      ∧ (s.countScan x i n b).nv = s.nv ∧ (s.countScan x i n b).pages = s.pages
      ∧ (s.countScan x i n b).commit = s.commit ∧ (s.countScan x i n b).slots = s.slots
      ∧ (s.countScan x i n b).gauges = s.gauges ∧ (s.countScan x i n b).carry = s.carry
      ∧ (s.countScan x i n b).keys = s.keys ∧ (s.countScan x i n b).scrub = s.scrub
      ∧ (s.countScan x i n b).pwq = s.pwq ∧ (s.countScan x i n b).tracker = s.tracker
      ∧ (s.countScan x i n b).flushes = s.flushes ∧ (s.countScan x i n b).notices = s.notices
      ∧ (s.countScan x i n b).held = s.held ∧ (s.countScan x i n b).power = s.power
      ∧ (s.countScan x i n b).resetRec = s.resetRec := by
  unfold State.countScan; dsimp only; (repeat' split) <;> simp

@[simp] theorem State.acceptWrite_frame (s : State) (x : Source) (r : PageRequest) (a : WriteAccess) (p : Place) (b : List WriteBeat) :
    (s.acceptWrite x r a p b).powered = s.powered ∧ (s.acceptWrite x r a p b).settings = s.settings
      ∧ (s.acceptWrite x r a p b).nv = s.nv ∧ (s.acceptWrite x r a p b).pages = s.pages
      ∧ (s.acceptWrite x r a p b).commit = s.commit ∧ (s.acceptWrite x r a p b).slots = s.slots
      ∧ (s.acceptWrite x r a p b).gauges = s.gauges ∧ (s.acceptWrite x r a p b).carry = s.carry
      ∧ (s.acceptWrite x r a p b).keys = s.keys ∧ (s.acceptWrite x r a p b).scrub = s.scrub
      ∧ (s.acceptWrite x r a p b).notices = s.notices ∧ (s.acceptWrite x r a p b).held = s.held
      ∧ (s.acceptWrite x r a p b).power = s.power ∧ (s.acceptWrite x r a p b).resetRec = s.resetRec := by
  unfold State.acceptWrite; dsimp only; (repeat' split) <;> simp

@[simp] theorem State.takeWrite_frame (s : State) (x : Source) (r : PageRequest) (a : WriteAccess) (p : Place) (b : List WriteBeat) :
    (s.takeWrite x r a p b).powered = s.powered ∧ (s.takeWrite x r a p b).settings = s.settings
      ∧ (s.takeWrite x r a p b).nv = s.nv ∧ (s.takeWrite x r a p b).pages = s.pages
      ∧ (s.takeWrite x r a p b).commit = s.commit ∧ (s.takeWrite x r a p b).slots = s.slots
      ∧ (s.takeWrite x r a p b).gauges = s.gauges ∧ (s.takeWrite x r a p b).carry = s.carry
      ∧ (s.takeWrite x r a p b).keys = s.keys ∧ (s.takeWrite x r a p b).scrub = s.scrub
      ∧ (s.takeWrite x r a p b).notices = s.notices ∧ (s.takeWrite x r a p b).held = s.held
      ∧ (s.takeWrite x r a p b).power = s.power ∧ (s.takeWrite x r a p b).resetRec = s.resetRec := by
  unfold State.takeWrite; (repeat' split) <;> simp

@[simp] theorem State.serveWrite_frame (s : State) (r : PageRequest) (b : Vector WriteBeat 8) (x : Source) :
    (s.serveWrite r b x).powered = s.powered ∧ (s.serveWrite r b x).settings = s.settings
      ∧ (s.serveWrite r b x).nv = s.nv ∧ (s.serveWrite r b x).pages = s.pages ∧ (s.serveWrite r b x).commit = s.commit
      ∧ (s.serveWrite r b x).slots = s.slots ∧ (s.serveWrite r b x).gauges = s.gauges
      ∧ (s.serveWrite r b x).carry = s.carry ∧ (s.serveWrite r b x).keys = s.keys
      ∧ (s.serveWrite r b x).scrub = s.scrub ∧ (s.serveWrite r b x).notices = s.notices
      ∧ (s.serveWrite r b x).held = s.held ∧ (s.serveWrite r b x).power = s.power
      ∧ (s.serveWrite r b x).resetRec = s.resetRec := by
  unfold State.serveWrite; dsimp only; (repeat' split) <;> simp

@[simp] theorem State.takeFlush_frame (s : State) (x : Source) (r : PageRequest) :
    (s.takeFlush x r).powered = s.powered ∧ (s.takeFlush x r).settings = s.settings ∧ (s.takeFlush x r).nv = s.nv
      ∧ (s.takeFlush x r).windows = s.windows ∧ (s.takeFlush x r).pages = s.pages
      ∧ (s.takeFlush x r).accounts = s.accounts ∧ (s.takeFlush x r).meter = s.meter
      ∧ (s.takeFlush x r).commit = s.commit ∧ (s.takeFlush x r).slots = s.slots ∧ (s.takeFlush x r).gauges = s.gauges
      ∧ (s.takeFlush x r).carry = s.carry ∧ (s.takeFlush x r).keys = s.keys ∧ (s.takeFlush x r).scrub = s.scrub
      ∧ (s.takeFlush x r).tracker = s.tracker ∧ (s.takeFlush x r).notices = s.notices
      ∧ (s.takeFlush x r).held = s.held ∧ (s.takeFlush x r).power = s.power ∧ (s.takeFlush x r).resetRec = s.resetRec := by
  unfold State.takeFlush; simp

@[simp] theorem State.serveFlush_frame (s : State) (r : PageRequest) (x : Source) :
    (s.serveFlush r x).powered = s.powered ∧ (s.serveFlush r x).settings = s.settings ∧ (s.serveFlush r x).nv = s.nv
      ∧ (s.serveFlush r x).windows = s.windows ∧ (s.serveFlush r x).pages = s.pages
      ∧ (s.serveFlush r x).accounts = s.accounts ∧ (s.serveFlush r x).meter = s.meter
      ∧ (s.serveFlush r x).commit = s.commit ∧ (s.serveFlush r x).slots = s.slots
      ∧ (s.serveFlush r x).gauges = s.gauges ∧ (s.serveFlush r x).carry = s.carry ∧ (s.serveFlush r x).keys = s.keys
      ∧ (s.serveFlush r x).scrub = s.scrub ∧ (s.serveFlush r x).tracker = s.tracker
      ∧ (s.serveFlush r x).notices = s.notices ∧ (s.serveFlush r x).held = s.held ∧ (s.serveFlush r x).power = s.power
      ∧ (s.serveFlush r x).resetRec = s.resetRec := by
  unfold State.serveFlush; (repeat' split) <;> simp

@[simp] theorem State.issue_frame (s : State) (t : MemTid) (o : MemOp) (w : Consumer) (x : Source) (g : JobTag) (a : Addr) (n : Nat) (b : List DrivenBeat) :
    (s.issue t o w x g a n b).powered = s.powered ∧ (s.issue t o w x g a n b).settings = s.settings
      ∧ (s.issue t o w x g a n b).nv = s.nv ∧ (s.issue t o w x g a n b).windows = s.windows
      ∧ (s.issue t o w x g a n b).pages = s.pages ∧ (s.issue t o w x g a n b).accounts = s.accounts
      ∧ (s.issue t o w x g a n b).meter = s.meter ∧ (s.issue t o w x g a n b).commit = s.commit
      ∧ (s.issue t o w x g a n b).slots = s.slots ∧ (s.issue t o w x g a n b).gauges = s.gauges
      ∧ (s.issue t o w x g a n b).carry = s.carry ∧ (s.issue t o w x g a n b).keys = s.keys
      ∧ (s.issue t o w x g a n b).scrub = s.scrub ∧ (s.issue t o w x g a n b).pwq = s.pwq
      ∧ (s.issue t o w x g a n b).tracker = s.tracker ∧ (s.issue t o w x g a n b).flushes = s.flushes
      ∧ (s.issue t o w x g a n b).notices = s.notices ∧ (s.issue t o w x g a n b).held = s.held
      ∧ (s.issue t o w x g a n b).power = s.power ∧ (s.issue t o w x g a n b).resetRec = s.resetRec := by
  unfold State.issue; simp

@[simp] theorem State.grantRmw_frame (s : State) (t : MemTid) :
    (s.grantRmw t).powered = s.powered ∧ (s.grantRmw t).settings = s.settings ∧ (s.grantRmw t).nv = s.nv
      ∧ (s.grantRmw t).windows = s.windows ∧ (s.grantRmw t).pages = s.pages ∧ (s.grantRmw t).accounts = s.accounts
      ∧ (s.grantRmw t).meter = s.meter ∧ (s.grantRmw t).commit = s.commit ∧ (s.grantRmw t).slots = s.slots
      ∧ (s.grantRmw t).gauges = s.gauges ∧ (s.grantRmw t).carry = s.carry ∧ (s.grantRmw t).keys = s.keys
      ∧ (s.grantRmw t).scrub = s.scrub ∧ (s.grantRmw t).tracker = s.tracker ∧ (s.grantRmw t).flushes = s.flushes
      ∧ (s.grantRmw t).notices = s.notices ∧ (s.grantRmw t).held = s.held ∧ (s.grantRmw t).power = s.power
      ∧ (s.grantRmw t).resetRec = s.resetRec := by
  unfold State.grantRmw; dsimp only; (repeat' split) <;> simp

@[simp] theorem State.grantDrain_frame (s : State) (t : MemTid) :
    (s.grantDrain t).powered = s.powered ∧ (s.grantDrain t).settings = s.settings ∧ (s.grantDrain t).nv = s.nv
      ∧ (s.grantDrain t).windows = s.windows ∧ (s.grantDrain t).pages = s.pages
      ∧ (s.grantDrain t).accounts = s.accounts ∧ (s.grantDrain t).meter = s.meter ∧ (s.grantDrain t).commit = s.commit
      ∧ (s.grantDrain t).slots = s.slots ∧ (s.grantDrain t).gauges = s.gauges ∧ (s.grantDrain t).carry = s.carry
      ∧ (s.grantDrain t).keys = s.keys ∧ (s.grantDrain t).scrub = s.scrub ∧ (s.grantDrain t).tracker = s.tracker
      ∧ (s.grantDrain t).flushes = s.flushes ∧ (s.grantDrain t).notices = s.notices ∧ (s.grantDrain t).held = s.held
      ∧ (s.grantDrain t).power = s.power ∧ (s.grantDrain t).resetRec = s.resetRec := by
  unfold State.grantDrain; (repeat' split) <;> simp

@[simp] theorem State.setEntry_frame (s : State) (n : Nat) (e : TrackerEntry) :
    (s.setEntry n e).powered = s.powered ∧ (s.setEntry n e).settings = s.settings ∧ (s.setEntry n e).nv = s.nv
      ∧ (s.setEntry n e).windows = s.windows ∧ (s.setEntry n e).pages = s.pages
      ∧ (s.setEntry n e).accounts = s.accounts ∧ (s.setEntry n e).meter = s.meter ∧ (s.setEntry n e).commit = s.commit
      ∧ (s.setEntry n e).slots = s.slots ∧ (s.setEntry n e).gauges = s.gauges ∧ (s.setEntry n e).carry = s.carry
      ∧ (s.setEntry n e).keys = s.keys ∧ (s.setEntry n e).scrub = s.scrub ∧ (s.setEntry n e).pwq = s.pwq
      ∧ (s.setEntry n e).flushes = s.flushes ∧ (s.setEntry n e).notices = s.notices ∧ (s.setEntry n e).held = s.held
      ∧ (s.setEntry n e).power = s.power ∧ (s.setEntry n e).resetRec = s.resetRec := by
  unfold State.setEntry; simp

@[simp] theorem State.dropEntry_frame (s : State) (n : Nat) :
    (s.dropEntry n).powered = s.powered ∧ (s.dropEntry n).settings = s.settings ∧ (s.dropEntry n).nv = s.nv
      ∧ (s.dropEntry n).windows = s.windows ∧ (s.dropEntry n).pages = s.pages ∧ (s.dropEntry n).accounts = s.accounts
      ∧ (s.dropEntry n).meter = s.meter ∧ (s.dropEntry n).commit = s.commit ∧ (s.dropEntry n).slots = s.slots
      ∧ (s.dropEntry n).gauges = s.gauges ∧ (s.dropEntry n).carry = s.carry ∧ (s.dropEntry n).keys = s.keys
      ∧ (s.dropEntry n).scrub = s.scrub ∧ (s.dropEntry n).pwq = s.pwq ∧ (s.dropEntry n).flushes = s.flushes
      ∧ (s.dropEntry n).notices = s.notices ∧ (s.dropEntry n).held = s.held ∧ (s.dropEntry n).power = s.power
      ∧ (s.dropEntry n).resetRec = s.resetRec := by
  unfold State.dropEntry; simp

@[simp] theorem State.grantDemand_frame (s : State) (t : MemTid) (n : Nat) :
    (s.grantDemand t n).powered = s.powered ∧ (s.grantDemand t n).settings = s.settings
      ∧ (s.grantDemand t n).nv = s.nv ∧ (s.grantDemand t n).windows = s.windows ∧ (s.grantDemand t n).pages = s.pages
      ∧ (s.grantDemand t n).accounts = s.accounts ∧ (s.grantDemand t n).meter = s.meter
      ∧ (s.grantDemand t n).commit = s.commit ∧ (s.grantDemand t n).slots = s.slots
      ∧ (s.grantDemand t n).gauges = s.gauges ∧ (s.grantDemand t n).carry = s.carry
      ∧ (s.grantDemand t n).keys = s.keys ∧ (s.grantDemand t n).scrub = s.scrub ∧ (s.grantDemand t n).pwq = s.pwq
      ∧ (s.grantDemand t n).flushes = s.flushes ∧ (s.grantDemand t n).notices = s.notices
      ∧ (s.grantDemand t n).held = s.held ∧ (s.grantDemand t n).power = s.power
      ∧ (s.grantDemand t n).resetRec = s.resetRec := by
  unfold State.grantDemand; (repeat' split) <;> simp

@[simp] theorem State.grantPrefetch_frame (s : State) (t : MemTid) (i : Fin 8) :
    (s.grantPrefetch t i).powered = s.powered ∧ (s.grantPrefetch t i).settings = s.settings
      ∧ (s.grantPrefetch t i).nv = s.nv ∧ (s.grantPrefetch t i).windows = s.windows
      ∧ (s.grantPrefetch t i).pages = s.pages ∧ (s.grantPrefetch t i).accounts = s.accounts
      ∧ (s.grantPrefetch t i).meter = s.meter ∧ (s.grantPrefetch t i).commit = s.commit
      ∧ (s.grantPrefetch t i).slots = s.slots ∧ (s.grantPrefetch t i).gauges = s.gauges
      ∧ (s.grantPrefetch t i).carry = s.carry ∧ (s.grantPrefetch t i).keys = s.keys
      ∧ (s.grantPrefetch t i).scrub = s.scrub ∧ (s.grantPrefetch t i).pwq = s.pwq
      ∧ (s.grantPrefetch t i).tracker = s.tracker ∧ (s.grantPrefetch t i).flushes = s.flushes
      ∧ (s.grantPrefetch t i).notices = s.notices ∧ (s.grantPrefetch t i).held = s.held
      ∧ (s.grantPrefetch t i).power = s.power ∧ (s.grantPrefetch t i).resetRec = s.resetRec := by
  unfold State.grantPrefetch; (repeat' split) <;> simp

@[simp] theorem State.drawFor_frame (s : State) (p : Pattern) :
    (s.drawFor p).powered = s.powered ∧ (s.drawFor p).settings = s.settings ∧ (s.drawFor p).nv = s.nv
      ∧ (s.drawFor p).windows = s.windows ∧ (s.drawFor p).pages = s.pages ∧ (s.drawFor p).accounts = s.accounts
      ∧ (s.drawFor p).meter = s.meter ∧ (s.drawFor p).commit = s.commit ∧ (s.drawFor p).slots = s.slots
      ∧ (s.drawFor p).gauges = s.gauges ∧ (s.drawFor p).carry = s.carry ∧ (s.drawFor p).keys = s.keys
      ∧ (s.drawFor p).scrub = s.scrub ∧ (s.drawFor p).pwq = s.pwq ∧ (s.drawFor p).tracker = s.tracker
      ∧ (s.drawFor p).flushes = s.flushes ∧ (s.drawFor p).notices = s.notices ∧ (s.drawFor p).held = s.held
      ∧ (s.drawFor p).power = s.power ∧ (s.drawFor p).resetRec = s.resetRec := by
  unfold State.drawFor; (repeat' split) <;> simp

@[simp] theorem State.grantScrub_frame (s : State) (t : MemTid) (c : ChannelId) :
    (s.grantScrub t c).powered = s.powered ∧ (s.grantScrub t c).settings = s.settings ∧ (s.grantScrub t c).nv = s.nv
      ∧ (s.grantScrub t c).windows = s.windows ∧ (s.grantScrub t c).pages = s.pages
      ∧ (s.grantScrub t c).accounts = s.accounts ∧ (s.grantScrub t c).meter = s.meter
      ∧ (s.grantScrub t c).commit = s.commit ∧ (s.grantScrub t c).slots = s.slots
      ∧ (s.grantScrub t c).gauges = s.gauges ∧ (s.grantScrub t c).carry = s.carry ∧ (s.grantScrub t c).keys = s.keys
      ∧ (s.grantScrub t c).pwq = s.pwq ∧ (s.grantScrub t c).tracker = s.tracker
      ∧ (s.grantScrub t c).flushes = s.flushes ∧ (s.grantScrub t c).notices = s.notices
      ∧ (s.grantScrub t c).held = s.held ∧ (s.grantScrub t c).power = s.power
      ∧ (s.grantScrub t c).resetRec = s.resetRec := by
  unfold State.grantScrub; dsimp only; (repeat' split) <;> simp

@[simp] theorem State.grant_frame (s : State) (t : MemTid) (g : Grantee) :
    (s.grant t g).powered = s.powered ∧ (s.grant t g).settings = s.settings ∧ (s.grant t g).nv = s.nv
      ∧ (s.grant t g).windows = s.windows ∧ (s.grant t g).pages = s.pages ∧ (s.grant t g).accounts = s.accounts
      ∧ (s.grant t g).meter = s.meter ∧ (s.grant t g).commit = s.commit ∧ (s.grant t g).slots = s.slots
      ∧ (s.grant t g).gauges = s.gauges ∧ (s.grant t g).carry = s.carry ∧ (s.grant t g).keys = s.keys
      ∧ (s.grant t g).flushes = s.flushes ∧ (s.grant t g).notices = s.notices ∧ (s.grant t g).held = s.held
      ∧ (s.grant t g).power = s.power ∧ (s.grant t g).resetRec = s.resetRec := by
  unfold State.grant; dsimp only; (repeat' split) <;> simp

@[simp] theorem State.grantNext_frame (s : State) :
    (s.grantNext).powered = s.powered ∧ (s.grantNext).settings = s.settings ∧ (s.grantNext).nv = s.nv
      ∧ (s.grantNext).windows = s.windows ∧ (s.grantNext).pages = s.pages ∧ (s.grantNext).accounts = s.accounts
      ∧ (s.grantNext).meter = s.meter ∧ (s.grantNext).commit = s.commit ∧ (s.grantNext).slots = s.slots
      ∧ (s.grantNext).gauges = s.gauges ∧ (s.grantNext).carry = s.carry ∧ (s.grantNext).keys = s.keys
      ∧ (s.grantNext).flushes = s.flushes ∧ (s.grantNext).notices = s.notices ∧ (s.grantNext).held = s.held
      ∧ (s.grantNext).power = s.power ∧ (s.grantNext).resetRec = s.resetRec := by
  unfold State.grantNext; (repeat' split) <;> simp

@[simp] theorem State.demandDone_frame (s : State) (n : Nat) (l : List Beat) :
    (s.demandDone n l).powered = s.powered ∧ (s.demandDone n l).settings = s.settings ∧ (s.demandDone n l).nv = s.nv
      ∧ (s.demandDone n l).windows = s.windows ∧ (s.demandDone n l).pages = s.pages
      ∧ (s.demandDone n l).accounts = s.accounts ∧ (s.demandDone n l).meter = s.meter
      ∧ (s.demandDone n l).commit = s.commit ∧ (s.demandDone n l).slots = s.slots
      ∧ (s.demandDone n l).gauges = s.gauges ∧ (s.demandDone n l).carry = s.carry ∧ (s.demandDone n l).keys = s.keys
      ∧ (s.demandDone n l).scrub = s.scrub ∧ (s.demandDone n l).pwq = s.pwq ∧ (s.demandDone n l).flushes = s.flushes
      ∧ (s.demandDone n l).notices = s.notices ∧ (s.demandDone n l).held = s.held ∧ (s.demandDone n l).power = s.power
      ∧ (s.demandDone n l).resetRec = s.resetRec := by
  unfold State.demandDone; (repeat' split) <;> simp

@[simp] theorem State.demandFailed_frame (s : State) (n : Nat) (x : FailCause) :
    (s.demandFailed n x).powered = s.powered ∧ (s.demandFailed n x).settings = s.settings
      ∧ (s.demandFailed n x).nv = s.nv ∧ (s.demandFailed n x).windows = s.windows
      ∧ (s.demandFailed n x).pages = s.pages ∧ (s.demandFailed n x).accounts = s.accounts
      ∧ (s.demandFailed n x).meter = s.meter ∧ (s.demandFailed n x).commit = s.commit
      ∧ (s.demandFailed n x).slots = s.slots ∧ (s.demandFailed n x).gauges = s.gauges
      ∧ (s.demandFailed n x).carry = s.carry ∧ (s.demandFailed n x).keys = s.keys
      ∧ (s.demandFailed n x).scrub = s.scrub ∧ (s.demandFailed n x).pwq = s.pwq
      ∧ (s.demandFailed n x).flushes = s.flushes ∧ (s.demandFailed n x).notices = s.notices
      ∧ (s.demandFailed n x).held = s.held ∧ (s.demandFailed n x).power = s.power
      ∧ (s.demandFailed n x).resetRec = s.resetRec := by
  unfold State.demandFailed; (repeat' split) <;> simp

@[simp] theorem State.rmwDone_frame (s : State) (l : List Beat) :
    (s.rmwDone l).powered = s.powered ∧ (s.rmwDone l).settings = s.settings ∧ (s.rmwDone l).nv = s.nv
      ∧ (s.rmwDone l).windows = s.windows ∧ (s.rmwDone l).pages = s.pages ∧ (s.rmwDone l).accounts = s.accounts
      ∧ (s.rmwDone l).meter = s.meter ∧ (s.rmwDone l).commit = s.commit ∧ (s.rmwDone l).slots = s.slots
      ∧ (s.rmwDone l).gauges = s.gauges ∧ (s.rmwDone l).carry = s.carry ∧ (s.rmwDone l).keys = s.keys
      ∧ (s.rmwDone l).scrub = s.scrub ∧ (s.rmwDone l).tracker = s.tracker ∧ (s.rmwDone l).flushes = s.flushes
      ∧ (s.rmwDone l).notices = s.notices ∧ (s.rmwDone l).held = s.held ∧ (s.rmwDone l).power = s.power
      ∧ (s.rmwDone l).resetRec = s.resetRec := by
  unfold State.rmwDone; (repeat' split) <;> simp

@[simp] theorem State.prefetchDone_frame (s : State) (i : Fin 8) (l : List Beat) :
    (s.prefetchDone i l).powered = s.powered ∧ (s.prefetchDone i l).settings = s.settings
      ∧ (s.prefetchDone i l).nv = s.nv ∧ (s.prefetchDone i l).windows = s.windows
      ∧ (s.prefetchDone i l).pages = s.pages ∧ (s.prefetchDone i l).accounts = s.accounts
      ∧ (s.prefetchDone i l).meter = s.meter ∧ (s.prefetchDone i l).commit = s.commit
      ∧ (s.prefetchDone i l).slots = s.slots ∧ (s.prefetchDone i l).gauges = s.gauges
      ∧ (s.prefetchDone i l).carry = s.carry ∧ (s.prefetchDone i l).keys = s.keys
      ∧ (s.prefetchDone i l).scrub = s.scrub ∧ (s.prefetchDone i l).pwq = s.pwq
      ∧ (s.prefetchDone i l).tracker = s.tracker ∧ (s.prefetchDone i l).flushes = s.flushes
      ∧ (s.prefetchDone i l).notices = s.notices ∧ (s.prefetchDone i l).held = s.held
      ∧ (s.prefetchDone i l).power = s.power ∧ (s.prefetchDone i l).resetRec = s.resetRec := by
  unfold State.prefetchDone; (repeat' split) <;> simp

@[simp] theorem State.requestDone_frame (s : State) (r : MemRequest) (l : List Beat) :
    (s.requestDone r l).powered = s.powered ∧ (s.requestDone r l).settings = s.settings
      ∧ (s.requestDone r l).nv = s.nv ∧ (s.requestDone r l).pages = s.pages
      ∧ (s.requestDone r l).accounts = s.accounts ∧ (s.requestDone r l).meter = s.meter
      ∧ (s.requestDone r l).commit = s.commit ∧ (s.requestDone r l).slots = s.slots
      ∧ (s.requestDone r l).gauges = s.gauges ∧ (s.requestDone r l).carry = s.carry
      ∧ (s.requestDone r l).notices = s.notices ∧ (s.requestDone r l).held = s.held
      ∧ (s.requestDone r l).power = s.power ∧ (s.requestDone r l).resetRec = s.resetRec := by
  unfold State.requestDone; (repeat' split) <;> simp

@[simp] theorem State.requestFailed_frame (s : State) (r : MemRequest) (x : FailCause) :
    (s.requestFailed r x).powered = s.powered ∧ (s.requestFailed r x).settings = s.settings
      ∧ (s.requestFailed r x).nv = s.nv ∧ (s.requestFailed r x).windows = s.windows
      ∧ (s.requestFailed r x).pages = s.pages ∧ (s.requestFailed r x).accounts = s.accounts
      ∧ (s.requestFailed r x).meter = s.meter ∧ (s.requestFailed r x).commit = s.commit
      ∧ (s.requestFailed r x).slots = s.slots ∧ (s.requestFailed r x).gauges = s.gauges
      ∧ (s.requestFailed r x).carry = s.carry ∧ (s.requestFailed r x).keys = s.keys
      ∧ (s.requestFailed r x).notices = s.notices ∧ (s.requestFailed r x).held = s.held
      ∧ (s.requestFailed r x).power = s.power ∧ (s.requestFailed r x).resetRec = s.resetRec := by
  unfold State.requestFailed; (repeat' split) <;> simp

@[simp] theorem State.memoryResponse_frame (s : State) (t : MemTid) (b : Bool) (v : Vector MemBeat 8) :
    (s.memoryResponse t b v).powered = s.powered ∧ (s.memoryResponse t b v).settings = s.settings
      ∧ (s.memoryResponse t b v).nv = s.nv ∧ (s.memoryResponse t b v).pages = s.pages
      ∧ (s.memoryResponse t b v).accounts = s.accounts ∧ (s.memoryResponse t b v).meter = s.meter
      ∧ (s.memoryResponse t b v).commit = s.commit ∧ (s.memoryResponse t b v).slots = s.slots
      ∧ (s.memoryResponse t b v).gauges = s.gauges ∧ (s.memoryResponse t b v).carry = s.carry
      ∧ (s.memoryResponse t b v).notices = s.notices ∧ (s.memoryResponse t b v).held = s.held
      ∧ (s.memoryResponse t b v).power = s.power ∧ (s.memoryResponse t b v).resetRec = s.resetRec := by
  unfold State.memoryResponse; dsimp only; (repeat' split) <;> simp

@[simp] theorem State.memoryTimeout_frame (s : State) (t : MemTid) :
    (s.memoryTimeout t).powered = s.powered ∧ (s.memoryTimeout t).settings = s.settings
      ∧ (s.memoryTimeout t).nv = s.nv ∧ (s.memoryTimeout t).windows = s.windows ∧ (s.memoryTimeout t).pages = s.pages
      ∧ (s.memoryTimeout t).accounts = s.accounts ∧ (s.memoryTimeout t).meter = s.meter
      ∧ (s.memoryTimeout t).commit = s.commit ∧ (s.memoryTimeout t).slots = s.slots
      ∧ (s.memoryTimeout t).gauges = s.gauges ∧ (s.memoryTimeout t).carry = s.carry
      ∧ (s.memoryTimeout t).keys = s.keys ∧ (s.memoryTimeout t).notices = s.notices
      ∧ (s.memoryTimeout t).held = s.held ∧ (s.memoryTimeout t).power = s.power
      ∧ (s.memoryTimeout t).resetRec = s.resetRec := by
  unfold State.memoryTimeout; (repeat' split) <;> simp

@[simp] theorem State.quarantineEnd_frame (s : State) (t : MemTid) :
    (s.quarantineEnd t).powered = s.powered ∧ (s.quarantineEnd t).settings = s.settings
      ∧ (s.quarantineEnd t).nv = s.nv ∧ (s.quarantineEnd t).windows = s.windows ∧ (s.quarantineEnd t).pages = s.pages
      ∧ (s.quarantineEnd t).accounts = s.accounts ∧ (s.quarantineEnd t).meter = s.meter
      ∧ (s.quarantineEnd t).commit = s.commit ∧ (s.quarantineEnd t).slots = s.slots
      ∧ (s.quarantineEnd t).gauges = s.gauges ∧ (s.quarantineEnd t).carry = s.carry
      ∧ (s.quarantineEnd t).keys = s.keys ∧ (s.quarantineEnd t).scrub = s.scrub ∧ (s.quarantineEnd t).pwq = s.pwq
      ∧ (s.quarantineEnd t).tracker = s.tracker ∧ (s.quarantineEnd t).flushes = s.flushes
      ∧ (s.quarantineEnd t).notices = s.notices ∧ (s.quarantineEnd t).held = s.held
      ∧ (s.quarantineEnd t).power = s.power ∧ (s.quarantineEnd t).resetRec = s.resetRec := by
  unfold State.quarantineEnd; (repeat' split) <;> simp

@[simp] theorem State.allocate_frame (s : State) (p : PrefetchSource) (n : Nat) (i : Fin 8) :
    (s.allocate p n i).powered = s.powered ∧ (s.allocate p n i).settings = s.settings ∧ (s.allocate p n i).nv = s.nv
      ∧ (s.allocate p n i).windows = s.windows ∧ (s.allocate p n i).pages = s.pages
      ∧ (s.allocate p n i).accounts = s.accounts ∧ (s.allocate p n i).meter = s.meter
      ∧ (s.allocate p n i).commit = s.commit ∧ (s.allocate p n i).slots = s.slots
      ∧ (s.allocate p n i).gauges = s.gauges ∧ (s.allocate p n i).carry = s.carry ∧ (s.allocate p n i).keys = s.keys
      ∧ (s.allocate p n i).scrub = s.scrub ∧ (s.allocate p n i).pwq = s.pwq ∧ (s.allocate p n i).tracker = s.tracker
      ∧ (s.allocate p n i).flushes = s.flushes ∧ (s.allocate p n i).notices = s.notices
      ∧ (s.allocate p n i).held = s.held ∧ (s.allocate p n i).power = s.power
      ∧ (s.allocate p n i).resetRec = s.resetRec := by
  unfold State.allocate; simp

@[simp] theorem State.prefetchFrom_frame (s : State) (p : PrefetchSource) (n m : Nat) :
    (State.prefetchFrom p n m s).powered = s.powered ∧ (State.prefetchFrom p n m s).settings = s.settings
      ∧ (State.prefetchFrom p n m s).nv = s.nv ∧ (State.prefetchFrom p n m s).windows = s.windows
      ∧ (State.prefetchFrom p n m s).pages = s.pages ∧ (State.prefetchFrom p n m s).accounts = s.accounts
      ∧ (State.prefetchFrom p n m s).meter = s.meter ∧ (State.prefetchFrom p n m s).commit = s.commit
      ∧ (State.prefetchFrom p n m s).slots = s.slots ∧ (State.prefetchFrom p n m s).gauges = s.gauges
      ∧ (State.prefetchFrom p n m s).carry = s.carry ∧ (State.prefetchFrom p n m s).keys = s.keys
      ∧ (State.prefetchFrom p n m s).scrub = s.scrub ∧ (State.prefetchFrom p n m s).pwq = s.pwq
      ∧ (State.prefetchFrom p n m s).tracker = s.tracker ∧ (State.prefetchFrom p n m s).flushes = s.flushes
      ∧ (State.prefetchFrom p n m s).notices = s.notices ∧ (State.prefetchFrom p n m s).held = s.held
      ∧ (State.prefetchFrom p n m s).power = s.power ∧ (State.prefetchFrom p n m s).resetRec = s.resetRec := by
  induction n generalizing s m with | zero => simp [State.prefetchFrom] | succ n ih => unfold State.prefetchFrom; (repeat' split) <;> simp [ih]

@[simp] theorem State.startPrefetch_frame (s : State) (w : WindowRef) (r : PlaneRef) (n : Nat) (g : JobTag) :
    (s.startPrefetch w r n g).powered = s.powered ∧ (s.startPrefetch w r n g).settings = s.settings
      ∧ (s.startPrefetch w r n g).nv = s.nv ∧ (s.startPrefetch w r n g).windows = s.windows
      ∧ (s.startPrefetch w r n g).pages = s.pages ∧ (s.startPrefetch w r n g).accounts = s.accounts
      ∧ (s.startPrefetch w r n g).meter = s.meter ∧ (s.startPrefetch w r n g).commit = s.commit
      ∧ (s.startPrefetch w r n g).slots = s.slots ∧ (s.startPrefetch w r n g).gauges = s.gauges
      ∧ (s.startPrefetch w r n g).carry = s.carry ∧ (s.startPrefetch w r n g).keys = s.keys
      ∧ (s.startPrefetch w r n g).scrub = s.scrub ∧ (s.startPrefetch w r n g).pwq = s.pwq
      ∧ (s.startPrefetch w r n g).tracker = s.tracker ∧ (s.startPrefetch w r n g).flushes = s.flushes
      ∧ (s.startPrefetch w r n g).notices = s.notices ∧ (s.startPrefetch w r n g).held = s.held
      ∧ (s.startPrefetch w r n g).power = s.power ∧ (s.startPrefetch w r n g).resetRec = s.resetRec := by
  unfold State.startPrefetch; (repeat' split) <;> simp

@[simp] theorem State.sendBeat_frame (s : State) (d : Delivery) :
    (s.sendBeat d).powered = s.powered ∧ (s.sendBeat d).settings = s.settings ∧ (s.sendBeat d).keys = s.keys
      ∧ (s.sendBeat d).scrub = s.scrub ∧ (s.sendBeat d).pwq = s.pwq ∧ (s.sendBeat d).tracker = s.tracker
      ∧ (s.sendBeat d).flushes = s.flushes ∧ (s.sendBeat d).notices = s.notices ∧ (s.sendBeat d).held = s.held
      ∧ (s.sendBeat d).power = s.power ∧ (s.sendBeat d).resetRec = s.resetRec := by
  unfold State.sendBeat; dsimp only; simp

@[simp] theorem State.endDelivery_frame (s : State) (d : Delivery) :
    (s.endDelivery d).powered = s.powered ∧ (s.endDelivery d).settings = s.settings ∧ (s.endDelivery d).nv = s.nv
      ∧ (s.endDelivery d).windows = s.windows ∧ (s.endDelivery d).pages = s.pages
      ∧ (s.endDelivery d).accounts = s.accounts ∧ (s.endDelivery d).meter = s.meter
      ∧ (s.endDelivery d).commit = s.commit ∧ (s.endDelivery d).slots = s.slots ∧ (s.endDelivery d).gauges = s.gauges
      ∧ (s.endDelivery d).carry = s.carry ∧ (s.endDelivery d).keys = s.keys ∧ (s.endDelivery d).scrub = s.scrub
      ∧ (s.endDelivery d).pwq = s.pwq ∧ (s.endDelivery d).tracker = s.tracker ∧ (s.endDelivery d).flushes = s.flushes
      ∧ (s.endDelivery d).notices = s.notices ∧ (s.endDelivery d).held = s.held ∧ (s.endDelivery d).power = s.power
      ∧ (s.endDelivery d).resetRec = s.resetRec := by
  unfold State.endDelivery; dsimp only; (repeat' split) <;> simp

@[simp] theorem State.abortIfPrinting_frame (s : State) (b : Bool) :
    (s.abortIfPrinting b).powered = s.powered ∧ (s.abortIfPrinting b).settings = s.settings
      ∧ (s.abortIfPrinting b).nv = s.nv ∧ (s.abortIfPrinting b).windows = s.windows
      ∧ (s.abortIfPrinting b).accounts = s.accounts ∧ (s.abortIfPrinting b).meter = s.meter
      ∧ (s.abortIfPrinting b).commit = s.commit ∧ (s.abortIfPrinting b).slots = s.slots
      ∧ (s.abortIfPrinting b).gauges = s.gauges ∧ (s.abortIfPrinting b).carry = s.carry
      ∧ (s.abortIfPrinting b).keys = s.keys ∧ (s.abortIfPrinting b).scrub = s.scrub
      ∧ (s.abortIfPrinting b).pwq = s.pwq ∧ (s.abortIfPrinting b).tracker = s.tracker
      ∧ (s.abortIfPrinting b).flushes = s.flushes ∧ (s.abortIfPrinting b).notices = s.notices
      ∧ (s.abortIfPrinting b).held = s.held ∧ (s.abortIfPrinting b).resetRec = s.resetRec := by
  unfold State.abortIfPrinting; (repeat' split) <;> simp

@[simp] theorem State.deliverTracked_frame (s : State) (e : TrackerEntry) (l : List Beat) :
    (s.deliverTracked e l).powered = s.powered ∧ (s.deliverTracked e l).settings = s.settings
      ∧ (s.deliverTracked e l).keys = s.keys ∧ (s.deliverTracked e l).scrub = s.scrub
      ∧ (s.deliverTracked e l).pwq = s.pwq ∧ (s.deliverTracked e l).flushes = s.flushes
      ∧ (s.deliverTracked e l).notices = s.notices ∧ (s.deliverTracked e l).held = s.held
      ∧ (s.deliverTracked e l).resetRec = s.resetRec := by
  unfold State.deliverTracked; dsimp only; (repeat' split) <;> simp

@[simp] theorem State.endLineDelivery_frame (s : State) (i : Fin 8) :
    (s.endLineDelivery i).powered = s.powered ∧ (s.endLineDelivery i).settings = s.settings
      ∧ (s.endLineDelivery i).nv = s.nv ∧ (s.endLineDelivery i).windows = s.windows
      ∧ (s.endLineDelivery i).pages = s.pages ∧ (s.endLineDelivery i).accounts = s.accounts
      ∧ (s.endLineDelivery i).meter = s.meter ∧ (s.endLineDelivery i).commit = s.commit
      ∧ (s.endLineDelivery i).slots = s.slots ∧ (s.endLineDelivery i).gauges = s.gauges
      ∧ (s.endLineDelivery i).carry = s.carry ∧ (s.endLineDelivery i).keys = s.keys
      ∧ (s.endLineDelivery i).scrub = s.scrub ∧ (s.endLineDelivery i).pwq = s.pwq
      ∧ (s.endLineDelivery i).tracker = s.tracker ∧ (s.endLineDelivery i).flushes = s.flushes
      ∧ (s.endLineDelivery i).notices = s.notices ∧ (s.endLineDelivery i).held = s.held
      ∧ (s.endLineDelivery i).power = s.power ∧ (s.endLineDelivery i).resetRec = s.resetRec := by
  unfold State.endLineDelivery; (repeat' split) <;> simp

@[simp] theorem State.deliverHit_frame (s : State) (h : Hit) :
    (s.deliverHit h).powered = s.powered ∧ (s.deliverHit h).settings = s.settings ∧ (s.deliverHit h).keys = s.keys
      ∧ (s.deliverHit h).scrub = s.scrub ∧ (s.deliverHit h).pwq = s.pwq ∧ (s.deliverHit h).tracker = s.tracker
      ∧ (s.deliverHit h).flushes = s.flushes ∧ (s.deliverHit h).notices = s.notices ∧ (s.deliverHit h).held = s.held
      ∧ (s.deliverHit h).resetRec = s.resetRec := by
  unfold State.deliverHit; dsimp only; (repeat' split) <;> simp

@[simp] theorem State.deliverBeat_frame (s : State) (n : Nat) :
    (s.deliverBeat n).powered = s.powered ∧ (s.deliverBeat n).settings = s.settings ∧ (s.deliverBeat n).keys = s.keys
      ∧ (s.deliverBeat n).scrub = s.scrub ∧ (s.deliverBeat n).pwq = s.pwq ∧ (s.deliverBeat n).flushes = s.flushes
      ∧ (s.deliverBeat n).notices = s.notices ∧ (s.deliverBeat n).held = s.held
      ∧ (s.deliverBeat n).resetRec = s.resetRec := by
  unfold State.deliverBeat; (repeat' split) <;> simp

@[simp] theorem State.releaseHeld_frame (s : State) (n : Nat) :
    (s.releaseHeld n).powered = s.powered ∧ (s.releaseHeld n).settings = s.settings ∧ (s.releaseHeld n).nv = s.nv
      ∧ (s.releaseHeld n).windows = s.windows ∧ (s.releaseHeld n).pages = s.pages
      ∧ (s.releaseHeld n).accounts = s.accounts ∧ (s.releaseHeld n).meter = s.meter
      ∧ (s.releaseHeld n).commit = s.commit ∧ (s.releaseHeld n).slots = s.slots ∧ (s.releaseHeld n).gauges = s.gauges
      ∧ (s.releaseHeld n).carry = s.carry ∧ (s.releaseHeld n).keys = s.keys ∧ (s.releaseHeld n).scrub = s.scrub
      ∧ (s.releaseHeld n).pwq = s.pwq ∧ (s.releaseHeld n).flushes = s.flushes ∧ (s.releaseHeld n).notices = s.notices
      ∧ (s.releaseHeld n).held = s.held ∧ (s.releaseHeld n).power = s.power ∧ (s.releaseHeld n).resetRec = s.resetRec := by
  unfold State.releaseHeld; (repeat' split) <;> simp

@[simp] theorem State.completeFlush_frame (s : State) (n : Nat) :
    (s.completeFlush n).powered = s.powered ∧ (s.completeFlush n).settings = s.settings
      ∧ (s.completeFlush n).nv = s.nv ∧ (s.completeFlush n).windows = s.windows ∧ (s.completeFlush n).pages = s.pages
      ∧ (s.completeFlush n).accounts = s.accounts ∧ (s.completeFlush n).meter = s.meter
      ∧ (s.completeFlush n).commit = s.commit ∧ (s.completeFlush n).slots = s.slots
      ∧ (s.completeFlush n).gauges = s.gauges ∧ (s.completeFlush n).carry = s.carry
      ∧ (s.completeFlush n).keys = s.keys ∧ (s.completeFlush n).scrub = s.scrub ∧ (s.completeFlush n).pwq = s.pwq
      ∧ (s.completeFlush n).tracker = s.tracker ∧ (s.completeFlush n).notices = s.notices
      ∧ (s.completeFlush n).held = s.held ∧ (s.completeFlush n).power = s.power
      ∧ (s.completeFlush n).resetRec = s.resetRec := by
  unfold State.completeFlush; (repeat' split) <;> simp

@[simp] theorem State.discardExpiry_frame (s : State) (i : Fin 8) :
    (s.discardExpiry i).powered = s.powered ∧ (s.discardExpiry i).settings = s.settings
      ∧ (s.discardExpiry i).nv = s.nv ∧ (s.discardExpiry i).windows = s.windows ∧ (s.discardExpiry i).pages = s.pages
      ∧ (s.discardExpiry i).accounts = s.accounts ∧ (s.discardExpiry i).meter = s.meter
      ∧ (s.discardExpiry i).commit = s.commit ∧ (s.discardExpiry i).slots = s.slots
      ∧ (s.discardExpiry i).gauges = s.gauges ∧ (s.discardExpiry i).carry = s.carry
      ∧ (s.discardExpiry i).keys = s.keys ∧ (s.discardExpiry i).scrub = s.scrub ∧ (s.discardExpiry i).pwq = s.pwq
      ∧ (s.discardExpiry i).tracker = s.tracker ∧ (s.discardExpiry i).flushes = s.flushes
      ∧ (s.discardExpiry i).notices = s.notices ∧ (s.discardExpiry i).held = s.held
      ∧ (s.discardExpiry i).power = s.power ∧ (s.discardExpiry i).resetRec = s.resetRec := by
  unfold State.discardExpiry; (repeat' split) <;> simp

@[simp] theorem State.policyChanged_frame (s : State) :
    (s.policyChanged).powered = s.powered ∧ (s.policyChanged).settings = s.settings ∧ (s.policyChanged).nv = s.nv
      ∧ (s.policyChanged).windows = s.windows ∧ (s.policyChanged).accounts = s.accounts
      ∧ (s.policyChanged).meter = s.meter ∧ (s.policyChanged).commit = s.commit ∧ (s.policyChanged).keys = s.keys
      ∧ (s.policyChanged).scrub = s.scrub ∧ (s.policyChanged).pwq = s.pwq ∧ (s.policyChanged).tracker = s.tracker
      ∧ (s.policyChanged).flushes = s.flushes ∧ (s.policyChanged).notices = s.notices
      ∧ (s.policyChanged).held = s.held ∧ (s.policyChanged).power = s.power ∧ (s.policyChanged).resetRec = s.resetRec := by
  unfold State.policyChanged; simp

@[simp] theorem State.settingChanged_frame (s : State) (n : SettingName) :
    (s.settingChanged n).powered = s.powered ∧ (s.settingChanged n).settings = s.settings
      ∧ (s.settingChanged n).windows = s.windows ∧ (s.settingChanged n).accounts = s.accounts
      ∧ (s.settingChanged n).meter = s.meter ∧ (s.settingChanged n).keys = s.keys
      ∧ (s.settingChanged n).scrub = s.scrub ∧ (s.settingChanged n).pwq = s.pwq
      ∧ (s.settingChanged n).tracker = s.tracker ∧ (s.settingChanged n).flushes = s.flushes
      ∧ (s.settingChanged n).notices = s.notices ∧ (s.settingChanged n).held = s.held
      ∧ (s.settingChanged n).power = s.power ∧ (s.settingChanged n).resetRec = s.resetRec := by
  unfold State.settingChanged; (repeat' split) <;> simp

@[simp] theorem State.writeSetting_frame (s : State) (n : SettingName) (m : Nat) :
    (s.writeSetting n m).powered = s.powered ∧ (s.writeSetting n m).windows = s.windows
      ∧ (s.writeSetting n m).accounts = s.accounts ∧ (s.writeSetting n m).meter = s.meter
      ∧ (s.writeSetting n m).keys = s.keys ∧ (s.writeSetting n m).scrub = s.scrub ∧ (s.writeSetting n m).pwq = s.pwq
      ∧ (s.writeSetting n m).tracker = s.tracker ∧ (s.writeSetting n m).flushes = s.flushes
      ∧ (s.writeSetting n m).notices = s.notices ∧ (s.writeSetting n m).held = s.held
      ∧ (s.writeSetting n m).power = s.power ∧ (s.writeSetting n m).resetRec = s.resetRec := by
  unfold State.writeSetting; (repeat' split) <;> simp

@[simp] theorem State.setRoot_frame (s : State) (r : RootStore) :
    (s.setRoot r).powered = s.powered ∧ (s.setRoot r).settings = s.settings ∧ (s.setRoot r).windows = s.windows
      ∧ (s.setRoot r).pages = s.pages ∧ (s.setRoot r).accounts = s.accounts ∧ (s.setRoot r).meter = s.meter
      ∧ (s.setRoot r).commit = s.commit ∧ (s.setRoot r).slots = s.slots ∧ (s.setRoot r).gauges = s.gauges
      ∧ (s.setRoot r).carry = s.carry ∧ (s.setRoot r).keys = s.keys ∧ (s.setRoot r).scrub = s.scrub
      ∧ (s.setRoot r).pwq = s.pwq ∧ (s.setRoot r).tracker = s.tracker ∧ (s.setRoot r).flushes = s.flushes
      ∧ (s.setRoot r).notices = s.notices ∧ (s.setRoot r).held = s.held ∧ (s.setRoot r).power = s.power
      ∧ (s.setRoot r).resetRec = s.resetRec := by
  unfold State.setRoot; simp

@[simp] theorem State.emptyFrame_frame (s : State) (f : Frame) :
    (s.emptyFrame f).powered = s.powered ∧ (s.emptyFrame f).settings = s.settings ∧ (s.emptyFrame f).nv = s.nv
      ∧ (s.emptyFrame f).windows = s.windows ∧ (s.emptyFrame f).pages = s.pages
      ∧ (s.emptyFrame f).accounts = s.accounts ∧ (s.emptyFrame f).meter = s.meter ∧ (s.emptyFrame f).commit = s.commit
      ∧ (s.emptyFrame f).slots = s.slots ∧ (s.emptyFrame f).gauges = s.gauges ∧ (s.emptyFrame f).carry = s.carry
      ∧ (s.emptyFrame f).keys = s.keys ∧ (s.emptyFrame f).scrub = s.scrub ∧ (s.emptyFrame f).pwq = s.pwq
      ∧ (s.emptyFrame f).tracker = s.tracker ∧ (s.emptyFrame f).flushes = s.flushes
      ∧ (s.emptyFrame f).notices = s.notices
      ∧ (s.emptyFrame f).held = (if f.early || s.awaiting.isSome then s.held else none)
      ∧ (s.emptyFrame f).power = s.power
      ∧ (s.emptyFrame f).resetRec = s.resetRec := by
  unfold State.emptyFrame; split <;> simp [*]

@[simp] theorem State.dropTraffic_frame (s : State) :
    (s.dropTraffic).powered = s.powered ∧ (s.dropTraffic).settings = s.settings ∧ (s.dropTraffic).nv = s.nv
      ∧ (s.dropTraffic).windows = s.windows ∧ (s.dropTraffic).pages = s.pages ∧ (s.dropTraffic).accounts = s.accounts
      ∧ (s.dropTraffic).meter = s.meter ∧ (s.dropTraffic).commit = s.commit ∧ (s.dropTraffic).slots = s.slots
      ∧ (s.dropTraffic).gauges = s.gauges ∧ (s.dropTraffic).carry = s.carry ∧ (s.dropTraffic).keys = s.keys
      ∧ (s.dropTraffic).scrub = s.scrub ∧ (s.dropTraffic).notices = s.notices ∧ (s.dropTraffic).held = s.held
      ∧ (s.dropTraffic).power = s.power ∧ (s.dropTraffic).resetRec = s.resetRec := by
  unfold State.dropTraffic; dsimp only; simp

@[simp] theorem State.stopScrub_frame (s : State) :
    (s.stopScrub).powered = s.powered ∧ (s.stopScrub).settings = s.settings ∧ (s.stopScrub).nv = s.nv
      ∧ (s.stopScrub).windows = s.windows ∧ (s.stopScrub).pages = s.pages ∧ (s.stopScrub).accounts = s.accounts
      ∧ (s.stopScrub).meter = s.meter ∧ (s.stopScrub).commit = s.commit ∧ (s.stopScrub).slots = s.slots
      ∧ (s.stopScrub).gauges = s.gauges ∧ (s.stopScrub).carry = s.carry ∧ (s.stopScrub).keys = s.keys
      ∧ (s.stopScrub).pwq = s.pwq ∧ (s.stopScrub).tracker = s.tracker ∧ (s.stopScrub).flushes = s.flushes
      ∧ (s.stopScrub).notices = s.notices ∧ (s.stopScrub).held = s.held ∧ (s.stopScrub).power = s.power
      ∧ (s.stopScrub).resetRec = s.resetRec := by
  unfold State.stopScrub; dsimp only; simp

@[simp] theorem State.recordReset_frame (s : State) (k : ResetKind) :
    (s.recordReset k).powered = s.powered ∧ (s.recordReset k).settings = s.settings ∧ (s.recordReset k).nv = s.nv
      ∧ (s.recordReset k).windows = s.windows ∧ (s.recordReset k).pages = s.pages
      ∧ (s.recordReset k).accounts = s.accounts ∧ (s.recordReset k).meter = s.meter
      ∧ (s.recordReset k).commit = s.commit ∧ (s.recordReset k).slots = s.slots ∧ (s.recordReset k).gauges = s.gauges
      ∧ (s.recordReset k).carry = s.carry ∧ (s.recordReset k).keys = s.keys ∧ (s.recordReset k).scrub = s.scrub
      ∧ (s.recordReset k).pwq = s.pwq ∧ (s.recordReset k).tracker = s.tracker ∧ (s.recordReset k).flushes = s.flushes
      ∧ (s.recordReset k).held = s.held ∧ (s.recordReset k).power = s.power := by
  unfold State.recordReset; dsimp only; (repeat' split) <;> simp

@[simp] theorem State.beginReset_frame (s : State) (k : ResetKind) :
    (s.beginReset k).powered = s.powered ∧ (s.beginReset k).settings = s.settings ∧ (s.beginReset k).keys = s.keys
      ∧ (s.beginReset k).held = s.held := by
  unfold State.beginReset; simp

@[simp] theorem State.freeAllWindows_frame (s : State) :
    (s.freeAllWindows).powered = s.powered ∧ (s.freeAllWindows).settings = s.settings ∧ (s.freeAllWindows).nv = s.nv
      ∧ (s.freeAllWindows).pages = s.pages ∧ (s.freeAllWindows).accounts = s.accounts
      ∧ (s.freeAllWindows).meter = s.meter ∧ (s.freeAllWindows).commit = s.commit ∧ (s.freeAllWindows).slots = s.slots
      ∧ (s.freeAllWindows).gauges = s.gauges ∧ (s.freeAllWindows).carry = s.carry ∧ (s.freeAllWindows).scrub = s.scrub
      ∧ (s.freeAllWindows).pwq = s.pwq ∧ (s.freeAllWindows).tracker = s.tracker
      ∧ (s.freeAllWindows).flushes = s.flushes ∧ (s.freeAllWindows).notices = s.notices
      ∧ (s.freeAllWindows).held = s.held ∧ (s.freeAllWindows).power = s.power
      ∧ (s.freeAllWindows).resetRec = s.resetRec := by
  unfold State.freeAllWindows; simp

@[simp] theorem State.resetWindows_frame (s : State) :
    (s.resetWindows).powered = s.powered ∧ (s.resetWindows).settings = s.settings ∧ (s.resetWindows).nv = s.nv
      ∧ (s.resetWindows).pages = s.pages ∧ (s.resetWindows).accounts = s.accounts ∧ (s.resetWindows).meter = s.meter
      ∧ (s.resetWindows).commit = s.commit ∧ (s.resetWindows).slots = s.slots ∧ (s.resetWindows).gauges = s.gauges
      ∧ (s.resetWindows).carry = s.carry ∧ (s.resetWindows).scrub = s.scrub ∧ (s.resetWindows).pwq = s.pwq
      ∧ (s.resetWindows).tracker = s.tracker ∧ (s.resetWindows).flushes = s.flushes
      ∧ (s.resetWindows).notices = s.notices ∧ (s.resetWindows).held = s.held ∧ (s.resetWindows).power = s.power := by
  unfold State.resetWindows; (repeat' split) <;> simp

@[simp] theorem State.loadSettings_frame (s : State) :
    (s.loadSettings).powered = s.powered ∧ (s.loadSettings).nv = s.nv ∧ (s.loadSettings).windows = s.windows
      ∧ (s.loadSettings).pages = s.pages ∧ (s.loadSettings).accounts = s.accounts ∧ (s.loadSettings).meter = s.meter
      ∧ (s.loadSettings).commit = s.commit ∧ (s.loadSettings).slots = s.slots ∧ (s.loadSettings).gauges = s.gauges
      ∧ (s.loadSettings).carry = s.carry ∧ (s.loadSettings).keys = s.keys ∧ (s.loadSettings).scrub = s.scrub
      ∧ (s.loadSettings).pwq = s.pwq ∧ (s.loadSettings).tracker = s.tracker ∧ (s.loadSettings).flushes = s.flushes
      ∧ (s.loadSettings).notices = s.notices ∧ (s.loadSettings).held = s.held ∧ (s.loadSettings).power = s.power
      ∧ (s.loadSettings).resetRec = s.resetRec := by
  unfold State.loadSettings; (repeat' split) <;> simp

@[simp] theorem State.reloadSettings_frame (s : State) :
    (s.reloadSettings).powered = s.powered ∧ (s.reloadSettings).windows = s.windows
      ∧ (s.reloadSettings).accounts = s.accounts ∧ (s.reloadSettings).meter = s.meter
      ∧ (s.reloadSettings).keys = s.keys ∧ (s.reloadSettings).scrub = s.scrub ∧ (s.reloadSettings).pwq = s.pwq
      ∧ (s.reloadSettings).tracker = s.tracker ∧ (s.reloadSettings).flushes = s.flushes
      ∧ (s.reloadSettings).notices = s.notices ∧ (s.reloadSettings).held = s.held ∧ (s.reloadSettings).power = s.power
      ∧ (s.reloadSettings).resetRec = s.resetRec := by
  unfold State.reloadSettings; dsimp only; (repeat' split) <;> simp

@[simp] theorem State.completeReset_frame (s : State) :
    (s.completeReset).powered = s.powered ∧ (s.completeReset).windows = s.windows
      ∧ (s.completeReset).accounts = s.accounts ∧ (s.completeReset).meter = s.meter ∧ (s.completeReset).keys = s.keys
      ∧ (s.completeReset).scrub = s.scrub ∧ (s.completeReset).pwq = s.pwq ∧ (s.completeReset).tracker = s.tracker
      ∧ (s.completeReset).flushes = s.flushes ∧ (s.completeReset).notices = s.notices
      ∧ (s.completeReset).held = s.held ∧ (s.completeReset).power = s.power := by
  unfold State.completeReset; dsimp only; (repeat' split) <;> simp

@[simp] theorem State.joinReset_frame (s : State) :
    (s.joinReset).powered = s.powered ∧ (s.joinReset).settings = s.settings ∧ (s.joinReset).nv = s.nv
      ∧ (s.joinReset).windows = s.windows ∧ (s.joinReset).pages = s.pages ∧ (s.joinReset).accounts = s.accounts
      ∧ (s.joinReset).meter = s.meter ∧ (s.joinReset).commit = s.commit ∧ (s.joinReset).slots = s.slots
      ∧ (s.joinReset).gauges = s.gauges ∧ (s.joinReset).carry = s.carry ∧ (s.joinReset).keys = s.keys
      ∧ (s.joinReset).scrub = s.scrub ∧ (s.joinReset).pwq = s.pwq ∧ (s.joinReset).tracker = s.tracker
      ∧ (s.joinReset).flushes = s.flushes ∧ (s.joinReset).notices = s.notices ∧ (s.joinReset).held = s.held
      ∧ (s.joinReset).power = s.power := by
  unfold State.joinReset; simp

@[simp] theorem State.linkAsserted_frame (s : State) :
    (s.linkAsserted).powered = s.powered ∧ (s.linkAsserted).settings = s.settings ∧ (s.linkAsserted).keys = s.keys
      ∧ (s.linkAsserted).held = s.held := by
  unfold State.linkAsserted; (repeat' split) <;> simp

@[simp] theorem State.setLinkrst_frame (s : State) (b : Bool) :
    (s.setLinkrst b).powered = s.powered ∧ (s.setLinkrst b).settings = s.settings ∧ (s.setLinkrst b).nv = s.nv
      ∧ (s.setLinkrst b).windows = s.windows ∧ (s.setLinkrst b).pages = s.pages
      ∧ (s.setLinkrst b).accounts = s.accounts ∧ (s.setLinkrst b).meter = s.meter ∧ (s.setLinkrst b).commit = s.commit
      ∧ (s.setLinkrst b).slots = s.slots ∧ (s.setLinkrst b).gauges = s.gauges ∧ (s.setLinkrst b).carry = s.carry
      ∧ (s.setLinkrst b).keys = s.keys ∧ (s.setLinkrst b).scrub = s.scrub ∧ (s.setLinkrst b).pwq = s.pwq
      ∧ (s.setLinkrst b).tracker = s.tracker ∧ (s.setLinkrst b).flushes = s.flushes
      ∧ (s.setLinkrst b).notices = s.notices ∧ (s.setLinkrst b).held = s.held ∧ (s.setLinkrst b).power = s.power
      ∧ (s.setLinkrst b).resetRec = s.resetRec := by
  unfold State.setLinkrst; simp

@[simp] theorem State.setPfail_frame (s : State) (b : Bool) :
    (s.setPfail b).powered = s.powered ∧ (s.setPfail b).settings = s.settings ∧ (s.setPfail b).nv = s.nv
      ∧ (s.setPfail b).windows = s.windows ∧ (s.setPfail b).pages = s.pages ∧ (s.setPfail b).accounts = s.accounts
      ∧ (s.setPfail b).meter = s.meter ∧ (s.setPfail b).commit = s.commit ∧ (s.setPfail b).slots = s.slots
      ∧ (s.setPfail b).gauges = s.gauges ∧ (s.setPfail b).carry = s.carry ∧ (s.setPfail b).keys = s.keys
      ∧ (s.setPfail b).scrub = s.scrub ∧ (s.setPfail b).pwq = s.pwq ∧ (s.setPfail b).tracker = s.tracker
      ∧ (s.setPfail b).flushes = s.flushes ∧ (s.setPfail b).notices = s.notices ∧ (s.setPfail b).held = s.held
      ∧ (s.setPfail b).power = s.power ∧ (s.setPfail b).resetRec = s.resetRec := by
  unfold State.setPfail; simp

@[simp] theorem State.enterSleep_frame (s : State) :
    (s.enterSleep).powered = s.powered ∧ (s.enterSleep).settings = s.settings ∧ (s.enterSleep).windows = s.windows
      ∧ (s.enterSleep).pages = s.pages ∧ (s.enterSleep).accounts = s.accounts ∧ (s.enterSleep).meter = s.meter
      ∧ (s.enterSleep).slots = s.slots ∧ (s.enterSleep).gauges = s.gauges ∧ (s.enterSleep).carry = s.carry
      ∧ (s.enterSleep).keys = s.keys ∧ (s.enterSleep).pwq = s.pwq ∧ (s.enterSleep).tracker = s.tracker
      ∧ (s.enterSleep).flushes = s.flushes ∧ (s.enterSleep).notices = s.notices ∧ (s.enterSleep).held = s.held
      ∧ (s.enterSleep).resetRec = s.resetRec := by
  unfold State.enterSleep; dsimp only; simp

@[simp] theorem State.fallAsleep_frame (s : State) :
    (s.fallAsleep).powered = s.powered ∧ (s.fallAsleep).settings = s.settings ∧ (s.fallAsleep).nv = s.nv
      ∧ (s.fallAsleep).windows = s.windows ∧ (s.fallAsleep).pages = s.pages ∧ (s.fallAsleep).accounts = s.accounts
      ∧ (s.fallAsleep).meter = s.meter ∧ (s.fallAsleep).commit = s.commit ∧ (s.fallAsleep).gauges = s.gauges
      ∧ (s.fallAsleep).carry = s.carry ∧ (s.fallAsleep).keys = s.keys ∧ (s.fallAsleep).scrub = s.scrub
      ∧ (s.fallAsleep).pwq = s.pwq ∧ (s.fallAsleep).tracker = s.tracker ∧ (s.fallAsleep).flushes = s.flushes
      ∧ (s.fallAsleep).notices = s.notices ∧ (s.fallAsleep).held = s.held ∧ (s.fallAsleep).resetRec = s.resetRec := by
  unfold State.fallAsleep; simp

@[simp] theorem State.beginWakeReset_frame (s : State) :
    (s.beginWakeReset).powered = s.powered ∧ (s.beginWakeReset).settings = s.settings
      ∧ (s.beginWakeReset).keys = s.keys ∧ (s.beginWakeReset).held = s.held := by
  unfold State.beginWakeReset; dsimp only; (repeat' split) <;> simp

/-! ## Frames, replies and beats -/

/-- A frame is empty, comes while a command is judged, starts or joins a wake, or has its command judged. -/
theorem receive_cases (cmd : Instr) (f : Frame) (judge : State → State) (s : State) :
    (f.bytes < 2 ∧ receive cmd f judge s = s.emptyFrame f)
      ∨ (2 ≤ f.bytes ∧ (f.early = true ∨ s.awaiting.isSome = true) ∧ receive cmd f judge s = s.sendNotReady f)
      ∨ (2 ≤ f.bytes ∧ f.early = false ∧ s.awaiting = none ∧ (s.power = .sleep ∨ s.power = .waking)
        ∧ receive cmd f judge s = { s.sendHeld f with power := .waking, awaiting := some cmd })
      ∨ (2 ≤ f.bytes ∧ f.early = false ∧ s.awaiting = none ∧ (s.power = .run ∨ s.power = .entering)
        ∧ receive cmd f judge s = judge (s.sendHeld f)) := by
  have power : (s.sendHeld f).power = s.power := rfl
  unfold receive
  by_cases short : f.bytes < 2
  · exact .inl ⟨short, by simp [short]⟩
  · have long : 2 ≤ f.bytes := by omega
    cases early : f.early
    · cases waits : s.awaiting with
      | some c => exact .inr (.inl ⟨long, .inr rfl, by simp [short]⟩)
      | none =>
        rcases hp : s.power with _ | _ | _ | _
        · exact .inr (.inr (.inr ⟨long, rfl, rfl, .inl rfl, by simp [short, hp]⟩))
        · exact .inr (.inr (.inr ⟨long, rfl, rfl, .inr rfl, by simp [short, hp]⟩))
        · exact .inr (.inr (.inl ⟨long, rfl, rfl, .inl rfl, by simp [short, hp]⟩))
        · refine .inr (.inr (.inl ⟨long, rfl, rfl, .inr rfl, ?_⟩))
          have powerHeld : { s.sendHeld f with power := .waking, awaiting := some cmd }
              = { s.sendHeld f with awaiting := some cmd } := by rw [← hp, ← power]
          rw [powerHeld]
          simp only [short, power, hp]
          rfl
    · exact .inr (.inl ⟨long, .inl rfl, by simp [short]⟩)

/-- A whole frame of a port that judges at once has its command judged. -/
theorem receive_judged {cmd : Instr} {f : Frame} {n : Nat} {judge : State → State} {s : State} (hs : s.judges)
    (hf : wholeFrame f n) : receive cmd f judge s = judge (s.sendHeld f) := by
  obtain ⟨-, awaiting, power⟩ := hs
  obtain ⟨early, -, long⟩ := hf
  rcases receive_cases cmd f judge s with h | h | h | h
  · omega
  · simp [early, awaiting] at h
  · rcases power with p | p <;> simp [p] at h
  · exact h.2.2.2.2

/-- The frame's own checks pass on a whole frame of the command's length. -/
theorem wholeFrame.fits {f : Frame} {n : Nat} (h : wholeFrame f n) : frameFits f n = true := by
  obtain ⟨-, len, long⟩ := h
  simp [frameFits, len, long]

/-- A good reply frame is delimited by its length byte, whatever bytes follow it. -/
theorem delimitFrame_of_goodPayload {code : Byte} {length : Nat} {frame tail ps : List Byte}
    (h : goodPayload code length frame = some ps) : delimitFrame (frame ++ tail) = some frame := by
  match frame, h with
  | n :: c :: rest, h =>
    simp only [goodPayload] at h
    split at h
    · next good =>
      obtain ⟨size, announced, -, -⟩ := good
      simp only [delimitFrame, List.cons_append, List.length_cons, List.length_append, announced]
      rw [if_pos (by omega), List.take_succ_cons, ← size, List.take_left]
    · cases h

/-- Counting a beat on a page that is moved to PRINTING is what the statements call the printed beat. -/
theorem Page.count_eq_printedBeat (p : Page) (colour : Colour) (offset : Nat) (b : Beat) :
    { p with state := .printing }.count colour offset b = p.printedBeat colour offset b := by
  simp only [Page.count, Page.printedBeat, Plane.count, Page.planeSize]
  congr 1
  refine List.map_congr_left fun pl _ => ?_
  by_cases hc : pl.colour = colour
  · by_cases ho : pl.offset ≤ offset
    · by_cases hm : pl.mark ≤ offset - pl.offset ∧ offset - pl.offset + 32 ≤ p.lines * p.bytesPerLine
      · have : pl.offset + pl.mark ≤ offset ∧ offset + 32 ≤ pl.offset + p.lines * p.bytesPerLine := by omega
        simp [hc, ho, hm, this]
      · have : ¬ (pl.offset + pl.mark ≤ offset ∧ offset + 32 ≤ pl.offset + p.lines * p.bytesPerLine) := by omega
        simp only [hc, ho, hm, this, and_self, if_true, if_false, and_false]
    · have : ¬ (pl.offset + pl.mark ≤ offset ∧ offset + 32 ≤ pl.offset + p.lines * p.bytesPerLine) := by omega
      simp only [ho, this, and_false, if_false]
  · simp [hc]

end Sys2Proof.Machine
end

