-- ==== Sys2Proof/Tests/Slice0.lean ====
section
/-! SUPPORT. Tests: the WellFormed smoke, the spec's worked figures and words, single steps, and for each statement with
hypotheses a named state that meets them. -/

namespace Sys2Proof.Tests

set_option Elab.async false

open Sys2Proof Sys2Proof.Machine

/-! ## Helpers -/

/-- A request of job 7 with good address parity. -/
def req (kind : BitVec 2) (source : BitVec 3) (tid : Tid) (addr : Addr) (length : BitVec 4) : PageRequest :=
  ⟨kind, source, tid, 7, addr, addrParityOf addr, length⟩

/-- A frame that carries its command whole. -/
def whole (n : Nat) : Frame := ⟨.ofNat 8 n, n + 2, false⟩

/-- A beat of data with good parity. -/
def wbeat (data : Beat) (mask : BitVec 32) : WriteBeat := ⟨data, mask, dataParityOf data⟩

/-- Eight beats of write data, all the same. -/
def wbeats (data : Beat) (mask : BitVec 32) : Vector WriteBeat 8 := Vector.replicate 8 (wbeat data mask)

/-- Eight beats of memory data, all the same. -/
def mbeats (data : Beat) : Vector MemBeat 8 := Vector.replicate 8 ⟨data, dataParityOf data⟩

/-- A window of 4 KiB at system address 0x100000 and memory address 0x200000 with a different mode for each class. -/
def win (kind : WindowKind) (state : WindowState) : Window :=
  { state := state, kind := kind, sysBase := 0x100000, memBase := 0x200000, generation := 1
    modes := ⟨.readWrite, .cipher, .read, .readWrite, .noAccess, .read⟩ }

/-- The reset state with window 0 replaced and a key in its slot. -/
def withWin (w : Window) : State :=
  { State.reset with
    windows := State.reset.windows.set 0 w
    keys := { State.reset.keys with slots := State.reset.keys.slots.set 0 (some 0) }
    draws := 1 }

/-- The reset state with an open WORK window. -/
def work : State := withWin (win .work .opened)

/-- A 1-plane page of 1 line of 256 bytes, number 1, in window 0. -/
def page (st : PageState) : Page :=
  { number := 1, account := 0, window := ⟨0, 1⟩, planes := [⟨3, 0, some (.genuine 5 65536), 0, 0⟩], bytesPerLine := 256
    lines := 1, size := .small, baseMono := 1, baseColor := none, reservation := 4, state := st }

/-- The reset state with an open PRINT window and a live page in it. -/
def print (st : PageState) : State :=
  let s := withWin { win .print .opened with livePages := 1 }
  { s with pages := s.pages.set 0 (some (page st)), nextPage := 2
           accounts := s.accounts.set 0 { walkUpAccount with reserved := 4 } }

/-- A record of a cyan cartridge. -/
def record : Record := ⟨5, 1, 0, 1000000, 65535, 900000, 3⟩

/-- The reset state with cartridge slot 0 in a state, present, with a message. -/
def cart (x : SlotState) (m : Option Message) : State :=
  { State.reset with slots := State.reset.slots.set 0 ⟨x, .present, m, none⟩ }

/-- A GENUINE slot that owes 100 units. -/
def owing : State :=
  let s := cart (.genuine record) none
  { s with gauges := s.gauges.set 0 ⟨899900, 100, 900000, 3, none, none⟩ }

/-- A write that waits at the head of the queue. -/
def entry : PwqEntry :=
  { id := 0, source := .cpu, tid := 1, jobTag := 7, sysAddr := 0x300000, memAddr := 0x300000, length := 1, access := .pass
    window := none, offset := 0, key := none, beats := [⟨1, BitVec.allOnes 32⟩], rmw := false, units := [], state := .queued
    marks := [1] }

/-- The reset state with a posted write and a flush that marks it. -/
def queued : State := { State.reset with pwq := [entry], flushes := [⟨1, .cpu, 2, 1, false⟩], tids := [(.cpu, 2)], seq := 2 }

/-- A tracked read of memory outside every window. -/
def tracked (st : ReadState) : TrackerEntry :=
  { age := 3, source := .cpu, tid := 4, jobTag := 7, sysAddr := 0x300000, memAddr := 0x300000, length := 2, access := .pass
    window := none, offset := 0, ref := none, state := st, sent := 0, ownsTid := true }

/-- The reset state with one tracked read. -/
def reading (e : TrackerEntry) : State := { State.reset with tracker := [e], tids := [(e.source, e.tid)], seq := 4 }

/-- The reset state with a request outstanding under memory tid 0. -/
def outstanding (s : State) (op : MemOp) (c : Consumer) : State :=
  s.setMemTid 0 (.outstanding ⟨op, c, .cpu, 7, 0x300000, 2, 2000⟩)

/-- A job on window 0. -/
def job (k : JobKind) : Job := ⟨k, ⟨0, 1⟩⟩

/-- A state with a channel put in place of A. -/
def channel (s : State) (x : Channel) : State := { s with scrub := { s.scrub with chans := s.scrub.chans.set 0 x } }

/-- The next state of a command, where there is one. -/
def after (c : Instr) (s : State) : Option State :=
  match exec c s with
  | .next t => some t
  | _ => none

/-- What a check says of the next state of a command. -/
def leads (c : Instr) (s : State) (p : State → Bool) : Bool := (after c s).any p

/-! ## WellFormed -/

theorem test_read_with_kind_of_write_refused : wellFormed (.read (req 1 0 0 0x1000 1)) = false := by decide

theorem test_write_with_kind_of_read_refused : wellFormed (.write (req 0 0 0 0x1000 1) (wbeats 0 0)) = false := by decide

theorem test_flush_with_kind_of_write_refused : wellFormed (.flush (req 1 0 0 0x1000 1)) = false := by decide

theorem test_invalid_kind_carried : wellFormed (.read (req 3 0 0 0x1000 1)) = true := by decide

theorem test_unknown_command_with_known_code_refused : wellFormed (.unknownCommand (whole 0) 0x10) = false := by decide

theorem test_unknown_command_with_free_code_taken : wellFormed (.unknownCommand (whole 0) 0x77) = true := by decide

theorem test_unknown_command_without_its_code_refused : wellFormed (.unknownCommand ⟨0, 1, false⟩ 0x77) = false := by decide

theorem test_empty_frame_taken : wellFormed (.unknownCommand ⟨0, 0, false⟩ 0) = true := by decide

theorem test_command_without_length_byte_refused :
    wellFormed (.commit ⟨0, 1, false⟩) = false ∧ wellFormed (.commit (whole 0)) = true := by decide

/-! ## Figures and words of the spec -/

/-- R142, 12.4: a HELLO request is the length byte, the code and the CRC-8 over both. -/
theorem test_hello_frame : cartFrame 0x01 [] = [1, 1, crc8 [1, 1]] := by decide +kernel

/-- R142: the CRC-8 of polynomial x^8 + x^5 + x^4 + 1 and initial value 0xFF over one byte 0, and over the bytes 1 to 9 in
ASCII, the usual check value of this CRC. -/
theorem test_crc : crc8 [0] = 0xAC ∧ crc8 [0x31, 0x32, 0x33, 0x34, 0x35, 0x36, 0x37, 0x38, 0x39] = 0xF7 := by decide +kernel

/-- 6.8: the area, the coverages, the charge and the draws of the worked colour page. -/
theorem test_colour_page_area : areaOf 1248 7016 = 35023872 ∧ sizeClassOf 35023872 36000000 = .small := by decide +kernel

theorem test_colour_page_coverage :
    [20000000, 15000000, 12000000, 5300000].map (coverageOf 35023872) = [1903, 1427, 1142, 504] := by decide +kernel

theorem test_colour_page_charge :
    chargeOf 4 (excessOf 4976 2000) = 5 ∧ chargeOf 4 (excessOf 4976 5000) = 4 ∧ chargeOf 4 (excessOf 40000 0) = 16
      ∧ chargeOf 1 (excessOf 4976 2000) = 1 ∧ chargeOf 6 (excessOf 4976 2000) = 7 := by decide +kernel

theorem test_colour_page_draws :
    drawOf 20000000 2600 = 793458 ∧ drawOf 15000000 2600 = 595093 ∧ drawOf 12000000 2400 = 439454
      ∧ drawOf 5300000 3000 = 242615 := by decide +kernel

/-- 2.6: a 512 MiB scan window with a stride of 32 MiB has 16 slots. -/
theorem test_scan_window_slots : sizeOfCode 17 = 536870912 ∧ slotCountOf (sizeOfCode 17) 33554432 = 16 := by decide +kernel

/-- R3: the example of a legal shape and of one that crosses a chunk. -/
theorem test_shape_example :
    legalShape (req 0 0 0 0x1000000C0 2) = true ∧ legalShape (req 0 0 0 0x1000000C0 3) = false := by decide +kernel

/-- R200: a memory timeout of 50 is written as 100, an A_large of 0 as 1, and a scrub share halfway goes to the larger. -/
theorem test_clamps :
    clampSetting .memTimeout 50 = 100 ∧ clampSetting .aLarge 0 = 1 ∧ clampSetting .scrubShare 6 = 8
      ∧ clampSetting .scrubShare 24 = 32 := by decide

/-- 12.2, R207: frames written out byte by byte from the layouts. -/
theorem test_error_read_frame : decodeFrame false .verified [0x71, 0] = .errorRead ⟨0, 2, false⟩ := by decide

theorem test_config_write_frame :
    decodeFrame false .verified [0x61, 5, 14, 0x40, 1, 0, 0] = .configWrite ⟨5, 7, false⟩ 14 320 := by decide +kernel

theorem test_set_limit_frame :
    decodeFrame false .verified [0x31, 5, 7, 0xFF, 0xFF, 0xFF, 0xFF]
      = .accountSetLimit ⟨5, 7, false⟩ 7 0xFFFFFFFF := by decide +kernel

theorem test_window_open_frame :
    decodeFrame false .verified [0x10, 24, 0, 0, 0, 0, 0x40, 1, 0, 0, 0, 0, 9, 17, 17, 0, 3, 2, 3, 1, 0, 0, 0, 0, 2, 5]
      = .windowOpen ⟨24, 26, false⟩
          ⟨0, 0x140000000, 0x900000000, 17, 17, ⟨0, 3, 2, 3, 1, 0⟩, 0x2000000, 5⟩ := by decide +kernel

/-- R195: a frame of one byte is an empty frame. -/
theorem test_one_byte_frame : decodeFrame false .verified [0x20] = .unknownCommand ⟨0, 1, false⟩ 0 := by decide

/-- R194: with no response held the part clocks out the ready mark, code 0, status OK and no data, then zeros. -/
theorem test_no_response_held : clockedBytes 7 (responseBytes none) = [0x5A, 0, 0, 0, 0, 0, 0] := by decide

/-! ## Single steps -/

/-- R202: POWER_ON of a part fresh from manufacture gives the reset state. -/
theorem test_power_on_is_reset : after .powerOn State.blank = some State.reset := by decide +kernel

/-- R27: the first window opened has index 0 and generation 1. -/
theorem test_window_open :
    leads (.windowOpen (whole 24) ⟨2, 0x100000, 0x200000, 0, 0, ⟨3, 0, 0, 0, 0, 0⟩, 0, 0⟩) State.reset
      (fun t => t.held == some ⟨0x10, .ok, .windowOpened 0 1⟩ && (t.window 0).state == .opened) = true := by decide +kernel

/-- R26: a base that is not aligned to the window's size. -/
theorem test_window_open_misaligned :
    leads (.windowOpen (whole 24) ⟨2, 0x100000, 0x201000, 1, 0, ⟨3, 0, 0, 0, 0, 0⟩, 0, 0⟩) State.reset
      (fun t => t.held == some ⟨0x10, .badArgument, .empty⟩) = true := by decide +kernel

/-- R8: a NET read of the WORK window, where NET has mode NONE, is DENIED and sets its flag. -/
theorem test_read_denied :
    leads (.read (req 0 4 3 0x100000 1)) work
      (fun t => t.emitted == [.response 4 3 .denied] && flagSet t.path.flags .denied) = true := by decide +kernel

/-- R64: a CPU read of the WORK window is tracked as a DECRYPT read. -/
theorem test_read_tracked :
    leads (.read (req 0 0 3 0x100020 2)) work (fun t => t.tracker.map (fun e => (e.access, e.offset, e.memAddr))
      == [(.decrypt, 32, 0x200020)]) = true := by decide +kernel

/-- R48: a pass-through write is answered OKAY and waits in the queue. -/
theorem test_write_accepted :
    leads (.write (req 1 0 3 0x300000 1) (wbeats 9 1)) work
      (fun t => t.emitted == [.response 0 3 .okay] && t.pwq.map (·.access) == [.pass]) = true := by decide +kernel

/-- R54: one with every mask bit clear leaves the queue at once. -/
theorem test_empty_write_leaves :
    leads (.write (req 1 0 3 0x300000 1) (wbeats 9 0)) work
      (fun t => t.emitted == [.response 0 3 .okay] && t.pwq.isEmpty) = true := by decide +kernel

/-- R59: a flush of a queue that is not empty marks its entries and waits. -/
theorem test_flush_waits :
    leads (.flush (req 2 0 9 0 0)) queued
      (fun t => t.emitted.isEmpty && t.flushes.length == 2 && t.pwq.map (·.marks) == [[1, 2]]) = true := by decide +kernel

/-- R75: the drain's write is granted under memory tid 0. -/
theorem test_grant_drain :
    leads .memoryGrant queued (fun t => t.pwq.map (·.state) == [.writing] && t.memTid 0 != .free) = true := by decide +kernel

/-- R52, R60: its OKAY empties the queue and lets the flush go. -/
theorem test_drain_done :
    leads (.memoryResponse 0 false (mbeats 0)) (outstanding queued .write (.drain 0))
      (fun t => t.pwq.isEmpty && t.flushes.map (·.count) == [0]) = true := by decide +kernel

/-- R55: its failure marks the flush lost. -/
theorem test_drain_failed :
    leads (.memoryTimeout 0) (outstanding queued .write (.drain 0))
      (fun t => t.flushes.map (·.lost) == [true] && flagSet t.path.flags .memTimeout && t.memTid 0 == .quarantined 8000)
      = true := by decide +kernel

/-- R77: a response on a free memory tid. -/
theorem test_unsolicited :
    leads (.memoryResponse 9 false (mbeats 0)) State.reset (fun t => flagSet t.path.flags .unsolicited) = true := by
  decide +kernel

/-- R67: the last beat of a read frees its tid. -/
theorem test_last_beat :
    leads (.beatDelivery 3) (reading { tracked (.delivering [1, 2]) with sent := 1 })
      (fun t => t.emitted == [.beat .cpu 4 1 2 true] && t.tracker.isEmpty && t.tids.isEmpty) = true := by decide +kernel

/-- R93, R95, R113: the last beat of a mono page completes it, and the page is charged its base unit. -/
theorem test_page_completes :
    leads (.beatDelivery 3)
      { print .printing with
        pages := (print .printing).pages.set 0 (some { page .printing with planes := [⟨3, 0, some (.genuine 5 65536), 224, 0⟩] })
        tracker := [{ tracked (.delivering [3]) with
          source := .print, access := .decrypt, window := some ⟨0, 1⟩, offset := 224, ref := some ⟨1, 3⟩, length := 1 }] }
      (fun t => t.page 0 == none && (t.account 0).used == 1 && (t.account 0).reserved == 0
        && t.meter.monoSmall == 1 && t.carry == [⟨5, 3⟩]) = true := by decide +kernel

/-- R91: a PRINT read of a page in WAITING is answered RETRY. -/
theorem test_waiting_page_retry :
    leads (.read (req 0 2 3 0x100000 8)) (print .waiting) (fun t => t.emitted == [.response 2 3 .retry]) = true := by
  decide +kernel

/-- R98: PAGE_CANCEL of a waiting page gives its reservation back. -/
theorem test_page_cancel :
    leads (.pageCancel (whole 4) 1) (print .waiting)
      (fun t => t.page 0 == none && (t.account 0).reserved == 0 && (t.window 0).livePages == 0) = true := by decide +kernel

/-- 7.7, events 1 and 4: 30 + 0 + 16 exceeds a limit of 40, and 37 is below 30 + 8. -/
theorem test_limited_account :
    ({ state := .active, limit := some 40, used := 30 } : Account).canReserve 16 = false
      ∧ ({ state := .active, limit := some 40, used := 30, reserved := 4 } : Account).canReserve 4 = true
      ∧ ({ state := .active, limit := some 40, used := 30, reserved := 8 } : Account).belowUsed (some 37) = true := by decide

/-- R119: the first account created takes slot 1. -/
theorem test_account_create :
    leads (.accountCreate (whole 8) 20 40) State.reset
      (fun t => t.held == some ⟨0x30, .ok, .accountCreated 1⟩ && (t.account 1).limit == some 40) = true := by decide +kernel

/-- R133, R134: a commit of a blank store has number 0, goes to bank A and is reported when it is done. -/
theorem test_commit :
    leads (.commit (whole 0)) State.reset
      (fun t => leads (.commitEnd true) t (fun u => u.nv.newest.map (·.1) == some .a && u.nv.nextNumber == 1
        && u.notices.map (·.notice) == [.reset .powerOn, .commitDone 0 1])) = true := by decide +kernel

/-- R141, R146: a settled cartridge is probed. -/
theorem test_settled :
    leads (.settlingExpiry 2) { State.reset with
        pins := { State.reset.pins with lines := State.reset.pins.lines.set 2 true }
        slots := State.reset.slots.set 2 { presence := .settling } }
      (fun t => t.slot 2 == ⟨.probing, .present, some ⟨.hello false, 1, .sending⟩, some .inserted⟩) = true := by decide +kernel

/-- R147: a good HELLO reply on a part not provisioned, under the policy STRICT. -/
theorem test_hello_reply :
    leads (.helloReply 0 (cartFrame 0x81 (leBytes 8 5 ++ leBytes 2 1 ++ [0] ++ leBytes 4 1000000 ++ leBytes 2 65535
        ++ leBytes 4 900000 ++ leBytes 4 3))) (cart .probing (some ⟨.hello false, 1, .awaiting⟩))
      (fun t => (t.slot 0).state == .rejected (some record) && (t.slot 0).lastReason == some .notProvisioned) = true := by
  decide +kernel

/-- R153, R163: a GENUINE cartridge removed leaves its debt to the carry list. -/
theorem test_removed :
    leads (.presenceDeassert 0) owing (fun t => (t.slot 0).state == .absent && t.carry == [⟨5, 100⟩]) = true := by decide +kernel

/-- R170, 9.9: a debt joins the entry of its serial, and a full list drops its oldest entry. -/
theorem test_carry_merges :
    ({ State.reset with carry := [⟨1, 467⟩, ⟨2, 5⟩] }.carryAdd 1 9000).carry = [⟨1, 9467⟩, ⟨2, 5⟩] := by decide +kernel

theorem test_carry_drops_oldest :
    ({ State.reset with carry := [⟨1, 1⟩, ⟨2, 2⟩, ⟨3, 3⟩, ⟨4, 4⟩, ⟨5, 5⟩, ⟨6, 6⟩, ⟨7, 7⟩, ⟨8, 8⟩] }.carryAdd 9 9).carry.map
      CarryEntry.serial = [2, 3, 4, 5, 6, 7, 8, 9] := by decide +kernel

/-- R180, R181: an erase of one pass over 4 KiB ends with its last chunk. -/
theorem test_erase_ends :
    leads (.memoryResponse 0 false (mbeats 0))
      (outstanding (channel (withWin (win .work (.retiring .erasing)))
        { state := .running, job := some (job (.erase [.zero])), pass := 1, offset := 3840, step := .writing }) .write (.scrub 0))
      (fun t => (t.window 0).state == .free && (t.chan 0).state == .idle && (t.window 0).generation == 1) = true := by
  decide +kernel

/-- R200: a setting out of its range is clamped, and the answer says so. -/
theorem test_config_write :
    leads (.configWrite (whole 5) 0 50) State.reset
      (fun t => t.settings.memTimeout == 100 && t.held == some ⟨0x61, .ok, .settingWritten 100 true⟩) = true := by decide +kernel

/-- R197: NOTICE_READ after reset gives the POWER_ON notice. -/
theorem test_notice_read :
    leads (.noticeRead (whole 0)) State.reset
      (fun t => t.held == some ⟨0x70, .ok, .notice 0 ⟨.reset .powerOn, 0⟩⟩ && t.notices.isEmpty) = true := by decide +kernel

/-- R39, R40: a part is provisioned, then locked, and takes no further key. -/
theorem test_lock :
    leads (.lock (whole 0) .verified) { State.reset with nv := { State.reset.nv with root := ⟨1, 2, true, false⟩ } }
      (fun t => leads (.provision (whole 40) 9 9 .verified) t
        (fun u => u.held == some ⟨0x7E, .locked, .empty⟩ && u.nv.root == ⟨1, 2, true, true⟩)) = true := by decide +kernel

/-- R204 to R206: SLEEP is accepted, and a command wakes the part. -/
theorem test_sleep_entered :
    leads .sleepEntered { State.reset with power := .entering }
      (fun t => t.power == .sleep && leads (.ident (whole 0)) t (fun u => u.power == .waking)) = true := by decide +kernel

/-- R202: a RESET runs to its end. -/
theorem test_reset_runs :
    leads (.reset (whole 0)) work (fun t => leads .resetWindowsFreed t (fun u => leads .resetComplete u
      (fun v => (v.window 0).state == .free && v.resetRec == ⟨.command, none⟩ && v.commit.inFlight.isSome))) = true := by
  decide +kernel

/-- An empty queue leaves the part as it is, and no word of the table spells a command (log 1). -/
theorem test_idle : step State.reset = .next State.reset ∧ decodeTableWord 16 0 = none := ⟨rfl, rfl⟩

/-! ## States that meet the hypotheses of the statements, statement by statement -/

theorem witness_StepRunsFrontCommand :
    ({ State.reset with pending := [.memoryGrant, .commitTimeout] } : State).pending = [.memoryGrant, .commitTimeout]
      ∧ State.reset.pending = [] := by decide

theorem witness_CommandsKeepToTheirBlocks :
    leads (.tidQuarantineEnd 3) queued (fun _ => true) = true ∧ touchesWindows (.tidQuarantineEnd 3) = false
      ∧ touchesKeys (.tidQuarantineEnd 3) = false ∧ touchesPages (.tidQuarantineEnd 3) = false
      ∧ touchesAccounts (.tidQuarantineEnd 3) = false ∧ touchesMeter (.tidQuarantineEnd 3) = false
      ∧ touchesSlots (.tidQuarantineEnd 3) = false ∧ touchesGauges (.tidQuarantineEnd 3) = false
      ∧ touchesSettings (.tidQuarantineEnd 3) = false ∧ touchesStore (.tidQuarantineEnd 3) = false
      ∧ touchesCommits (.tidQuarantineEnd 3) = false ∧ touchesWrites (.tidQuarantineEnd 3) = false
      ∧ touchesReads (.tidQuarantineEnd 3) = false ∧ touchesFlushes (.tidQuarantineEnd 3) = false
      ∧ touchesScrub (.tidQuarantineEnd 3) = false ∧ touchesErrors (.tidQuarantineEnd 3) = false
      ∧ touchesPins (.tidQuarantineEnd 3) = false ∧ commandCode (.tidQuarantineEnd 3) = none := by decide +kernel

theorem witness_ChecksCatchErrors :
    addrParityGood (req 0 0 0 0xFFFFFFFFF 1) = true ∧ ([] : List Byte).length ≤ 254 ∧ 2 < ([] : List Byte).length + 3
      ∧ (cartFrame 0x01 [])[2]? ≠ some 0 := by decide +kernel

theorem witness_IntakeDropsAndRetries :
    (State.reset.powered = true ∧ (req 0 0 0 0x1000 1).kind ≠ 3
      ∧ addrParityGood { req 0 0 0 0x1000 1 with addrParity := 0 } = false)
    ∧ (({ State.reset with power := .sleep } : State).powered = true ∧ ({ State.reset with power := .sleep } : State).accepting = false
      ∧ addrParityGood (req 0 0 0 0x1000 1) = true)
    ∧ (req 3 0 0 0x1000 1).kind = 3 := by decide +kernel

theorem witness_FirstFailedCheckDecides :
    State.reset.serving ∧ (req 3 0 0 0x1000 1).kind = 3
    ∧ ((req 0 6 0 0x1000 1).kind ≠ 3 ∧ 6 ≤ (req 0 6 0 0x1000 1).source.toNat ∧ addrParityGood (req 0 6 0 0x1000 1) = true)
    ∧ ((req 0 5 0 0x1000 0).source.toNat < 6 ∧ addrParityGood (req 0 5 0 0x1000 0) = true ∧ legalShape (req 0 5 0 0x1000 0) = false)
    ∧ (queued.serving ∧ sourceOf (req 0 0 2 0x1000 1).source = some .cpu ∧ (.cpu, (req 0 0 2 0x1000 1).tid) ∈ queued.tids
      ∧ addrParityGood (req 0 0 2 0x1000 1) = true ∧ legalShape (req 0 0 2 0x1000 1) = true) := by
  simp only [State.serving]; decide +kernel

/-- A WORK window of another job's owner tag. -/
def owned (w : Window) : Window := { w with owner := 9 }

theorem witness_AccessIsRefused_outside :
    (work.admits (req 0 1 0 0xFFFE0 1) .scan ∧ ∀ i, (work.window i).live = true → (work.window i).holdsSys 0xFFFE0 = false)
    ∧ (work.admits (req 0 0 0 0x200FE0 1) .cpu ∧ (∀ i, (work.window i).live = true → (work.window i).holdsSys 0x200FE0 = false)
      ∧ ∃ i, (work.window i).live = true ∧ (work.window i).holdsMem 0x200FE0 = true) := by
  simp only [State.admits, State.serving]; decide +kernel

theorem witness_AccessIsRefused_state :
    (let s := withWin (win .work (.retiring .draining));
      s.admits (req 0 0 0 0x100FE0 1) .cpu ∧ s.findWindow 0x100FE0 = some 0 ∧ (s.window 0).retiring = true)
    ∧ (let s := withWin (win .work .sealed);
      s.admits (req 0 0 0 0x100000 1) .cpu ∧ s.findWindow 0x100000 = some 0 ∧ (s.window 0).state = .sealed) := by
  simp only [State.admits, State.serving]; decide +kernel

theorem witness_AccessIsRefused_mode :
    (work.admits (req 0 4 0 0x100000 1) .net ∧ work.findWindow 0x100000 = some 0 ∧ (work.window 0).modes.of .net = .noAccess)
    ∧ (work.admits (req 0 2 0 0x100000 1) .print ∧ (work.window 0).modes.of .print = .read)
    ∧ (let s := withWin (owned (win .work .opened));
      s.admits (req 0 0 0 0x100000 1) .cpu ∧ s.findWindow 0x100000 = some 0 ∧ (s.window 0).modes.of .cpu = .readWrite
        ∧ (s.window 0).owner ≠ 0 ∧ (s.window 0).owner ≠ (req 0 0 0 0x100000 1).jobTag) := by
  simp only [State.admits, State.serving]; decide +kernel

theorem witness_OwnerCheckDecides :
    (win .work .opened).modes.of .cpu = .readWrite ∧ ((win .work .opened).modes.of .print = .read ∧ false = false)
      ∧ (win .work .opened).modes.of .scan = .cipher ∧ (win .work .opened).modes.of .net = .noAccess := by decide

/-- Two windows side by side in both address spaces. -/
def twoWindows : State :=
  { work with windows := work.windows.set 1 { win .work .opened with sysBase := 0x101000, memBase := 0x201000 } }

theorem witness_OneWindowMatches :
    twoWindows.windowsApart ∧ twoWindows.findWindow 0x101000 = some 1 ∧ (twoWindows.window 1).live = true
      ∧ (twoWindows.window 1).holdsSys 0x101000 = true := by
  simp only [State.windowsApart]; decide +kernel

/-- The WORK window with a VALID line of its first chunk. -/
def cached : State :=
  { work with
    lines := work.lines.set 0 (some ⟨⟨0, 1⟩, 1, 3, 0, 8, 0, 7, .valid 0 500 0 false [1, 2, 3, 4, 5, 6, 7, 8]⟩) }

theorem witness_ReadsAreTaken_pass :
    work.admits (req 0 0 0 0x300000 1) .cpu ∧ work.roomForRead (req 0 0 0 0x300000 1) ⟨none, 0, 0x300000⟩
      ∧ ∀ i, (work.window i).live = true → (work.window i).holdsSys 0x300000 = false ∧ (work.window i).holdsMem 0x300000 = false := by
  simp only [State.admits, State.serving, State.roomForRead]; decide +kernel

theorem witness_ReadsAreTaken_window :
    work.admits (req 0 1 0 0x100FE0 1) .scan ∧ work.findWindow 0x100FE0 = some 0 ∧ (work.window 0).retiring = false
      ∧ work.roomForRead (req 0 1 0 0x100FE0 1) ⟨some ⟨0, 1⟩, 0xFE0, 0x200FE0⟩ ∧ (work.window 0).modes.of .scan = .cipher
      ∧ work.admits (req 0 0 0 0x100FE0 1) .cpu ∧ (work.window 0).modes.of .cpu = .readWrite ∧ (work.window 0).owner = 0
      ∧ (work.hitLine ⟨0, 1⟩ 0xFE0 1).isNone = true := by
  simp only [State.admits, State.serving, State.roomForRead]; decide +kernel

theorem witness_ReadsAreTaken_print :
    let s := print .admitted
    s.admits (req 0 2 0 0x100000 8) .print ∧ s.findWindow 0x100000 = some 0 ∧ (s.window 0).retiring = false
      ∧ s.roomForRead (req 0 2 0 0x100000 8) ⟨some ⟨0, 1⟩, 0, 0x200000⟩ ∧ (s.window 0).modes.of .print = .read
      ∧ (s.window 0).owner = 0 ∧ (s.window 0).kind = .print ∧ (s.hitLine ⟨0, 1⟩ 0 8).isNone = true
      ∧ s.findPlane 0 0 256 = some (page .admitted, ⟨3, 0, some (.genuine 5 65536), 0, 0⟩) := by
  simp only [State.admits, State.serving, State.roomForRead]; decide +kernel

theorem witness_ReadsAreTaken_hit :
    cached.admits (req 0 0 0 0x1000E0 1) .cpu ∧ cached.findWindow 0x1000E0 = some 0 ∧ (cached.window 0).retiring = false
      ∧ cached.chunkLocked 0x2000E0 32 = false ∧ cached.overlapping 0x2000E0 32 = []
      ∧ (cached.hitLine ⟨0, 1⟩ 0xE0 1).map (fun x => (x.1, x.2.2)) = some (0, [8]) := by
  simp only [State.admits, State.serving]; decide +kernel

/-- The live page with a VALID line of its first chunk. -/
def cachedPage (st : PageState) : State :=
  let s := print st
  { s with lines := s.lines.set 0 (some ⟨⟨0, 1⟩, 1, 3, 0, 8, 0, 7, .valid 0 500 0 false [1, 2, 3, 4, 5, 6, 7, 8]⟩) }

theorem witness_ReadsAreTaken_hit_print :
    let s := cachedPage .admitted
    s.admits (req 0 2 0 0x1000E0 1) .print ∧ s.findWindow 0x1000E0 = some 0 ∧ (s.window 0).retiring = false
      ∧ (s.window 0).modes.of .print = .read ∧ (s.window 0).owner = 0 ∧ (s.window 0).kind = .print
      ∧ s.findPlane 0 0xE0 32 = some (page .admitted, ⟨3, 0, some (.genuine 5 65536), 0, 0⟩)
      ∧ (page .admitted).state ≠ .waiting ∧ s.chunkLocked 0x2000E0 32 = false ∧ s.overlapping 0x2000E0 32 = []
      ∧ (s.hitLine ⟨0, 1⟩ 0xE0 1).map (fun x => (x.1, x.2.2)) = some (0, [8]) := by
  simp only [State.admits, State.serving]; decide +kernel

theorem witness_KindGateStopsUnbilledReads :
    (let s := withWin { win .print .opened with modes := ⟨.readWrite, .cipher, .cipher, .readWrite, .noAccess, .read⟩ };
      s.admits (req 0 2 0 0x100000 8) .print ∧ s.findWindow 0x100000 = some 0 ∧ (s.window 0).retiring = false
        ∧ (s.window 0).kind = .print ∧ (s.window 0).modes.of .print = .cipher)
    ∧ (let s := print .waiting
      s.admits (req 0 2 0 0x100100 1) .print ∧ s.findWindow 0x100100 = some 0 ∧ (s.window 0).kind = .print
        ∧ (s.window 0).modes.of .print = .read ∧ (s.window 0).owner = 0 ∧ s.findPlane 0 0x100 32 = none
        ∧ s.findPlane 0 0xE0 32 = some (page .waiting, ⟨3, 0, some (.genuine 5 65536), 0, 0⟩)) := by
  simp only [State.admits, State.serving]; decide +kernel

theorem witness_PlaintextNeedsStanding :
    leads (.read (req 0 0 0 0x100FE0 1)) work (fun t => work.tracker.isEmpty && t.tracker.map (·.access) == [.decrypt]) = true
    ∧ leads (.read (req 0 0 0 0x1000E0 1)) cached (fun t => cached.hits.isEmpty && t.hits.length == 1) = true := by
  decide +kernel

theorem witness_CipherKeepsPlaintext :
    (∀ b ∈ [(⟨1, BitVec.allOnes 32⟩ : QueuedBeat)], b.mask = BitVec.allOnes 32) ∧ maskPartial 0x8000 = true := by decide +kernel

theorem witness_WritesAreTaken_pass :
    work.admits (req 1 0 0 0x300000 1) .cpu
      ∧ (∀ i, (work.window i).live = true → (work.window i).holdsSys 0x300000 = false ∧ (work.window i).holdsMem 0x300000 = false)
      ∧ work.chunkLocked 0x300000 32 = false ∧ work.pwq.length < 16 ∧ work.pwq = []
      ∧ (∀ k, (work.line k).all (fun l => !overlaps 0x300000 32 (work.lineAddr l) 256) = true)
      ∧ (queued.pwq ++ [entry]).head?.all (fun h => !h.allClear) = true
      ∧ (∀ b ∈ (wbeats 1 0).toList, b.mask = 0) := by
  simp only [State.admits, State.serving]; decide +kernel

theorem witness_WritesAreTaken_window :
    work.admits (req 1 0 0 0x100FE0 1) .cpu ∧ work.findWindow 0x100FE0 = some 0 ∧ (work.window 0).state = .opened
      ∧ (work.window 0).modes.of .cpu = .readWrite ∧ (work.window 0).owner = 0
      ∧ work.admits (req 1 1 0 0x100FE0 1) .scan ∧ (work.window 0).modes.of .scan = .cipher ∧ (work.window 0).kind = .work := by
  simp only [State.admits, State.serving]; decide +kernel

/-- The queue full, the tracker full, and no window. -/
def full : State :=
  { State.reset with pwq := List.replicate 16 entry, tracker := List.replicate 16 (tracked (.issued none)) }

/-- A window with its first chunk locked by a re-key on channel A. -/
def locked : State :=
  channel work { state := .running, job := some (job .rekey), step := .ready, lock := some 0 }

theorem witness_WritesAreTaken_full :
    full.admits (req 0 0 0 0x400000 1) .cpu ∧ 16 ≤ full.tracker.length ∧ 16 ≤ full.pwq.length
      ∧ (∀ i, (full.window i).live = true → (full.window i).holdsSys 0x400000 = false ∧ (full.window i).holdsMem 0x400000 = false)
      ∧ locked.chunkLocked 0x2000E0 32 = true ∧ locked.chunkLocked 0x200100 32 = false := by
  simp only [State.admits, State.serving]; decide +kernel

theorem witness_WritesAreTaken_locked_in_window :
    (locked.admits (req 0 1 0 0x1000E0 1) .scan ∧ locked.findWindow 0x1000E0 = some 0 ∧ (locked.window 0).retiring = false
      ∧ (locked.window 0).modes.of .scan = .cipher ∧ locked.chunkLocked 0x2000E0 32 = true)
    ∧ (locked.admits (req 1 0 0 0x1000E0 1) .cpu ∧ (locked.window 0).modes.of .cpu = .readWrite ∧ (locked.window 0).owner = 0
      ∧ (locked.window 0).state = .opened) := by
  simp only [State.admits, State.serving]; decide +kernel

/-- A state with every place in the queue and in the tracker taken. -/
def filled (s : State) : State := { s with pwq := full.pwq, tracker := full.tracker }

theorem witness_WritesAreTaken_full_in_window :
    (filled work).admits (req 0 0 0 0x100FE0 1) .cpu ∧ (filled work).findWindow 0x100FE0 = some 0
      ∧ 16 ≤ (filled work).tracker.length ∧ 16 ≤ (filled work).pwq.length
      ∧ ((filled work).hitLine ⟨0, 1⟩ 0xFE0 1).isNone = true := by
  simp only [State.admits, State.serving]; decide +kernel

theorem witness_WritesAreTaken_full_for_print :
    (filled (print .admitted)).admits (req 0 2 0 0x100000 8) .print ∧ (filled (print .admitted)).findWindow 0x100000 = some 0
      ∧ ((filled (print .admitted)).window 0).kind = .print ∧ ((filled (print .admitted)).window 0).modes.of .print = .read
      ∧ 16 ≤ (filled (print .admitted)).tracker.length ∧ ((filled (print .admitted)).hitLine ⟨0, 1⟩ 0 8).isNone = true
      ∧ (filled (print .admitted)).findPlane 0 0 256 = some (page .admitted, ⟨3, 0, some (.genuine 5 65536), 0, 0⟩) := by
  simp only [State.admits, State.serving]; decide +kernel

theorem witness_WriteInvalidatesLines :
    let s : State := { cached with
      lines := cached.lines.set 0 (some ⟨⟨0, 1⟩, 1, 3, 0, 8, 0, 7, .valid 0 500 1 false [1, 2, 3, 4, 5, 6, 7, 8]⟩) }
    s.serving ∧ leads (.write (req 1 0 0 0x1000E0 1) (wbeats 1 1)) s (fun t =>
      t.emitted.contains (.response 0 0 .okay) && (t.line 0).any Line.discarding) = true := by
  simp only [State.serving]; decide +kernel

/-- A SCAN window of two slots of 4 KiB. -/
def scanning : State := withWin { win .scan .opened with sizeCode := 1, stride := 4096, slotCount := 2 }

theorem witness_ScanSlotIsCounted :
    scanning.admits (req 1 1 0 0x101FE0 1) .scan ∧ scanning.findWindow 0x101FE0 = some 0 ∧ (scanning.window 0).state = .opened
      ∧ (scanning.window 0).kind = .scan ∧ 256 ≤ (scanning.window 0).stride ∧ 1 < (scanning.window 0).slotCount
      ∧ (scanning.window 0).modes.of .scan = .cipher ∧ scanning.chunkLocked 0x201FE0 32 = false ∧ scanning.pwq.length < 16
      ∧ ((wbeats 1 1).toList.take 1)[(0x1FE0 - 0x1FE0) / 32]? = some (wbeat 1 1) ∧ (wbeat 1 1).mask ≠ 0
      ∧ (scanning.window 0).counted.getLsbD 1 = false := by
  simp only [State.admits, State.serving]; decide +kernel

theorem witness_FlushesGoTheirWay :
    State.reset.serving ∧ State.reset.pwq = [] ∧ queued.serving ∧ (req 2 0 9 0 0).kind ≠ 3
      ∧ sourceOf (req 2 0 9 0 0).source = some .cpu ∧ (.cpu, (req 2 0 9 0 0).tid) ∉ queued.tids ∧ queued.pwq ≠ []
      ∧ queued.flushes.length < 4 ∧ 4 ≤ (List.replicate 4 (⟨1, .cpu, 2, 1, false⟩ : Flush)).length
      ∧ ([⟨1, .cpu, 2, 0, true⟩] : List Flush).find? (fun x => x.id == 1) = some ⟨1, .cpu, 2, 0, true⟩ := by
  simp only [State.serving]; decide +kernel

/-- A channel in the middle of an erase, asking for its next chunk. -/
def eraser : Channel := { state := .running, job := some (job (.erase [.ones])), pass := 1, offset := 256, step := .ready }

theorem witness_GrantsFollowPrecedence_choice :
    (let s := channel queued eraser;
      let due : State := { s with mem := { s.mem with share := 15 } };
      (due.scrub.chans[0].asks = true ∧ due.settings.scrubShare - 1 ≤ due.mem.share)
      ∧ (due.chan 0).asks = true ∧ ¬ s.settings.scrubShare - 1 ≤ s.mem.share)
    ∧ ({ queued with pwq := [{ entry with rmw := true }] } : State).rmwWaits = true
    ∧ ((reading (tracked (.issued none))).rmwWaits = false ∧ (reading (tracked (.issued none))).oldestDemand = some 3)
    ∧ (queued.rmwWaits = false ∧ queued.oldestDemand = none ∧ queued.drainWaits = true)
    ∧ (let s : State := { State.reset with lines := State.reset.lines.set 7 (some ⟨⟨0, 1⟩, 1, 3, 0, 8, 0, 7, .filling none⟩) }
      s.rmwWaits = false ∧ s.oldestDemand = none ∧ s.drainWaits = false ∧ s.firstPrefetch = some 7)
    ∧ (State.reset.rmwWaits = false ∧ State.reset.oldestDemand = none ∧ State.reset.drainWaits = false
      ∧ State.reset.firstPrefetch = none) := by decide +kernel

theorem witness_GrantsFollowPrecedence_grant :
    (let s := reading (tracked (.issued none));
      s.powered = true ∧ s.memTid 0 = .free ∧ (∀ u < (0 : MemTid), s.memTid u ≠ .free)
        ∧ s.chooseGrant = some (.demand 3) ∧ s.tracker.find? (fun x => x.age == 3) = some (tracked (.issued none)))
    ∧ (queued.chooseGrant = some .drain ∧ queued.pwq = entry :: [])
    ∧ (let s := channel (withWin (win .work (.retiring .erasing))) eraser
      s.chooseGrant = some (.scrub 0) ∧ (s.chan 0).job = some (job (.erase [.ones]))
        ∧ [Pattern.ones].getD ((s.chan 0).pass - 1) .zero = .ones)
    ∧ State.reset.chooseGrant = none := by decide +kernel

/-- A posted write with a partial unit, which needs its read-modify-write read. -/
def partialEntry : PwqEntry :=
  { entry with
    window := some ⟨0, 1⟩, offset := 0xFC0, memAddr := 0x200FC0, length := 2, access := .encrypt, key := some 0
    beats := [⟨1, BitVec.allOnes 32⟩, ⟨2, 1⟩], rmw := true, units := [0xFE0] }

/-- A line that waits for its prefetch. -/
def waitingLine : Line := ⟨⟨0, 1⟩, 1, 3, 0, 8, 0, 7, .filling none⟩

theorem witness_GrantsFollowPrecedence_scrub :
    (let both := (channel (withWin (win .work (.retiring .erasing))) eraser).setChan 1 eraser;
      both.scrub.chans[0].asks = true ∧ both.scrub.chans[1].asks = true ∧ both.mem.lastScrub ≠ some 0
        ∧ ({ both with mem := { both.mem with lastScrub := some 0 } } : State).chooseGrant = some (.scrub 1)
        ∧ both.rmwWaits = false ∧ both.oldestDemand = none ∧ both.drainWaits = false ∧ both.firstPrefetch = none)
    ∧ (let s := channel (withWin (win .work (.retiring .erasing))) { eraser with job := some (job (.erase [.random])) };
      s.chooseGrant = some (.scrub 0) ∧ (s.chan 0).job = some (job (.erase [.random]))
        ∧ [Pattern.random].getD ((s.chan 0).pass - 1) .zero = .random)
    ∧ (locked.chooseGrant = some (.scrub 0) ∧ (locked.chan 0).job = some (job .rekey) ∧ (locked.chan 0).buffer = none)
    ∧ (let s := channel work { state := .running, job := some (job .rekey), step := .ready, lock := some 0, buffer := some [1, 2] };
      s.chooseGrant = some (.scrub 0) ∧ (s.chan 0).buffer = some [1, 2]) := by decide +kernel

theorem witness_GrantsFollowPrecedence_rmw_and_prefetch :
    (let s : State := { work with pwq := [partialEntry] };
      s.powered = true ∧ s.memTid 0 = .free ∧ s.chooseGrant = some .rmwRead ∧ s.pwq = partialEntry :: []
        ∧ partialEntry.units.head? = some 0xFE0 ∧ partialEntry.units.getLast? = some 0xFE0
        ∧ leads .memoryGrant s (fun t => t.emitted == [.memRequest 0 .read .cpu 7 0x200FE0 (addrParityOf 0x200FE0) 1 []]) = true)
    ∧ (let s : State := { work with lines := work.lines.set 7 (some waitingLine) };
      s.chooseGrant = some (.prefetch 7) ∧ s.line 7 = some waitingLine) := by decide +kernel

/-- A demand read granted under memory tid 0. -/
def granted : State := outstanding (reading (tracked (.issued (some 0)))) .read (.demand 3)

theorem witness_DemandReadsEnd :
    granted.powered = true ∧ granted.memTid 0 = .outstanding ⟨.read, .demand 3, .cpu, 7, 0x300000, 2, 2000⟩
      ∧ granted.tracker.find? (fun x => x.age == 3) = some (tracked (.issued (some 0)))
      ∧ (∀ b ∈ (mbeats 5).toList.take 2, dataParityOf b.data = b.parity)
      ∧ (∃ b ∈ (Vector.replicate 8 (⟨5, 0⟩ : MemBeat)).toList.take 2, dataParityOf b.data ≠ b.parity)
      ∧ State.reset.memTid 31 = .free ∧ (State.reset.setMemTid 31 (.quarantined 8000)).memTid 31 = .quarantined 8000 := by
  decide +kernel

theorem witness_DemandReadsEnd_prefetch :
    (let s := outstanding { work with lines := work.lines.set 7 (some { waitingLine with state := .filling (some 0) }) }
        .read (.prefetch 7);
      s.powered = true ∧ s.memTid 0 = .outstanding ⟨.read, .prefetch 7, .cpu, 7, 0x300000, 2, 2000⟩
        ∧ (s.line 7).isSome = true ∧ ¬ ∃ b ∈ (mbeats 5).toList.take 2, dataParityOf b.data ≠ b.parity)
    ∧ (outstanding State.reset .read .discarded).memTid 0 = .outstanding ⟨.read, .discarded, .cpu, 7, 0x300000, 2, 2000⟩
    ∧ (let s := outstanding (channel work { eraser with state := .suspended }) .write (.scrub 0);
      s.memTid 0 = .outstanding ⟨.write, .scrub 0, .cpu, 7, 0x300000, 2, 2000⟩ ∧ (s.chan 0).state ≠ .running) := by
  decide +kernel

theorem witness_HeadLeavesQueue :
    let s := outstanding queued .write (.drain 0)
    s.powered = true ∧ s.memTid 0 = .outstanding ⟨.write, .drain entry.id, .cpu, 7, 0x300000, 2, 2000⟩ ∧ s.pwq = entry :: []
      ∧ ([] : List PwqEntry).head?.all (fun h => !h.allClear) = true := by decide +kernel

theorem witness_HeadLeavesQueue_rmw :
    let e := { partialEntry with state := .rmwRead }
    let s := outstanding { work with pwq := [e] } .read (.rmwRead e.id)
    s.powered = true ∧ s.memTid 0 = .outstanding ⟨.read, .rmwRead e.id, .cpu, 7, 0x300000, 2, 2000⟩ ∧ s.pwq = e :: []
      ∧ e.units.head? = some 0xFE0 ∧ (∀ b ∈ (mbeats 5).toList.take 2, dataParityOf b.data = b.parity)
      ∧ (∃ b ∈ (Vector.replicate 8 (⟨5, 0⟩ : MemBeat)).toList.take 2, dataParityOf b.data ≠ b.parity)
      ∧ leads (.memoryResponse 0 false (mbeats 5)) s (fun t => t.pwq.map (fun x => (x.state, x.units)) == [(.merged, [])]) = true := by
  decide +kernel

theorem witness_ReadsGoOn :
    ((reading (tracked (.held []))).tracker.find? (fun x => x.age == 3) = some (tracked (.held [])))
    ∧ (reading (tracked (.delivering [1, 2]))).tracker.find? (fun x => x.age == 3) = some (tracked (.delivering [1, 2]))
    ∧ (tracked (.delivering [1, 2])).ref = none
    ∧ cached.line 0 = some ⟨⟨0, 1⟩, 1, 3, 0, 8, 0, 7, .valid 0 500 0 false [1, 2, 3, 4, 5, 6, 7, 8]⟩ := by decide +kernel

/-- A hit of the first chunk's line, two beats of it. -/
def hit (ref : Option PlaneRef) (sent : Nat) : Hit :=
  { age := 3, source := .print, tid := 4, jobTag := 7, offset := 0, window := ⟨0, 1⟩, ref := ref, line := 0, beats := [1, 2]
    sent := sent, ownsTid := true }

/-- A state with a hit under way on a line, marked for discard or not. -/
def hitting (s : State) (h : Hit) (discard : Bool) : State :=
  { s with
    hits := [h], tids := [(.print, 4)], seq := 4
    lines := s.lines.set 0 (some ⟨⟨0, 1⟩, 1, 3, 0, 8, 0, 7, .valid 0 500 1 discard [1, 2, 3, 4, 5, 6, 7, 8]⟩) }

theorem witness_ReadsGoOn_hit :
    (let s := hitting work (hit none 0) false;
      s.tracker.find? (fun x => x.age == 3) = none ∧ s.hits.find? (fun x => x.age == 3) = some (hit none 0)
        ∧ (hit none 0).sent + 1 < (hit none 0).beats.length)
    ∧ (let s := hitting work (hit none 1) true;
      s.hits.find? (fun x => x.age == 3) = some (hit none 1) ∧ (hit none 1).beats.length ≤ (hit none 1).sent + 1
        ∧ s.line (hit none 1).line = some ⟨⟨0, 1⟩, 1, 3, 0, 8, 0, 7, .valid 0 500 1 true [1, 2, 3, 4, 5, 6, 7, 8]⟩) := by
  decide +kernel

/-- A PRINT read of the live page, being delivered. -/
def printed (offset : Nat) (beats : List Beat) : TrackerEntry :=
  { tracked (.delivering beats) with
    source := .print, access := .decrypt, window := some ⟨0, 1⟩, offset := offset, ref := some ⟨1, 3⟩, length := beats.length }

/-- The live page being printed, with all but its last beat counted. -/
def lastBeat : State :=
  let s := print .printing
  { s with
    pages := s.pages.set 0 (some { page .printing with planes := [⟨3, 0, some (.genuine 5 65536), 224, 0⟩] })
    tracker := [printed 224 [3]] }

theorem witness_PrintedBeatIsCounted :
    let s : State := { print .printing with tracker := [printed 0 [1, 2]] }
    s.powered = true ∧ s.tracker.find? (fun x => x.age == 3) = some (printed 0 [1, 2]) ∧ (printed 0 [1, 2]).ref = some ⟨1, 3⟩
      ∧ (printed 0 [1, 2]).sent + 1 < [1, 2].length ∧ s.findPage 1 = some 0 ∧ s.page 0 = some (page .printing)
      ∧ (∃ pl ∈ [(⟨3, 0, some (.genuine 5 65536), 32, 1⟩ : Plane)], pl.mark ≠ (page .printing).planeSize) := by decide +kernel

/-- A page of two chunks, the first read whole but for its last beat, with a read-ahead of 2. -/
def longPage : Page := { page .printing with lines := 2, planes := [⟨3, 0, some (.genuine 5 65536), 224, 0⟩] }

/-- The last beat of the first chunk of the page of two chunks. -/
def ahead : State :=
  let s := print .printing
  { s with
    pages := s.pages.set 0 (some longPage)
    settings := { s.settings with readAhead := 2 }
    tracker := [printed 224 [3]]
    tids := [(.print, 4)]
    seq := 4 }

/-- A VALID line of another chunk with a fill order. -/
def otherLine (filled : Nat) : Option Line := some ⟨⟨1, 1⟩, 9, 0, 0, 8, filled, 7, .valid filled 500 0 false []⟩

theorem witness_ReadsGoOn_prefetch :
    ahead.powered = true ∧ ahead.tracker.find? (fun x => x.age == 3) = some (printed 224 [3])
      ∧ (printed 224 [3]).ref = some ⟨1, 3⟩ ∧ (printed 224 [3]).window = some ⟨0, 1⟩
      ∧ [(3 : Beat)].length ≤ (printed 224 [3]).sent + 1 ∧ ahead.findPage 1 = some 0 ∧ ahead.page 0 = some longPage
      ∧ longPage.state = .printing
      ∧ longPage.planes.find? (fun x => x.colour == 3) = some ⟨3, 0, some (.genuine 5 65536), 224, 0⟩
      ∧ (∃ x ∈ (longPage.printedBeat 3 224 3).planes, x.mark ≠ longPage.planeSize)
      ∧ 0 < ahead.settings.readAhead ∧ 256 < 0 + longPage.planeSize ∧ (∀ k, ahead.line k = none)
      ∧ ahead.chunkLocked ((ahead.window 0).memAt 256).toNat 256 = false
      ∧ ahead.overlapping ((ahead.window 0).memAt 256).toNat 256 = []
      ∧ ({ ahead with settings := { ahead.settings with readAhead := 0 } } : State).settings.readAhead = 0 := by decide +kernel

theorem witness_ReadsGoOn_prefetch_replaces :
    let s : State := { ahead with lines := Vector.ofFn (fun k : Fin 8 => otherLine (10 - k.val)) }
    (∀ j, s.line j ≠ none) ∧ s.line 7 = otherLine 3
      ∧ (∀ j, j ≠ 7 → (s.line j).all (fun l => decide (3 < l.order)) = true)
      ∧ (∀ j, (s.line j).all (fun l => l.window != ⟨0, 1⟩) = true)
      ∧ leads (.beatDelivery 3) s (fun t => t.line 7 == some ⟨⟨0, 1⟩, 1, 3, 256, 8, 4, 7, .filling none⟩) = true := by
  decide +kernel

theorem witness_PrintedBeatIsCounted_first :
    let s : State := { print .admitted with tracker := [printed 0 [1, 2]] }
    s.powered = true ∧ s.tracker.find? (fun x => x.age == 3) = some (printed 0 [1, 2]) ∧ s.findPage 1 = some 0
      ∧ s.page 0 = some (page .admitted) ∧ (printed 0 [1, 2]).sent = 0 ∧ s.power ≠ .entering
      ∧ (∃ pl ∈ ((page .admitted).printedBeat 3 0 1).planes, pl.mark ≠ (page .admitted).planeSize)
      ∧ leads (.beatDelivery 3) s (fun t => (t.page 0).any (fun p => p.state == .printing)) = true := by decide +kernel

theorem witness_PrintedBeatIsCounted_hit :
    let s := hitting (print .admitted) (hit (some ⟨1, 3⟩) 0) false
    s.powered = true ∧ s.tracker.find? (fun x => x.age == 3) = none
      ∧ s.hits.find? (fun x => x.age == 3) = some (hit (some ⟨1, 3⟩) 0) ∧ s.findPage 1 = some 0
      ∧ s.page 0 = some (page .admitted) ∧ (hit (some ⟨1, 3⟩) 0).sent = 0 ∧ s.power ≠ .entering
      ∧ (hit (some ⟨1, 3⟩) 0).sent + 1 < (hit (some ⟨1, 3⟩) 0).beats.length
      ∧ (∃ pl ∈ ((page .admitted).printedBeat 3 0 1).planes, pl.mark ≠ (page .admitted).planeSize) := by decide +kernel

/-- The live page on its single plane but for the last 32 bytes, in a state. -/
def nearlyDone (st : PageState) : Page := { page st with planes := [⟨3, 0, some (.genuine 5 65536), 224, 0⟩] }

theorem witness_LastBeatCompletesPage :
    lastBeat.powered = true ∧ lastBeat.tracker.find? (fun x => x.age == 3) = some (printed 224 [3])
      ∧ lastBeat.findPage 1 = some 0 ∧ lastBeat.page 0 = some (nearlyDone .printing)
      ∧ (∀ j, j ≠ 0 → (lastBeat.page j).all (fun q => q.number != 1) = true)
      ∧ (∀ pl ∈ ((nearlyDone .printing).printedBeat 3 224 3).planes, pl.mark = (nearlyDone .printing).planeSize) := by
  decide +kernel

theorem witness_LastBeatCompletesPage_first :
    let s : State := { lastBeat with pages := lastBeat.pages.set 0 (some (nearlyDone .admitted)) }
    s.page 0 = some (nearlyDone .admitted) ∧ (printed 224 [3]).sent = 0 ∧ s.power ≠ .entering
      ∧ (∀ pl ∈ ((nearlyDone .admitted).printedBeat 3 224 3).planes, pl.mark = (nearlyDone .admitted).planeSize)
      ∧ leads (.beatDelivery 3) s (fun t => t.page 0 == none && (t.account 0).used == 1) = true := by decide +kernel

theorem witness_LastBeatCompletesPage_hit :
    let h := { hit (some ⟨1, 3⟩) 1 with offset := 192 }
    let s := hitting { lastBeat with tracker := [] } h false
    s.powered = true ∧ s.tracker.find? (fun x => x.age == 3) = none ∧ s.hits.find? (fun x => x.age == 3) = some h
      ∧ s.findPage 1 = some 0 ∧ s.page 0 = some (nearlyDone .printing)
      ∧ (∀ pl ∈ ((nearlyDone .printing).printedBeat 3 (192 + 32 * 1) 2).planes, pl.mark = (nearlyDone .printing).planeSize)
      ∧ leads (.beatDelivery 3) s (fun t => t.page 0 == none && t.hits.isEmpty) = true := by decide +kernel

/-- A page of one plane that has counted dots, on a slot in a state with a gauge, about to end. -/
def drawing (x : SlotState) (b : DrawBasis) (g : Gauge) : State :=
  let s := print .printing
  { s with
    pages := s.pages.set 0 (some { page .printing with planes := [⟨3, 0, some b, 224, 65536⟩] })
    slots := s.slots.set 3 ⟨x, .present, none, none⟩
    gauges := s.gauges.set 3 g }

theorem witness_PagesAreCancelled_draws :
    (let s := drawing (.genuine record) (.genuine 5 65536) ⟨899900, 100, 900000, 3, none, none⟩;
      s.page 0 = some { page .printing with planes := [⟨3, 0, some (.genuine 5 65536), 224, 65536⟩] }
        ∧ 0 < (⟨3, 0, some (.genuine 5 65536), 224, 65536⟩ : Plane).draw
        ∧ (s.slot 3).state = .genuine record ∧ record.serial = 5 ∧ (s.slot 3).message = none ∧ s.power ≠ .sleep
        ∧ s.roomForDraws (page .printing)
        ∧ leads (.pageCancel (whole 4) 1) s (fun t => (t.gauge 3).pending == 65636) = true)
    ∧ (let s := drawing (.genuine { record with serial := 6 }) (.genuine 5 65536) ⟨899900, 100, 900000, 3, none, none⟩;
      ∀ r, (s.slot 3).state = .genuine r → r.serial ≠ 5)
    ∧ (let s := drawing (.foreign record) (.foreign 65536) { remaining := 70000 };
      (s.slot 3).state = .foreign record
        ∧ leads (.pageCancel (whole 4) 1) s (fun t => (t.gauge 3).remaining == 4464 && t.notices.length == 3) = true) := by
  simp only [State.roomForDraws]
  refine ⟨by decide +kernel, ?_, by decide +kernel⟩
  intro r h
  rw [(by decide +kernel : ((drawing (.genuine { record with serial := 6 }) (.genuine 5 65536)
    ⟨899900, 100, 900000, 3, none, none⟩).slot 3).state = .genuine { record with serial := 6 })] at h
  cases h
  decide

/-! ### Windows -/

/-- The arguments of a WINDOW_OPEN of kind WORK. -/
def openArgs : WindowOpenArgs := ⟨2, 0x100000, 0x200000, 0, 0, ⟨3, 0, 0, 0, 0, 0⟩, 0, 0⟩

theorem witness_WindowsOpen :
    State.reset.ready ∧ wholeFrame (whole 24) 24 ∧ kindOf openArgs.kind = some .work ∧ openArgs.sizeCode.toNat = (0 : Fin 20).val
      ∧ openArgs.sysBase.toNat = (0x100000 : Addr).toNat ∧ openArgs.memBase.toNat = (0x200000 : Addr).toNat
      ∧ modesOf openArgs.modes = some ⟨.readWrite, .noAccess, .noAccess, .noAccess, .noAccess, .noAccess⟩
      ∧ (0x100000 : Addr).toNat % sizeOfCode 0 = 0 ∧ openArgs.stride = 0 ∧ (State.reset.window 0).state = .free
      ∧ (State.reset.window 15).state = .free
      ∧ ({ openArgs with sysBase := 0x1000000000 } : WindowOpenArgs).sysBase.toNat ≥ 2 ^ 36
      ∧ (work.checkWindow openArgs).isSome = true
      ∧ (∃ j, (work.window j).state = .free) ∧ (∃ j, (work.window j).state ≠ .free
        ∧ overlaps 0x100000 (sizeOfCode 0) (work.window j).sysBase.toNat (work.window j).size = true) := by
  simp only [State.ready, State.judges, wholeFrame]; decide +kernel

theorem witness_WindowsOpen_scan :
    let a : WindowOpenArgs := { openArgs with kind := 0, sizeCode := 1, stride := 4096 }
    kindOf a.kind = some .scan ∧ a.stride.toNat ≠ 0 ∧ a.stride.toNat % 4096 = 0 ∧ a.stride.toNat ≤ sizeOfCode 1
      ∧ a.scanAccount.toNat = (0 : Fin 128).val ∧ (State.reset.account 0).state ≠ .unused := by decide +kernel

theorem witness_WindowsOpen_stride_above_size :
    let a : WindowOpenArgs := { openArgs with kind := 0, sizeCode := 0, stride := 8192 }
    a.stride ≠ 0 ∧ a.stride.toNat % 4096 = 0 ∧ 4096 * 2 ^ a.sizeCode.toNat < a.stride.toNat
      ∧ 4096 * 2 ^ a.sizeCode.toNat = ({ a with stride := 4096 } : WindowOpenArgs).stride.toNat := by decide +kernel

theorem witness_WindowsOpen_full :
    ∀ j, (({ State.reset with windows := Vector.replicate 16 (win .work .opened) } : State).window j).state ≠ .free := by
  decide +kernel

theorem witness_WindowsChange :
    work.ready ∧ wholeFrame (whole 8) 8 ∧ wholeFrame (whole 1) 1 ∧ (15 : Byte).toNat = (15 : WindowIdx).val
      ∧ (modesOf ⟨3, 0, 0, 0, 0, 0⟩).isSome = true ∧ modesOf ⟨0, 0, 0, 0, 0, 4⟩ = none ∧ (work.window 0).state = .opened ∧ (work.window 15).state = .free
      ∧ ((withWin (win .work (.retiring .erasing))).window 0).retiring = true ∧ work.hasRekey 0 = false
      ∧ work.spareKey 0 = none ∧ work.keys.spares[(0 : Fin 2)] = .free
      ∧ ({ work with keys := { work.keys with spares := work.keys.spares.set 1 (.holding 0 9) } } : State).spareKey 0 ≠ none
      ∧ locked.hasRekey 0 = true := by
  simp only [State.ready, State.judges, wholeFrame]; decide +kernel

theorem witness_WindowsRetire :
    work.ready ∧ wholeFrame (whole 5) 5 ∧ passesOf 0 0 0 0 = some [] ∧ passesOf 3 0 1 2 = some [.zero, .ones, .random]
      ∧ (work.window 0).state = .opened ∧ work.hasRekey 0 = false ∧ work.tracker.all (fun e => !e.heldFor ⟨0, 1⟩) = true
      ∧ (∀ k, (work.line k).all (fun l => l.window != ⟨0, 1⟩) = true) ∧ work.drained ⟨0, 1⟩ = true
      ∧ ({ work with pwq := [{ entry with window := some ⟨0, 1⟩ }] } : State).drained ⟨0, 1⟩ = false
      ∧ ((print .waiting).window 0).kind = .print ∧ 0 < ((print .waiting).window 0).livePages ∧ locked.rekeyRunning 0 = true
      ∧ ((withWin (win .work (.retiring .draining))).window 0).state = .retiring .draining
      ∧ (withWin (win .work (.retiring .draining))).resetRec.progress = none := by
  simp only [State.ready, State.judges, wholeFrame]; decide +kernel

/-- A held read of the open WORK window. -/
def heldRead (age : Nat) (tid : Tid) : TrackerEntry :=
  { tracked (.held [0]) with age := age, tid := tid, window := some ⟨0, 1⟩, memAddr := 0x200000, sysAddr := 0x100000 }

/-- The open WORK window with two held reads, a line being delivered and one that is not, and a suspended re-key. -/
def retirable : State :=
  let s := hitting work (hit none 0) false
  channel
    { s with
      pwq := [{ entry with window := some ⟨0, 1⟩ }], tracker := [heldRead 3 4, heldRead 5 6]
      tids := [(.cpu, 4), (.cpu, 6)]
      lines := s.lines.set 1 (some ⟨⟨0, 1⟩, 1, 3, 256, 8, 1, 7, .valid 1 500 0 false []⟩)
      keys := { s.keys with spares := s.keys.spares.set 1 (.reserved 0) } }
    { state := .suspended, job := some (job .rekey) }

theorem witness_WindowsRetire_work :
    retirable.ready ∧ (retirable.window 0).state = .opened ∧ (retirable.window 0).kind ≠ .print
      ∧ retirable.rekeyRunning 0 = false ∧ retirable.hasRekey 0 = true
      ∧ (∃ e ∈ retirable.pwq, e.window = some ⟨0, 1⟩) ∧ (∃ e ∈ retirable.tracker, e.heldFor ⟨0, 1⟩ = true)
      ∧ (retirable.chan 0).job = some (job .rekey) ∧ (retirable.chan 1).job = none
      ∧ retirable.keys.spares[(1 : Fin 2)] = .reserved 0
      ∧ (∀ e ∈ ({ retirable with pwq := [] } : State).tracker, e.heldFor ⟨0, 1⟩ = true)
      ∧ leads (.windowRetire (whole 5) 0 0 0 0 0) retirable (fun t =>
        t.tracker.isEmpty && t.tids.isEmpty && t.chan 0 == {} && t.line 1 == none && (t.line 0).any Line.discarding
          && t.path.capture.any (fun c => c.tid == some 4)) = true := by
  simp only [State.ready, State.judges]; decide +kernel

/-! ### Pages, accounts, commits -/

/-- The arguments of a PAGE_OPEN of one plane in window 0. -/
def pageArgs : PageOpenArgs := ⟨0, 0, 1, 0, 0, 0, 0x400, 256, 1⟩

/-- What the arguments name. -/
def opened (offset : Nat) : OpenPage := ⟨0, 0, [(3, offset)], 256, 1⟩

theorem witness_PagesOpen :
    let s := print .waiting
    s.ready ∧ wholeFrame (whole 23) 23 ∧ s.opens pageArgs (opened 0x400) ∧ s.page 1 = none
      ∧ (∀ j < (1 : Fin 16), s.page j ≠ none) ∧ s.pins.pfail = false ∧ (s.account 0).state = .active
      ∧ (s.checkOpen pageArgs).all (fun o => !s.openOverlaps o && o.account == 0) = true
      ∧ ({ pageArgs with lines := 0 } : PageOpenArgs).lines = 0
      ∧ (s.checkOpen pageArgs).all (fun o => (s.newPage o).reservation == 4) = true := by
  simp only [State.ready, State.judges, wholeFrame, State.opens]; decide +kernel

theorem witness_PagesOpen_bad_arguments :
    let s := print .waiting
    (16 ≤ ({ pageArgs with window := 16 } : PageOpenArgs).window.toNat)
      ∧ (s.window 1).kind ≠ .print ∧ (s.window 0).kind = .print
      ∧ ((withWin (win .print (.retiring .draining))).window 0).state ≠ .opened
      ∧ ((withWin (win .print (.retiring .draining))).window 0).state ≠ .sealed
      ∧ ({ pageArgs with offsetK := 0x480 } : PageOpenArgs).offsetK.toNat % 256 ≠ 0
      ∧ (s.window 0).size < ({ pageArgs with offsetK := 0x1000 } : PageOpenArgs).offsetK.toNat + 256
      ∧ (s.window 0).size = ({ pageArgs with offsetK := 0xF00 } : PageOpenArgs).offsetK.toNat + 256
      ∧ ¬ [(0 : BitVec 32), 0x100, 0x100, 0x300].Pairwise (fun x y => overlaps x.toNat 256 y.toNat 256 = false) := by
  decide +kernel

theorem witness_PagesOpen_refusals :
    let s := print .waiting
    s.opens { pageArgs with offsetK := 0 } (opened 0) ∧ s.page 0 = some (page .waiting)
      ∧ (∃ pl ∈ (page .waiting).planes, ∃ x ∈ (opened 0).planes, overlaps x.2 256 pl.offset (page .waiting).planeSize = true)
      ∧ s.openOverlaps (opened 0x400) = false ∧ (s.setPfail true).pins.pfail = true ∧ (s.setPfail true).powered = true
      ∧ (∀ j, ({ s with pages := Vector.replicate 16 (some (page .waiting)) } : State).page j ≠ none)
      ∧ 0 < 4 ∧ 7 < (s.account 0).used + (s.account 0).reserved + 4 := by
  simp only [State.opens]; decide +kernel

theorem witness_PagesAreCancelled :
    (print .waiting).ready ∧ wholeFrame (whole 4) 4
      ∧ (∀ i, ((print .waiting).page i).all (fun p => p.number != 7) = true) ∧ (print .admitted).findPage 1 = some 0
      ∧ (print .admitted).page 0 = some (page .admitted) ∧ (page .admitted).state ≠ .printing
      ∧ (print .printing).page 0 = some (page .printing) ∧ (print .printing).findPage 1 = some 0 := by
  simp only [State.ready, State.judges, wholeFrame]; decide +kernel

theorem witness_RejudgementAdmitsByToner :
    (print .waiting).page 0 = some (page .waiting) ∧ (page .waiting).state ≠ .printing ∧ (print .waiting).power = .run := by
  decide +kernel

theorem witness_ExcessIsClamped :
    (∀ x ∈ (page .printing).coverages, x.2 ≤ 10000) ∧ (page .printing).coverageSum ≤ 30000
      ∧ (page .printing).planes.length = 1
      ∧ ({ page .printing with planes := [⟨3, 0, none, 256, 3072⟩] } : Page).coverageSum = 10000 := by decide +kernel

theorem witness_ChargeArithmetic :
    (page .printing).reservation = reservationOf (page .printing).baseMono (page .printing).baseColor
      ∧ (print .printing).page 0 = some (page .printing) := by decide +kernel

theorem witness_coverageLaw : lastBeat.coverageLaw := by
  intro i p h pl hpl
  have all : ∀ i, (lastBeat.page i).all (fun p => p.planes.all (fun pl =>
      decide (pl.mark ≤ p.planeSize ∧ pl.dots ≤ 12 * pl.mark))) = true := by decide +kernel
  have := all i
  rw [h] at this
  exact of_decide_eq_true (List.all_eq_true.mp this pl hpl)

/-- Every account slot in use. -/
def crowded : State := { State.reset with accounts := Vector.replicate 128 { state := .active, limit := some 10, used := 4 } }

theorem witness_AccountCommandsSetSlots :
    State.reset.ready ∧ wholeFrame (whole 8) 8 ∧ wholeFrame (whole 5) 5 ∧ wholeFrame (whole 1) 1
      ∧ 2147483648 ≤ (0x80000000 : BitVec 32).toNat ∧ (0x80000000 : BitVec 32).toNat ≠ 4294967295
      ∧ (0xFFFFFFFF : BitVec 32).toNat = 4294967295 ∧ (State.reset.account 1).state = .unused
      ∧ (∀ x < (1 : Fin 128), (State.reset.account x).state ≠ .unused) ∧ (∀ a, (crowded.account a).state ≠ .unused)
      ∧ (127 : Byte).toNat = (127 : Fin 128).val ∧ limitOf 3 = some (some 3)
      ∧ 3 < (crowded.account 127).used + (crowded.account 127).reserved
      ∧ (crowded.account 127).used + (crowded.account 127).reserved ≤ 4
      ∧ (scanning.window 0).state ≠ .free ∧ (scanning.window 0).kind = .scan := by
  simp only [State.ready, State.judges, wholeFrame]; decide +kernel

/-- A commit in flight from a blank store, with a further cause remembered. -/
def committing : State :=
  let s := State.reset.startCommit 1
  { s with commit := { s.commit with remembered := some 4 } }

theorem witness_CommitsCopyAndEnd :
    State.reset.ready ∧ wholeFrame (whole 0) 0 ∧ State.reset.commit.inFlight = none ∧ committing.ready
      ∧ committing.commit.inFlight.isSome = true ∧ committing.commit.remembered = some 4
      ∧ (State.reset.startCommit 1).commit.inFlight.isSome = true ∧ (State.reset.startCommit 1).commit.remembered = none
      ∧ State.reset.pins.pfail = false ∧ (State.reset.setPfail true).pins.pfail = true := by
  simp only [State.ready, State.judges, wholeFrame]; decide +kernel

theorem witness_MeterNeverFalls :
    Instr.beatDelivery 3 ≠ .powerOn ∧ lastBeat.meter.bounded
      ∧ leads (.beatDelivery 3) lastBeat (fun t => t.meter.monoSmall == 1) = true := by
  refine ⟨by decide, ?_, by decide +kernel⟩
  simp only [Counters.bounded]; decide +kernel

theorem witness_QueriesChangeNothing :
    let s := { print .waiting with resetRec := ⟨.command, some ⟨true, false⟩⟩ }
    s.judges ∧ wholeFrame (whole 1) 1 ∧ wholeFrame (whole 4) 4 ∧ wholeFrame (whole 0) 0 ∧ (1 : BitVec 32) ≠ 0
      ∧ s.findPage 1 = some 0 ∧ s.page 0 = some (page .waiting) ∧ (3 : Byte).toNat = (3 : Colour).val := by
  simp only [State.judges, wholeFrame]; decide +kernel

/-! ### Cartridges -/

theorem witness_PresenceMovesSlots :
    (State.reset.powered = true ∧ (State.reset.slot 3).presence = .notPresent ∧ State.blank.powered = false)
    ∧ (let s : State := { State.reset with
        pins := { State.reset.pins with lines := State.reset.pins.lines.set 3 true }
        slots := State.reset.slots.set 3 { presence := .settling } }
      (s.slot 3).presence = .settling ∧ s.pins.lines[(3 : Colour)] = true ∧ (s.slot 3).state = .absent ∧ s.power ≠ .sleep)
    ∧ (owing.powered = true ∧ (owing.slot 0).presence = .present ∧ (owing.slot 0).state = .genuine record
      ∧ owing.carry.length < 8) := by decide +kernel

theorem witness_CarryListKeepsItsLaw :
    let s : State := { State.reset with carry := [⟨1, 1⟩, ⟨2, 4294967295⟩] }
    (s.carry.map CarryEntry.serial).Nodup ∧ s.carry.length ≤ 8 ∧ (∀ e ∈ s.carry, 1 ≤ e.amount ∧ e.amount ≤ 4294967295)
      ∧ s.carry.any (fun e => e.serial == 2) = true := by decide +kernel

theorem witness_AttemptsGoOn :
    ((cart .probing (some ⟨.hello false, 1, .sending⟩)).slot 0).message = some ⟨.hello false, 1, .sending⟩
      ∧ ((cart (.genuine record) (some ⟨.hello true, 2, .awaiting⟩)).slot 0).message = some ⟨.hello true, 2, .awaiting⟩
      ∧ ((cart .probing (some ⟨.hello false, 3, .awaiting⟩)).slot 0).message = some ⟨.hello false, 3, .awaiting⟩
      ∧ ((cart .probing (some ⟨.hello false, 3, .sending⟩)).slot 0).state = .probing
      ∧ ((cart .probing (some ⟨.hello false, 2, .gap⟩)).slot 0).message = some ⟨.hello false, 2, .gap⟩
      ∧ ((cart (.proving record) (some ⟨.prove none, 1, .gap⟩)).slot 0).message = some ⟨.prove none, 1, .gap⟩ := by
  decide +kernel

theorem witness_AttemptsGoOn_exhausted :
    ((cart (.proving record) (some ⟨.prove (some 7), 3, .sending⟩)).slot 0).message = some ⟨.prove (some 7), 3, .sending⟩
      ∧ ((cart (.genuine record) (some ⟨.hello true, 3, .awaiting⟩)).slot 0).message = some ⟨.hello true, 3, .awaiting⟩
      ∧ ((cart (.genuine record) (some ⟨.debit 100 4 0, 3, .sending⟩)).slot 0).state = .genuine record
      ∧ (0 < (owing.gauge 0).pending ∧ owing.carry.any (fun e => e.serial == record.serial) = false ∧ owing.carry.length < 8) := by
  decide +kernel

/-- A slot that waits for the reply to a DEBIT of 100 units. -/
def debiting : State :=
  let s := cart (.genuine record) (some ⟨.debit 100 4 0, 1, .awaiting⟩)
  { s with gauges := s.gauges.set 0 ⟨899900, 100, 900000, 3, some ⟨100, 4, 0⟩, none⟩ }

theorem witness_AttemptsGoOn_bad_frame :
    (let s := cart .probing (some ⟨.hello false, 1, .awaiting⟩);
      s.powered = true ∧ (s.slot 0).message = some ⟨.hello false, 1, .awaiting⟩
        ∧ delimitFrame [0, 0x81, 9] = some [0, 0x81] ∧ goodPayload 0x81 25 [0, 0x81] = none)
    ∧ ((debiting.slot 0).state = .genuine record ∧ (debiting.gauge 0).posting ≠ none
      ∧ delimitFrame (cartFrame 0x83 (2 :: leBytes 16 0)) = some (cartFrame 0x83 (2 :: leBytes 16 0))
      ∧ goodPayload 0x83 17 (cartFrame 0x83 (2 :: leBytes 16 0)) = some (2 :: leBytes 16 0)
      ∧ 2 ≤ (debitReplyOf (2 :: leBytes 16 0)).status.toNat)
    ∧ ([0x81] : List Byte).length ≤ (25 : Byte).toNat := by decide +kernel

/-- The payload of a HELLO reply of the record, with a colour byte and a factor. -/
def helloPayload (colour : Byte) (factor : Nat) : List Byte :=
  leBytes 8 5 ++ leBytes 2 1 ++ [colour] ++ leBytes 4 1000000 ++ leBytes 2 factor ++ leBytes 4 900000 ++ leBytes 4 3

theorem witness_RepliesAreJudged_hello :
    let s := cart .probing (some ⟨.hello false, 1, .awaiting⟩)
    s.powered = true ∧ (s.slot 0).state = .probing ∧ (s.slot 0).message = some ⟨.hello false, 1, .awaiting⟩
      ∧ goodPayload 0x81 25 (cartFrame 0x81 (helloPayload 0 65535)) = some (helloPayload 0 65535)
      ∧ recordOf (helloPayload 0 65535) = record
      ∧ (recordOf (helloPayload 1 65535)).colour.toNat ≠ (0 : Colour).val ∧ (recordOf (helloPayload 0 0)).factor = 0
      ∧ s.nv.root.provisioned = false ∧ s.settings.policy = .strict := by decide +kernel

theorem witness_RepliesAreJudged_prove :
    let s := cart (.proving record) (some ⟨.prove (some 77), 1, .awaiting⟩)
    (s.slot 0).state = .proving record ∧ (s.slot 0).message = some ⟨.prove (some 77), 1, .awaiting⟩
      ∧ goodPayload 0x82 8 (cartFrame 0x82 (leBytes 8 0)) = some (leBytes 8 0) := by decide +kernel

theorem witness_RepliesAreJudged_debit :
    let s : State := { cart (.genuine record) (some ⟨.debit 100 4 0, 1, .awaiting⟩) with
      gauges := State.reset.gauges.set 0 ⟨899900, 100, 900000, 3, some ⟨100, 4, 0⟩, none⟩ }
    let ps := [0] ++ leBytes 4 899900 ++ leBytes 4 4 ++ leBytes 8 0
    (s.slot 0).state = .genuine record ∧ (s.slot 0).message = some ⟨.debit 100 4 0, 1, .awaiting⟩
      ∧ (s.gauge 0).posting = some ⟨100, 4, 0⟩ ∧ goodPayload 0x83 17 (cartFrame 0x83 ps) = some ps
      ∧ (debitReplyOf ps).status = 0 ∧ (debitReplyOf ps).sequence = 4 := by decide +kernel

theorem witness_RepliesAreJudged_debit_refused :
    let ps (status : Byte) (sequence : Nat) : List Byte := [status] ++ leBytes 4 899900 ++ leBytes 4 sequence ++ leBytes 8 0
    (debiting.slot 0).message = some ⟨.debit 100 4 0, 1, .awaiting⟩ ∧ (debiting.gauge 0).posting = some ⟨100, 4, 0⟩
      ∧ goodPayload 0x83 17 (cartFrame 0x83 (ps 1 4)) = some (ps 1 4) ∧ (debitReplyOf (ps 1 4)).status = 1
      ∧ goodPayload 0x83 17 (cartFrame 0x83 (ps 0 9)) = some (ps 0 9) ∧ (debitReplyOf (ps 0 9)).status = 0
      ∧ (debitReplyOf (ps 0 9)).sequence ≠ (⟨100, 4, 0⟩ : Posting).sequence
      ∧ (⟨100, 4, 1⟩ : Posting).seqErrors < 2 ∧ 2 ≤ (⟨100, 4, 2⟩ : Posting).seqErrors := by decide +kernel

theorem witness_RepliesAreJudged_resync :
    let s : State := { debiting with slots := (cart (.genuine record) (some ⟨.hello true, 1, .awaiting⟩)).slots }
    (s.slot 0).state = .genuine record ∧ (s.slot 0).message = some ⟨.hello true, 1, .awaiting⟩
      ∧ (s.gauge 0).posting = some ⟨100, 4, 0⟩
      ∧ goodPayload 0x81 25 (cartFrame 0x81 (helloPayload 0 65535)) = some (helloPayload 0 65535)
      ∧ (recordOf (helloPayload 0 65535) = record ∧ record.remaining.toNat ≤ record.rated.toNat
        ∧ record.sequence ≠ (⟨100, 4, 0⟩ : Posting).sequence ∧ record.sequence = (⟨100, 3, 0⟩ : Posting).sequence)
      ∧ (recordOf (helloPayload 1 65535)).colour ≠ record.colour
      ∧ leads (.helloReply 0 (cartFrame 0x81 (helloPayload 0 65535) ++ [9])) s
        (fun t => (t.gauge 0).posting.map (·.seqErrors) == some 0 && (t.slot 0).message.isSome) = true := by decide +kernel

/-- Some frame carries whatever tag is expected: the tag's own bytes, least significant first. -/
theorem witness_tag_of_any_value (tag : BitVec 64) : BitVec.ofNat 64 (fieldAt (leBytes 8 tag.toNat) 0 8) = tag := by
  apply BitVec.eq_of_toNat_eq
  simp only [fieldAt, leBytes, List.drop_zero, List.take, ofLe, BitVec.toNat_ofNat]
  omega

theorem witness_ReprobeRestartsIdentification :
    owing.ready ∧ wholeFrame (whole 1) 1 ∧ 4 ≤ (4 : Byte).toNat ∧ (4 : Byte) ≠ 0xFF ∧ (0 : Byte).toNat = (0 : Colour).val
      ∧ (owing.slot 3).presence ≠ .present ∧ (owing.slot 0).presence = .present ∧ (owing.slot 0).state ≠ .probing
      ∧ ((cart .probing none).slot 0).state = .probing ∧ (∀ j, (State.reset.slot j).presence ≠ .present) := by
  simp only [State.ready, State.judges, wholeFrame]; decide +kernel

/-! ### The scrub engine -/

theorem witness_ScrubJobsStart :
    (let s : State := { work with scrub := { work.scrub with queue := [job (.erase [.zero]), job .rekey] } };
      s.powered = true ∧ s.power = .run ∧ s.resetRec.progress = none
        ∧ s.scrub.queue = job (.erase [.zero]) :: [job .rekey] ∧ s.assignee 1 = some 0 ∧ s.spareKey 0 = none
        ∧ (s.chan 0).state = .idle ∧ (s.chan 1).state = .idle ∧ s.scrub.idleMark = .settled)
    ∧ (let s := channel work { state := .running, job := some (job .rekey), step := .waiting }
      (s.chan 0).step = .waiting ∧ s.quiet 0x200000 256 = true
        ∧ (∀ k, (s.line k).all (fun l => !overlaps (s.lineAddr l) 256 0x200000 256) = true)
        ∧ ({ s with pwq := [{ entry with memAddr := 0x2000E0 }] } : State).quiet 0x200000 256 = false) := by decide +kernel

theorem witness_ScrubJobsStart_lines :
    let s := channel (hitting work (hit none 0) false) { state := .running, job := some (job .rekey), step := .waiting }
    s.powered = true ∧ (s.chan 0).state = .running ∧ (s.chan 0).step = .waiting ∧ s.quiet 0x200000 256 = true
      ∧ (s.line 0).any (fun l => overlaps (s.lineAddr l) 256 0x200000 256) = true
      ∧ leads (.chunkLock 0) s (fun t => (t.line 0).any Line.discarding && (t.chan 0).step == .ready) = true := by decide +kernel

theorem witness_ScrubChannelsGoOn :
    (let s := outstanding (channel (withWin (win .work (.retiring .erasing)))
        { eraser with step := .writing, offset := 3584 }) .write (.scrub 0);
      s.memTid 0 = .outstanding ⟨.write, .scrub 0, .cpu, 7, 0x300000, 2, 2000⟩ ∧ (s.chan 0).state = .running
        ∧ (s.chan 0).step = .writing ∧ (s.chan 0).offset + 256 < (s.window 0).size)
    ∧ ¬ 3840 + 256 < (win .work .opened).size
    ∧ (let s := outstanding (channel work { state := .running, job := some (job .rekey), step := .writing, lock := some 0 })
        .write (.scrub 0)
      (s.chan 0).job = some (job .rekey) ∧ (job .rekey).kind = .rekey ∧ (s.window 0).cursor + 256 < (s.window 0).size)
    ∧ (win .work .opened).size ≤ 3840 + 256 := by decide +kernel

theorem witness_ScrubChannelsGoOn_rekey_read :
    let s := outstanding (channel work { state := .running, job := some (job .rekey), step := .reading, lock := some 0 })
      .read (.scrub 0)
    s.powered = true ∧ s.memTid 0 = .outstanding ⟨.read, .scrub 0, .cpu, 7, 0x300000, 2, 2000⟩ ∧ (s.chan 0).state = .running
      ∧ (s.chan 0).step = .reading ∧ (s.chan 0).job = some (job .rekey)
      ∧ (∀ b ∈ (mbeats 5).toList.take 2, dataParityOf b.data = b.parity)
      ∧ (∃ b ∈ (Vector.replicate 8 (⟨5, 0⟩ : MemBeat)).toList.take 2, dataParityOf b.data ≠ b.parity) := by decide +kernel

/-- Both channels IDLE, B since an abandon; A has been IDLE all along, or has become IDLE last before it. -/
def abandoned (mark : IdleMark) (power : PowerState) : State :=
  let b : Channel := { state := .suspended, job := some (job .rekey) }
  { work with
    power := power
    awaiting := if power = .waking then some (.scrubAbandon (whole 1) 1) else none
    scrub := ⟨work.scrub.chans.set 1 b, [job (.erase [.zero]), ⟨.erase [.ones], ⟨1, 1⟩⟩], mark⟩ }

/-- R178: the wake's abandon of B frees a channel beside an IDLE one, and the oldest job goes to A, whatever the operand. -/
theorem test_abandon_at_the_wakes_end_leaves_the_oldest_job_to_A :
    ((after (.wakeEnd true) (abandoned .settled .waking)).bind (after (.scrubJobAssign 1))).any
      (fun t => (t.chan 0).job == some (job (.erase [.zero])) && (t.chan 1).state == .idle) = true := by decide +kernel

/-- R178: channels that became IDLE together leave the choice. -/
theorem test_channels_idle_together_leave_the_choice :
    ((after (.scrubAbandon (whole 1) 1) (abandoned (.fresh 0) .run)).bind (after (.scrubJobAssign 1))).any
      (fun t => (t.chan 1).job == some (job (.erase [.zero])) && (t.chan 0).state == .idle) = true := by decide +kernel

theorem witness_ScrubJobsStart_together :
    (let s := (after (.scrubAbandon (whole 1) 1) (abandoned (.fresh 0) .run)).getD State.reset;
      s.powered = true ∧ s.power = .run ∧ s.resetRec.progress = none ∧ (s.chan 0).state = .idle ∧ (s.chan 1).state = .idle
        ∧ s.scrub.idleMark = .together ∧ s.scrub.queue.length = 2 ∧ s.assignee 1 = some 1) := by decide +kernel

theorem witness_ChannelCommands_abandon :
    (let s := abandoned (.fresh 0) .run;
      s.ready ∧ (s.chan 1).state = .suspended ∧ (s.chan 1).job = some (job .rekey) ∧ s.scrub.queue ≠ []
        ∧ s.scrub.idleMark = .fresh (1 - 1) ∧ (abandoned .settled .entering).ready) := by
  simp only [State.ready, State.judges]; decide +kernel

theorem witness_ChannelCommands :
    work.ready ∧ wholeFrame (whole 1) 1 ∧ (1 : Byte).toNat = (1 : ChannelId).val ∧ (work.chan 1).state = .idle ∧ work.power = .run
      ∧ ({ work with power := .entering } : State).ready
      ∧ ((channel work eraser).chan 0).job = some (job (.erase [.ones])) ∧ ((channel work eraser).chan 0).step = .ready
      ∧ ((channel work { eraser with step := .writing }).chan 0).step ≠ .ready
      ∧ ((channel work { eraser with state := .suspended }).chan 0).state = .suspended
      ∧ ((channel work { eraser with state := .failed }).chan 0).state = .failed := by
  simp only [State.ready, State.judges, wholeFrame]; decide +kernel

/-! ### Settings, the management port, power -/

theorem witness_SettingsAreWritten :
    State.reset.ready ∧ wholeFrame (whole 5) 5 ∧ 30 ≤ (30 : Byte).toNat ∧ settingOf 29 = some (.flagAttn 12)
      ∧ State.reset.settings.policy = .strict ∧ (1 : BitVec 32) ≠ 0
      ∧ (let s : State := { State.reset with commit := { since := 63 } }
        (63 : BitVec 32).toNat ≤ s.commit.since ∧ (63 : BitVec 32).toNat ≠ s.settings.commitInterval ∧ s.commit.inFlight = none) := by
  simp only [State.ready, State.judges, wholeFrame]; decide +kernel

/-- A part provisioned and locked. -/
def lockedPart : State := { State.reset with nv := { State.reset.nv with root := ⟨1, 2, true, true⟩ } }

theorem witness_StoreIsWritten :
    State.reset.ready ∧ wholeFrame (whole 0) 0 ∧ wholeFrame (whole 40) 40 ∧ State.reset.pins.pfail = false
      ∧ StoreOutcome.writeError ≠ .verified ∧ State.reset.nv.root.locked = false ∧ lockedPart.nv.root.locked = true
      ∧ lockedPart.nv.root.provisioned = true ∧ State.reset.nv.root.provisioned = false := by
  simp only [State.ready, State.judges, wholeFrame]; decide +kernel

theorem witness_LockIsPermanent :
    lockedPart.nv.root.locked = true ∧ leads (.provision (whole 40) 9 9 .verified) lockedPart (fun _ => true) = true := by
  decide +kernel

theorem witness_ManagementAnswers :
    State.reset.judges ∧ wholeFrame (whole 0) 0 ∧ State.reset.notices = ⟨.reset .powerOn, 0⟩ :: []
      ∧ ({ State.reset with notices := [] } : State).notices = [] ∧ (0x77 : Byte) ≠ 0
      ∧ commandLength (0x77 : Byte).toNat = none ∧ (whole 1).announced ≠ 0
      ∧ ({ State.reset with resetRec := ⟨.linkReset, some ⟨false, false⟩⟩ } : State).resetRec.progress ≠ none := by
  simp only [State.judges, wholeFrame]; decide +kernel

theorem witness_ManagementAnswers_short_frames :
    (⟨0, 1, false⟩ : Frame).early = false ∧ (⟨0, 1, false⟩ : Frame).bytes < 2
      ∧ ((⟨1, 2, false⟩ : Frame).announced = 1 ∧ (⟨1, 2, false⟩ : Frame).bytes = 2) ∧ 2 ≤ (whole 1).bytes
      ∧ (leads (.unknownCommand ⟨0, 7, false⟩ 0) { State.reset with held := some ⟨0x39, .ok, .empty⟩ } (fun t => t.held == none))
        = true := by decide +kernel

theorem witness_SleepAndWake :
    State.reset.ready ∧ State.reset.power = .run ∧ (∃ c, ((channel work eraser).chan c).state = .running)
      ∧ 0 < (owing.gauge 0).pending ∧ (owing.slot 0).state = .genuine record ∧ State.reset.commit.inFlight = none
      ∧ ((print .admitted).page 0).all (fun p => p.state != .waiting) = true
      ∧ ({ State.reset with power := .entering } : State).readyToSleep = true
      ∧ ({ queued with power := .entering } : State).readyToSleep = false
      ∧ ({ State.reset with power := .sleep } : State).awaiting = none
      ∧ ({ State.reset with power := .waking, awaiting := some (.ident (whole 0)) } : State).wakeReset = false := by
  simp only [State.ready, State.judges]; decide +kernel

/-- A part in its wake, with a slot present, a LINKRST seen or not, and a command waiting. -/
def waking (reset : Bool) (waits : Option Instr) : State :=
  { State.reset with power := .waking, wakeReset := reset, awaiting := waits }

theorem witness_SleepAndWake_wake :
    (let s := { owing with power := .waking };
      s.powered = true ∧ s.awaiting = none ∧ s.wakeReset = false ∧ (s.slot 0).presence = .present
        ∧ (s.slot 0).state = .genuine record ∧ (s.slot 1).presence ≠ .present)
    ∧ (({ State.reset with power := .sleep } : State).pins.linkrst = false ∧ (waking false none).resetRec.progress = none)
    ∧ (let s := waking true (some (.noticeRead (whole 0)));
      s.wakeReset = true ∧ s.awaiting = some (.noticeRead (whole 0)) ∧ (∀ k, (s.slot k).presence ≠ .present)
        ∧ (∀ i, s.page i = none)
        ∧ pushNotice s.notices (.reset .linkReset) = ⟨.reset .powerOn, 0⟩ :: [⟨.reset .linkReset, 0⟩]
        ∧ leads (.wakeEnd true) s (fun t => t.held == some ⟨0x70, .ok, .notice 1 ⟨.reset .powerOn, 0⟩⟩) = true
        ∧ leads (.wakeEnd false) s (fun t => t.held == some ⟨0x70, .ok, .notice 0 ⟨.reset .powerOn, 0⟩⟩
          && t.notices.map (·.notice) == [.reset .linkReset]) = true) := by decide +kernel

theorem witness_SleepAndWake_aborted :
    let s : State := { print .waiting with power := .entering, tracker := [printed 0 [1, 2]] }
    s.powered = true ∧ s.tracker.find? (fun x => x.age == 3) = some (printed 0 [1, 2]) ∧ (printed 0 [1, 2]).sent = 0
      ∧ s.findPage 1 = some 0 ∧ s.page 0 = some (page .waiting)
      ∧ (∃ pl ∈ ((page .waiting).printedBeat 3 0 1).planes, pl.mark ≠ (page .waiting).planeSize)
      ∧ leads (.beatDelivery 3) s (fun t => t.power == .run
        && t.notices.map (·.notice) == [.reset .powerOn, .sleepAborted .printing]) = true := by decide +kernel

theorem witness_SleepAndWake_proved :
    let s := { cart (.proving record) (some ⟨.prove (some 77), 1, .awaiting⟩) with power := .entering }
    s.powered = true ∧ (s.slot 0).state = .proving record
      ∧ goodPayload 0x82 8 (cartFrame 0x82 (leBytes 8 0)) = some (leBytes 8 0) ∧ carryAmount s.carry record.serial = 0
      ∧ 0 < carryAmount ({ s with carry := [⟨5, 10⟩] } : State).carry record.serial := by decide +kernel

theorem witness_ResetsBeginAndComplete :
    queued.ready ∧ queued.power = .run ∧ (∀ i, queued.page i = none) ∧ queued.pins.linkrst = false ∧ queued.pwq ≠ []
      ∧ (let s : State := { State.reset with resetRec := ⟨.linkReset, some ⟨false, true⟩⟩ }
        s.resetRec.progress = some ⟨false, true⟩ ∧ s.pwq = [] ∧ s.commit.inFlight = none) := by
  simp only [State.ready, State.judges]; decide +kernel

theorem witness_ResetsBeginAndComplete_pages :
    ((print .printing).ready ∧ (print .printing).page 0 = some (page .printing)
      ∧ (∀ j, j ≠ 0 → (print .printing).page j = none))
    ∧ ((print .waiting).page 0 = some (page .waiting) ∧ (print .waiting).power = .run)
    ∧ ({ State.reset with power := .entering } : State).ready
    ∧ leads (.reset (whole 0)) (print .printing) (fun t => t.page 0 == none && t.meter.cancelled == 1
        && t.notices.length == 2) = true := by
  simp only [State.ready, State.judges]; decide +kernel

theorem witness_ResetsBeginAndComplete_command :
    let s : State := { owing with
      resetRec := ⟨.command, some ⟨true, true⟩⟩
      settings := { owing.settings with policy := .permissive, commitInterval := 500 }
      commit := { owing.commit with since := 70 } }
    s.powered = true ∧ s.resetRec.progress = some ⟨true, true⟩ ∧ s.pins.linkrst = false ∧ s.nv.stored = none
      ∧ ({} : Settings).policy ≠ s.settings.policy ∧ (s.slot 0).presence = .present ∧ (s.slot 1).presence ≠ .present
      ∧ ({} : Settings).commitInterval ≠ s.settings.commitInterval ∧ ({} : Settings).commitInterval ≤ s.commit.since
      ∧ s.commit.inFlight = none ∧ (s.startCommit 1).commit.inFlight ≠ none
      ∧ ({ State.reset with resetRec := ⟨.command, some ⟨true, true⟩⟩ } : State).settings.policy = ({} : Settings).policy
      ∧ leads .resetComplete s (fun t => t.commit.inFlight.any (fun j => j.causes == 2) && t.commit.remembered == some 16
        && (t.slot 0).state == .probing) = true := by decide +kernel

theorem witness_PowerSetsUpAndKeeps :
    State.reset.pins.linkrst = false ∧ State.reset.nv.newest = none
      ∧ (leads (.commitEnd true) (State.reset.startCommit 1) (fun t => t.nv.newest.isSome)) = true := by decide +kernel

theorem witness_FramesDecodeToCommands :
    encodeFrame (.configWrite (whole 0) 14 320) = some [0x61, 5, 14, 0x40, 1, 0, 0] := by decide +kernel

theorem witness_NoticesOverflowAndAttn :
    let older := List.replicate 31 (⟨.sleepEntered, 0⟩ : QueuedNotice)
    let s : State := { committing with
      notices := older ++ [⟨.sleepEntered, 65535⟩], commit := { committing.commit with remembered := none } }
    s.powered = true ∧ s.commit.inFlight.isSome = true ∧ older.length = 31 ∧ ([] : List QueuedNotice).length < 32
      ∧ leads (.commitEnd true) s (fun t => t.notices == older ++ [⟨.sleepEntered, 65535⟩]) = true
      ∧ State.reset.attn = (State.reset.settings.noticeAttn && !State.reset.notices.isEmpty) := by decide +kernel

/-! ### States that keep the laws and step on -/

theorem witness_StepKeepsWindowsApart :
    twoWindows.windowsApart ∧ leads (.windowSeal (whole 1) 0) twoWindows (fun t => (t.window 0).state == .sealed) = true := by
  refine ⟨witness_OneWindowMatches.1, by decide +kernel⟩

theorem witness_StepKeepsGaugeLaw :
    owing.gaugeLaw ∧ leads (.presenceDeassert 0) owing (fun t => t.gauge 0 == {}) = true := by
  refine ⟨fun k => ?_, by decide +kernel⟩
  match k with
  | 0 => exact ⟨by decide +kernel, by decide +kernel⟩
  | 1 => exact (by decide +kernel : owing.gauge 1 = { lowSerial := (owing.gauge 1).lowSerial })
  | 2 => exact (by decide +kernel : owing.gauge 2 = { lowSerial := (owing.gauge 2).lowSerial })
  | 3 => exact (by decide +kernel : owing.gauge 3 = { lowSerial := (owing.gauge 3).lowSerial })

/-- The limit law of an account, by evaluation. -/
theorem withinLimit_of_all (l : Option Nat) (n : Nat) (h : l.all (fun x => decide (n ≤ x)) = true) : withinLimit l n := by
  cases l with
  | none => trivial
  | some x => simpa [withinLimit] using h

theorem witness_StepKeepsAccountLaw :
    (print .printing).accountLaw ∧ leads (.pageCancel (whole 4) 1) (print .printing)
      (fun t => (t.account 0).reserved == 0 && (t.account 0).used == 1) = true := by
  refine ⟨⟨?_, by decide +kernel, ?_, ?_, trivial, trivial, ?_⟩, by decide +kernel⟩
  · have h : ∀ a, (((print .printing).account a).limit.all (fun x =>
        decide (((print .printing).account a).used + ((print .printing).account a).reserved ≤ x))) = true := by decide +kernel
    exact fun a => withinLimit_of_all _ _ (h a)
  · have h : ∀ i, ((print .printing).page i).all (fun p => decide (p.reservation = reservationOf p.baseMono p.baseColor)) = true := by
      decide +kernel
    intro i p e
    have := h i
    rw [e] at this
    exact of_decide_eq_true this
  · have h : ∀ i, ((print .printing).page i).all (fun p => decide (((print .printing).account p.account).state ≠ .unused)) = true := by
      decide +kernel
    intro i p e
    have := h i
    rw [e] at this
    exact of_decide_eq_true this
  · intro j h
    rw [(by decide +kernel : (print .printing).commit.inFlight = none)] at h
    cases h

theorem witness_StepKeepsMeterLaw :
    committing.meterLaw ∧ leads (.commitEnd true) committing (fun t => t.nv.bankA != .blank) = true := by
  have banks : ∀ k x, committing.nv.bank k = .holds x → False := by
    intro k x h
    cases k with
    | a => rw [(by decide +kernel : committing.nv.bank .a = .badCheck)] at h; cases h
    | b => rw [(by decide +kernel : committing.nv.bank .b = .blank)] at h; cases h
  have copy : committing.commit.inFlight.all (fun j => decide (committing.nv.bank j.bank = .badCheck
      ∧ j.snapshot.number = committing.nv.nextNumber ∧ j.snapshot.meter = {} ∧ committing.meter = {})) = true := by
    decide +kernel
  have job : ∀ j, committing.commit.inFlight = some j → committing.nv.bank j.bank = .badCheck
      ∧ j.snapshot.number = committing.nv.nextNumber ∧ j.snapshot.meter = {} ∧ committing.meter = {} := by
    intro j h
    rw [h] at copy
    exact of_decide_eq_true copy
  refine ⟨⟨?_, fun k x h => (banks k x h).elim, fun x y h => (banks .a x h).elim, fun _ k x h => (banks k x h).elim,
    fun j h => ⟨(job j h).1, (job j h).2.1⟩, fun j h => ?_, fun j _ k x h => (banks k x h).elim⟩, by decide +kernel⟩
  · simp only [Counters.bounded]; decide +kernel
  · rw [(job j h).2.2.1, (job j h).2.2.2]
    simp only [Counters.bounded, Counters.le]; decide

/-- Every setting of a set lies in its range, by evaluation. -/
theorem defaults_inRange : ({} : Settings).inRange := by
  intro n
  cases n with
  | flagAttn b => revert b; decide +kernel
  | _ => decide +kernel

theorem witness_StepKeepsRangesAndRoom : queued.settingsLaw ∧ full.roomLaw := by
  refine ⟨⟨defaults_inRange, ?_⟩, ⟨by decide +kernel, by decide +kernel, by decide +kernel, by decide +kernel⟩⟩
  intro c h
  rw [(by decide +kernel : queued.nv.stored = none)] at h
  cases h

end Sys2Proof.Tests
end

section
/-! SUPPORT. Windows and keys: what each operation keeps of the pins, the path error record and the root store, what each
command may change, and the proofs of the statements on windows, keys, queries and the root store. -/

namespace Sys2Proof.Machine.WindowsAndKeys

open Sys2Proof Sys2Proof.Machine

/-! ## The pins, the path error record and the root store -/

@[simp] theorem setBank_root (nv : NvStore) (k : BankId) (x : Bank) : (nv.setBank k x).root = nv.root := by
  cases k <;> rfl

@[simp] theorem raiseError_pins (s : State) (c : Capture) :
    (s.raiseError c).pins = s.pins := by
  unfold State.raiseError; (repeat' split) <;> simp

@[simp] theorem dropRequest_pins_path (s : State) (t : MemTid) :
    (s.dropRequest t).pins = s.pins ∧ (s.dropRequest t).path = s.path := by
  unfold State.dropRequest; (repeat' split) <;> simp

@[simp] theorem invalidateLine_pins_path (s : State) (i : Fin 8) :
    (s.invalidateLine i).pins = s.pins ∧ (s.invalidateLine i).path = s.path := by
  unfold State.invalidateLine; (repeat' split) <;> simp

@[simp] theorem invalidateLines_pins_path (s : State) (p : Line → Bool) :
    (s.invalidateLines p).pins = s.pins ∧ (s.invalidateLines p).path = s.path := by
  unfold State.invalidateLines
  exact ⟨State.foldl_frame (·.pins) _ (fun s x => by (repeat' split) <;> simp) _ s,
    State.foldl_frame (·.path) _ (fun s x => by (repeat' split) <;> simp) _ s⟩

@[simp] theorem freeWindow_pins_path (s : State) (i : WindowIdx) (b : Bool) :
    (s.freeWindow i b).pins = s.pins ∧ (s.freeWindow i b).path = s.path := by
  unfold State.freeWindow; simp

@[simp] theorem rejudge_pins_path (s : State) :
    (s.rejudge).pins = s.pins ∧ (s.rejudge).path = s.path := by
  unfold State.rejudge; simp

@[simp] theorem abortEntry_pins_path (s : State) (c : AbortCause) :
    (s.abortEntry c).pins = s.pins ∧ (s.abortEntry c).path = s.path := by
  unfold State.abortEntry; (repeat' split) <;> simp

@[simp] theorem carryAdd_pins_path (s : State) (x : Serial) (n : Nat) :
    (s.carryAdd x n).pins = s.pins ∧ (s.carryAdd x n).path = s.path := by
  unfold State.carryAdd; (repeat' split) <;> simp

@[simp] theorem lowMarkCheck_pins_path (s : State) (k : Colour) :
    (s.lowMarkCheck k).pins = s.pins ∧ (s.lowMarkCheck k).path = s.path := by
  unfold State.lowMarkCheck; (repeat' split) <;> simp

@[simp] theorem noteDepletion_pins_path (s : State) (k : Colour) (r : Reason) :
    (s.noteDepletion k r).pins = s.pins ∧ (s.noteDepletion k r).path = s.path := by
  unfold State.noteDepletion; simp

@[simp] theorem setRemaining_pins_path (s : State) (k : Colour) (n : Nat) :
    (s.setRemaining k n).pins = s.pins ∧ (s.setRemaining k n).path = s.path := by
  unfold State.setRemaining; dsimp only; (repeat' split) <;> simp

@[simp] theorem sendDebit_pins_path (s : State) (k : Colour) (r : Record) (n : Nat) :
    (s.sendDebit k r n).pins = s.pins ∧ (s.sendDebit k r n).path = s.path := by
  unfold State.sendDebit; simp

@[simp] theorem postIfDue_pins_path (s : State) (k : Colour) :
    (s.postIfDue k).pins = s.pins ∧ (s.postIfDue k).path = s.path := by
  unfold State.postIfDue; (repeat' split) <;> simp

@[simp] theorem departGauge_pins_path (s : State) (k : Colour) :
    (s.departGauge k).pins = s.pins ∧ (s.departGauge k).path = s.path := by
  unfold State.departGauge; (repeat' split) <;> simp

@[simp] theorem enterGauge_pins_path (s : State) (k : Colour) (x : SlotState) :
    (s.enterGauge k x).pins = s.pins ∧ (s.enterGauge k x).path = s.path := by
  unfold State.enterGauge; dsimp only; (repeat' split) <;> simp

@[simp] theorem changeSlot_pins_path (s : State) (k : Colour) (x : SlotState) (r : Reason) (m : Option Message) :
    (s.changeSlot k x r m).pins = s.pins ∧ (s.changeSlot k x r m).path = s.path := by
  unfold State.changeSlot; simp

@[simp] theorem takeDraw_pins_path (s : State) (k : Colour) (b : Option DrawBasis) (n : Nat) :
    (s.takeDraw k b n).pins = s.pins ∧ (s.takeDraw k b n).path = s.path := by
  unfold State.takeDraw; dsimp only; (repeat' split) <;> simp

@[simp] theorem takeDraws_pins_path (s : State) (l : List Plane) :
    (s.takeDraws l).pins = s.pins ∧ (s.takeDraws l).path = s.path := by
  unfold State.takeDraws
  exact ⟨State.foldl_frame (·.pins) _ (fun s x => by simp) _ s,
    State.foldl_frame (·.path) _ (fun s x => by simp) _ s⟩

@[simp] theorem startCommit_pins_path_root (s : State) (c : BitVec 5) :
    (s.startCommit c).pins = s.pins ∧ (s.startCommit c).path = s.path ∧ (s.startCommit c).nv.root = s.nv.root := by
  unfold State.startCommit; simp

@[simp] theorem triggerCommit_pins_path_root (s : State) (c : Cause) :
    (s.triggerCommit c).pins = s.pins ∧ (s.triggerCommit c).path = s.path
      ∧ (s.triggerCommit c).nv.root = s.nv.root := by
  unfold State.triggerCommit; (repeat' split) <;> simp

@[simp] theorem raiseSince_pins_path_root (s : State) :
    (s.raiseSince).pins = s.pins ∧ (s.raiseSince).path = s.path ∧ (s.raiseSince).nv.root = s.nv.root := by
  unfold State.raiseSince; dsimp only; (repeat' split) <;> simp

@[simp] theorem startRemembered_pins_path_root (s : State) :
    (s.startRemembered).pins = s.pins ∧ (s.startRemembered).path = s.path
      ∧ (s.startRemembered).nv.root = s.nv.root := by
  unfold State.startRemembered; (repeat' split) <;> simp

@[simp] theorem commitDone_pins_path_root (s : State) :
    (s.commitDone).pins = s.pins ∧ (s.commitDone).path = s.path ∧ (s.commitDone).nv.root = s.nv.root := by
  unfold State.commitDone; (repeat' split) <;> simp

@[simp] theorem commitFailed_pins_path_root (s : State) :
    (s.commitFailed).pins = s.pins ∧ (s.commitFailed).path = s.path ∧ (s.commitFailed).nv.root = s.nv.root := by
  unfold State.commitFailed; (repeat' split) <;> simp

@[simp] theorem sendNotReady_pins_path (s : State) (f : Frame) :
    (s.sendNotReady f).pins = s.pins ∧ (s.sendNotReady f).path = s.path := by
  unfold State.sendNotReady; simp

@[simp] theorem sendHeld_pins_path (s : State) (f : Frame) :
    (s.sendHeld f).pins = s.pins ∧ (s.sendHeld f).path = s.path := by
  unfold State.sendHeld; simp

@[simp] theorem raiseLive_pins_path (s : State) (i : WindowIdx) :
    (s.raiseLive i).pins = s.pins ∧ (s.raiseLive i).path = s.path := by
  unfold State.raiseLive; simp

@[simp] theorem lowerLive_pins_path (s : State) (i : WindowIdx) :
    (s.lowerLive i).pins = s.pins ∧ (s.lowerLive i).path = s.path := by
  unfold State.lowerLive; simp

@[simp] theorem endCharged_pins_path_root (s : State) (i : Fin 16) (p : Page) (c : Option CancelCause) :
    (s.endCharged i p c).pins = s.pins ∧ (s.endCharged i p c).path = s.path
      ∧ (s.endCharged i p c).nv.root = s.nv.root := by
  unfold State.endCharged; (repeat' split) <;> simp

@[simp] theorem endUncharged_pins_path (s : State) (i : Fin 16) (p : Page) (c : CancelCause) :
    (s.endUncharged i p c).pins = s.pins ∧ (s.endUncharged i p c).path = s.path := by
  unfold State.endUncharged; simp

@[simp] theorem cancelPage_pins_path_root (s : State) (c : CancelCause) (i : Fin 16) :
    (s.cancelPage c i).pins = s.pins ∧ (s.cancelPage c i).path = s.path ∧ (s.cancelPage c i).nv.root = s.nv.root := by
  unfold State.cancelPage; (repeat' split) <;> simp

@[simp] theorem cancelAll_pins_path_root (s : State) :
    (s.cancelAll).pins = s.pins ∧ (s.cancelAll).path = s.path ∧ (s.cancelAll).nv.root = s.nv.root := by
  unfold State.cancelAll
  exact ⟨State.foldl_frame (·.pins) _ (fun s x => by simp) _ s,
    State.foldl_frame (·.path) _ (fun s x => by simp) _ s,
    State.foldl_frame (·.nv.root) _ (fun s x => by simp) _ s⟩

@[simp] theorem countBeat_pins_path_root (s : State) (r : Option PlaneRef) (n : Nat) (b : Bool) (x : Beat) :
    (s.countBeat r n b x).pins = s.pins ∧ (s.countBeat r n b x).path = s.path
      ∧ (s.countBeat r n b x).nv.root = s.nv.root := by
  unfold State.countBeat; dsimp only; (repeat' split) <;> simp

@[simp] theorem setMessage_pins_path (s : State) (k : Colour) (m : Option Message) :
    (s.setMessage k m).pins = s.pins ∧ (s.setMessage k m).path = s.path := by
  unfold State.setMessage; simp

@[simp] theorem failAttempt_pins_path (s : State) (k : Colour) :
    (s.failAttempt k).pins = s.pins ∧ (s.failAttempt k).path = s.path := by
  unfold State.failAttempt; (repeat' split) <;> simp

@[simp] theorem drawn_pins_path (s : State) :
    (s.drawn).pins = s.pins ∧ (s.drawn).path = s.path := by
  unfold State.drawn; simp

@[simp] theorem nextAttempt_pins_path (s : State) (k : Colour) (m : Message) :
    (s.nextAttempt k m).pins = s.pins ∧ (s.nextAttempt k m).path = s.path := by
  unfold State.nextAttempt; (repeat' split) <;> simp

@[simp] theorem reprobeSlot_pins_path (s : State) (k : Colour) (r : Reason) :
    (s.reprobeSlot k r).pins = s.pins ∧ (s.reprobeSlot k r).path = s.path := by
  unfold State.reprobeSlot; (repeat' split) <;> simp

@[simp] theorem reprobeAll_pins_path (s : State) (r : Reason) :
    (s.reprobeAll r).pins = s.pins ∧ (s.reprobeAll r).path = s.path := by
  unfold State.reprobeAll
  exact ⟨State.foldl_frame (·.pins) _ (fun s x => by simp) _ s,
    State.foldl_frame (·.path) _ (fun s x => by simp) _ s⟩

@[simp] theorem judgeHello_pins_path (s : State) (k : Colour) (r : Record) :
    (s.judgeHello k r).pins = s.pins ∧ (s.judgeHello k r).path = s.path := by
  unfold State.judgeHello; (repeat' split) <;> simp

@[simp] theorem abortIfOwed_pins_path (s : State) (k : Colour) :
    (s.abortIfOwed k).pins = s.pins ∧ (s.abortIfOwed k).path = s.path := by
  unfold State.abortIfOwed; (repeat' split) <;> simp

@[simp] theorem judgeProve_pins_path (s : State) (k : Colour) (r : Record) (n : BitVec 128) (t : BitVec 64) :
    (s.judgeProve k r n t).pins = s.pins ∧ (s.judgeProve k r n t).path = s.path := by
  unfold State.judgeProve; (repeat' split) <;> simp

@[simp] theorem recompute_pins_path (s : State) (k : Colour) :
    (s.recompute k).pins = s.pins ∧ (s.recompute k).path = s.path := by
  unfold State.recompute; simp

@[simp] theorem ackDebit_pins_path (s : State) (k : Colour) (p : Posting) (r : DebitReply) :
    (s.ackDebit k p r).pins = s.pins ∧ (s.ackDebit k p r).path = s.path := by
  unfold State.ackDebit; simp

@[simp] theorem seqError_pins_path (s : State) (k : Colour) (r : Record) (p : Posting) :
    (s.seqError k r p).pins = s.pins ∧ (s.seqError k r p).path = s.path := by
  unfold State.seqError; (repeat' split) <;> simp

@[simp] theorem judgeDebit_pins_path (s : State) (k : Colour) (r : Record) (p : Posting) (x : DebitReply) :
    (s.judgeDebit k r p x).pins = s.pins ∧ (s.judgeDebit k r p x).path = s.path := by
  unfold State.judgeDebit; (repeat' split) <;> simp

@[simp] theorem judgeResync_pins_path (s : State) (k : Colour) (r : Record) (p : Posting) (x : Record) :
    (s.judgeResync k r p x).pins = s.pins ∧ (s.judgeResync k r p x).path = s.path := by
  unfold State.judgeResync; dsimp only; (repeat' split) <;> simp

@[simp] theorem judgeReply_pins_path (s : State) (k : Colour) (l : List Byte) :
    (s.judgeReply k l).pins = s.pins ∧ (s.judgeReply k l).path = s.path := by
  unfold State.judgeReply; dsimp only; (repeat' split) <;> simp

@[simp] theorem takeReply_pins_path (s : State) (k : Colour) (l : List Byte) :
    (s.takeReply k l).pins = s.pins ∧ (s.takeReply k l).path = s.path := by
  unfold State.takeReply; split <;> simp

@[simp] theorem setPresence_pins_path (s : State) (k : Colour) (p : Presence) :
    (s.setPresence k p).pins = s.pins ∧ (s.setPresence k p).path = s.path := by
  unfold State.setPresence; simp

@[simp] theorem setPresenceLine_path (s : State) (k : Colour) (b : Bool) :
    (s.setPresenceLine k b).path = s.path := by
  unfold State.setPresenceLine; simp

@[simp] theorem lineRises_pins_path (s : State) (k : Colour) :
    (s.lineRises k).pins = s.pins ∧ (s.lineRises k).path = s.path := by
  unfold State.lineRises; (repeat' split) <;> simp

@[simp] theorem lineDrops_pins_path (s : State) (k : Colour) :
    (s.lineDrops k).pins = s.pins ∧ (s.lineDrops k).path = s.path := by
  unfold State.lineDrops; dsimp only; (repeat' split) <;> simp

@[simp] theorem settled_pins_path (s : State) (k : Colour) :
    (s.settled k).pins = s.pins ∧ (s.settled k).path = s.path := by
  unfold State.settled; dsimp only; (repeat' split) <;> simp

@[simp] theorem idleChannel_pins_path (s : State) (c : ChannelId) :
    (s.idleChannel c).pins = s.pins ∧ (s.idleChannel c).path = s.path := by
  unfold State.idleChannel; simp

@[simp] theorem joinQueue_pins_path (s : State) (j : Job) :
    (s.joinQueue j).pins = s.pins ∧ (s.joinQueue j).path = s.path := by
  unfold State.joinQueue; simp

@[simp] theorem endDrain_pins_path (s : State) (i : WindowIdx) :
    (s.endDrain i).pins = s.pins ∧ (s.endDrain i).path = s.path := by
  unfold State.endDrain; dsimp only; (repeat' split) <;> simp

@[simp] theorem endDrainIfDone_pins_path (s : State) (i : WindowIdx) :
    (s.endDrainIfDone i).pins = s.pins ∧ (s.endDrainIfDone i).path = s.path := by
  unfold State.endDrainIfDone; (repeat' split) <;> simp

@[simp] theorem drawKey_pins_path (s : State) (i : WindowIdx) :
    (s.drawKey i).pins = s.pins ∧ (s.drawKey i).path = s.path := by
  unfold State.drawKey; simp

@[simp] theorem denyHeld_pins (s : State) (e : TrackerEntry) :
    (s.denyHeld e).pins = s.pins := by
  unfold State.denyHeld; simp

@[simp] theorem denyHeldReads_pins (s : State) (w : WindowRef) :
    (s.denyHeldReads w).pins = s.pins := by
  unfold State.denyHeldReads
  exact State.foldl_frame (·.pins) _ (fun s x => by simp) _ s

@[simp] theorem endRekey_pins_path (s : State) (i : WindowIdx) :
    (s.endRekey i).pins = s.pins ∧ (s.endRekey i).path = s.path := by
  unfold State.endRekey; dsimp only; (repeat' split) <;> simp

@[simp] theorem retire_pins (s : State) (i : WindowIdx) (l : List Pattern) :
    (s.retire i l).pins = s.pins := by
  unfold State.retire; simp

@[simp] theorem reserveSpare_pins_path (s : State) (k : Fin 2) (i : WindowIdx) :
    (s.reserveSpare k i).pins = s.pins ∧ (s.reserveSpare k i).path = s.path := by
  unfold State.reserveSpare; simp

@[simp] theorem settleSpare_pins_path (s : State) (i : WindowIdx) :
    (s.settleSpare i).pins = s.pins ∧ (s.settleSpare i).path = s.path := by
  unfold State.settleSpare; (repeat' split) <;> simp

@[simp] theorem assignJob_pins_path (s : State) (c : ChannelId) (j : Job) :
    (s.assignJob c j).pins = s.pins ∧ (s.assignJob c j).path = s.path := by
  unfold State.assignJob; (repeat' split) <;> simp

@[simp] theorem assignOldest_pins_path (s : State) (c : ChannelId) :
    (s.assignOldest c).pins = s.pins ∧ (s.assignOldest c).path = s.path := by
  unfold State.assignOldest; (repeat' split) <;> simp

@[simp] theorem lockChunk_pins_path (s : State) (c : ChannelId) :
    (s.lockChunk c).pins = s.pins ∧ (s.lockChunk c).path = s.path := by
  unfold State.lockChunk; dsimp only; (repeat' split) <;> simp

@[simp] theorem moveKey_pins_path (s : State) (i : WindowIdx) :
    (s.moveKey i).pins = s.pins ∧ (s.moveKey i).path = s.path := by
  unfold State.moveKey; simp

@[simp] theorem endRekeyJob_pins_path (s : State) (c : ChannelId) (i : WindowIdx) :
    (s.endRekeyJob c i).pins = s.pins ∧ (s.endRekeyJob c i).path = s.path := by
  unfold State.endRekeyJob; simp

@[simp] theorem eraseWritten_pins_path (s : State) (c : ChannelId) (i : WindowIdx) (l : List Pattern) :
    (s.eraseWritten c i l).pins = s.pins ∧ (s.eraseWritten c i l).path = s.path := by
  unfold State.eraseWritten; dsimp only; (repeat' split) <;> simp

@[simp] theorem rekeyWritten_pins_path (s : State) (c : ChannelId) (i : WindowIdx) :
    (s.rekeyWritten c i).pins = s.pins ∧ (s.rekeyWritten c i).path = s.path := by
  unfold State.rekeyWritten; dsimp only; (repeat' split) <;> simp

@[simp] theorem scrubDone_pins_path (s : State) (c : ChannelId) (l : List Beat) :
    (s.scrubDone c l).pins = s.pins ∧ (s.scrubDone c l).path = s.path := by
  unfold State.scrubDone; dsimp only; (repeat' split) <;> simp

@[simp] theorem scrubFailed_pins (s : State) (c : ChannelId) (o : MemOp) (x : FailCause) :
    (s.scrubFailed c o x).pins = s.pins := by
  unfold State.scrubFailed; dsimp only; (repeat' split) <;> simp

@[simp] theorem abandon_pins_path (s : State) (c : ChannelId) (j : Job) :
    (s.abandon c j).pins = s.pins ∧ (s.abandon c j).path = s.path := by
  unfold State.abandon; (repeat' split) <;> simp

@[simp] theorem leaveHead_pins_path (s : State) (b : Bool) :
    (s.leaveHead b).pins = s.pins ∧ (s.leaveHead b).path = s.path := by
  unfold State.leaveHead; (repeat' split) <;> simp

@[simp] theorem leaveEmpties_pins_path (s : State) (n : Nat) :
    (State.leaveEmpties n s).pins = s.pins ∧ (State.leaveEmpties n s).path = s.path := by
  induction n generalizing s with
  | zero => simp [State.leaveEmpties]
  | succ n ih =>
    unfold State.leaveEmpties
    (repeat' split) <;> simp [ih]

@[simp] theorem settleHead_pins_path (s : State) :
    (s.settleHead).pins = s.pins ∧ (s.settleHead).path = s.path := by
  unfold State.settleHead; simp

@[simp] theorem setHead_pins_path (s : State) (e : PwqEntry) :
    (s.setHead e).pins = s.pins ∧ (s.setHead e).path = s.path := by
  unfold State.setHead; (repeat' split) <;> simp

@[simp] theorem headWritten_pins_path (s : State) :
    (s.headWritten).pins = s.pins ∧ (s.headWritten).path = s.path := by
  unfold State.headWritten; simp

@[simp] theorem headDropped_pins (s : State) (f : PathFlag) :
    (s.headDropped f).pins = s.pins := by
  unfold State.headDropped; (repeat' split) <;> simp

@[simp] theorem refuse_pins (s : State) (f : PathFlag) (k : Option ReqKind) (r : PageRequest) (w : Option WindowRef) :
    (s.refuse f k r w).pins = s.pins := by
  unfold State.refuse; simp

@[simp] theorem retry_pins_path (s : State) (r : PageRequest) :
    (s.retry r).pins = s.pins ∧ (s.retry r).path = s.path := by
  unfold State.retry; simp

@[simp] theorem startWake_pins_path (s : State) :
    (s.startWake).pins = s.pins ∧ (s.startWake).path = s.path := by
  unfold State.startWake; (repeat' split) <;> simp

@[simp] theorem takeTracked_pins_path (s : State) (x : Source) (r : PageRequest) (a : ReadAccess) (p : Place)
    (y : Option PlaneRef) (z : ReadState) :
    (s.takeTracked x r a p y z).pins = s.pins ∧ (s.takeTracked x r a p y z).path = s.path := by
  unfold State.takeTracked; dsimp only; (repeat' split) <;> simp

@[simp] theorem takeHit_pins_path (s : State) (x : Source) (r : PageRequest) (w : WindowRef) (n : Nat)
    (y : Option PlaneRef) (i : Fin 8) (l : Line) (b : List Beat) :
    (s.takeHit x r w n y i l b).pins = s.pins ∧ (s.takeHit x r w n y i l b).path = s.path := by
  unfold State.takeHit; simp

@[simp] theorem takeRead_pins_path (s : State) (x : Source) (r : PageRequest) (a : ReadAccess) (p : Place)
    (y : Option PlaneRef) :
    (s.takeRead x r a p y).pins = s.pins ∧ (s.takeRead x r a p y).path = s.path := by
  unfold State.takeRead; dsimp only; (repeat' split) <;> simp

@[simp] theorem gateRead_pins (s : State) (x : Source) (r : PageRequest) (i : WindowIdx) :
    (s.gateRead x r i).pins = s.pins := by
  unfold State.gateRead; dsimp only; (repeat' split) <;> simp

@[simp] theorem serveRead_pins (s : State) (r : PageRequest) (x : Source) :
    (s.serveRead r x).pins = s.pins := by
  unfold State.serveRead; (repeat' split) <;> simp

@[simp] theorem countScan_pins_path (s : State) (x : Source) (i : WindowIdx) (n : Nat) (b : List QueuedBeat) :
    (s.countScan x i n b).pins = s.pins ∧ (s.countScan x i n b).path = s.path := by
  unfold State.countScan; dsimp only; (repeat' split) <;> simp

@[simp] theorem acceptWrite_pins (s : State) (x : Source) (r : PageRequest) (a : WriteAccess) (p : Place)
    (b : List WriteBeat) :
    (s.acceptWrite x r a p b).pins = s.pins := by
  unfold State.acceptWrite; dsimp only; (repeat' split) <;> simp

@[simp] theorem takeWrite_pins (s : State) (x : Source) (r : PageRequest) (a : WriteAccess) (p : Place)
    (b : List WriteBeat) :
    (s.takeWrite x r a p b).pins = s.pins := by
  unfold State.takeWrite; (repeat' split) <;> simp

@[simp] theorem serveWrite_pins (s : State) (r : PageRequest) (b : Vector WriteBeat 8) (x : Source) :
    (s.serveWrite r b x).pins = s.pins := by
  unfold State.serveWrite; dsimp only; (repeat' split) <;> simp

@[simp] theorem takeFlush_pins_path (s : State) (x : Source) (r : PageRequest) :
    (s.takeFlush x r).pins = s.pins ∧ (s.takeFlush x r).path = s.path := by
  unfold State.takeFlush; simp

@[simp] theorem serveFlush_pins (s : State) (r : PageRequest) (x : Source) :
    (s.serveFlush r x).pins = s.pins := by
  unfold State.serveFlush; (repeat' split) <;> simp

@[simp] theorem issue_pins_path (s : State) (t : MemTid) (o : MemOp) (w : Consumer) (x : Source) (g : JobTag)
    (a : Addr) (n : Nat) (b : List DrivenBeat) :
    (s.issue t o w x g a n b).pins = s.pins ∧ (s.issue t o w x g a n b).path = s.path := by
  unfold State.issue; simp

@[simp] theorem grantRmw_pins_path (s : State) (t : MemTid) :
    (s.grantRmw t).pins = s.pins ∧ (s.grantRmw t).path = s.path := by
  unfold State.grantRmw; dsimp only; (repeat' split) <;> simp

@[simp] theorem grantDrain_pins_path (s : State) (t : MemTid) :
    (s.grantDrain t).pins = s.pins ∧ (s.grantDrain t).path = s.path := by
  unfold State.grantDrain; (repeat' split) <;> simp

@[simp] theorem setEntry_pins_path (s : State) (n : Nat) (e : TrackerEntry) :
    (s.setEntry n e).pins = s.pins ∧ (s.setEntry n e).path = s.path := by
  unfold State.setEntry; simp

@[simp] theorem dropEntry_pins_path (s : State) (n : Nat) :
    (s.dropEntry n).pins = s.pins ∧ (s.dropEntry n).path = s.path := by
  unfold State.dropEntry; simp

@[simp] theorem grantDemand_pins_path (s : State) (t : MemTid) (n : Nat) :
    (s.grantDemand t n).pins = s.pins ∧ (s.grantDemand t n).path = s.path := by
  unfold State.grantDemand; (repeat' split) <;> simp

@[simp] theorem grantPrefetch_pins_path (s : State) (t : MemTid) (i : Fin 8) :
    (s.grantPrefetch t i).pins = s.pins ∧ (s.grantPrefetch t i).path = s.path := by
  unfold State.grantPrefetch; (repeat' split) <;> simp

@[simp] theorem drawFor_pins_path (s : State) (p : Pattern) :
    (s.drawFor p).pins = s.pins ∧ (s.drawFor p).path = s.path := by
  unfold State.drawFor; (repeat' split) <;> simp

@[simp] theorem grantScrub_pins_path (s : State) (t : MemTid) (c : ChannelId) :
    (s.grantScrub t c).pins = s.pins ∧ (s.grantScrub t c).path = s.path := by
  unfold State.grantScrub; dsimp only; (repeat' split) <;> simp

@[simp] theorem grant_pins_path (s : State) (t : MemTid) (g : Grantee) :
    (s.grant t g).pins = s.pins ∧ (s.grant t g).path = s.path := by
  unfold State.grant; dsimp only; (repeat' split) <;> simp

@[simp] theorem grantNext_pins_path (s : State) :
    (s.grantNext).pins = s.pins ∧ (s.grantNext).path = s.path := by
  unfold State.grantNext; (repeat' split) <;> simp

@[simp] theorem demandDone_pins_path (s : State) (n : Nat) (l : List Beat) :
    (s.demandDone n l).pins = s.pins ∧ (s.demandDone n l).path = s.path := by
  unfold State.demandDone; (repeat' split) <;> simp

@[simp] theorem demandFailed_pins (s : State) (n : Nat) (x : FailCause) :
    (s.demandFailed n x).pins = s.pins := by
  unfold State.demandFailed; (repeat' split) <;> simp

@[simp] theorem rmwDone_pins_path (s : State) (l : List Beat) :
    (s.rmwDone l).pins = s.pins ∧ (s.rmwDone l).path = s.path := by
  unfold State.rmwDone; (repeat' split) <;> simp

@[simp] theorem prefetchDone_pins_path (s : State) (i : Fin 8) (l : List Beat) :
    (s.prefetchDone i l).pins = s.pins ∧ (s.prefetchDone i l).path = s.path := by
  unfold State.prefetchDone; (repeat' split) <;> simp

@[simp] theorem requestDone_pins_path (s : State) (r : MemRequest) (l : List Beat) :
    (s.requestDone r l).pins = s.pins ∧ (s.requestDone r l).path = s.path := by
  unfold State.requestDone; (repeat' split) <;> simp

@[simp] theorem requestFailed_pins (s : State) (r : MemRequest) (x : FailCause) :
    (s.requestFailed r x).pins = s.pins := by
  unfold State.requestFailed; (repeat' split) <;> simp

@[simp] theorem memoryResponse_pins (s : State) (t : MemTid) (b : Bool) (v : Vector MemBeat 8) :
    (s.memoryResponse t b v).pins = s.pins := by
  unfold State.memoryResponse; dsimp only; (repeat' split) <;> simp

@[simp] theorem memoryTimeout_pins (s : State) (t : MemTid) :
    (s.memoryTimeout t).pins = s.pins := by
  unfold State.memoryTimeout; (repeat' split) <;> simp

@[simp] theorem quarantineEnd_pins_path (s : State) (t : MemTid) :
    (s.quarantineEnd t).pins = s.pins ∧ (s.quarantineEnd t).path = s.path := by
  unfold State.quarantineEnd; (repeat' split) <;> simp

@[simp] theorem allocate_pins_path (s : State) (p : PrefetchSource) (n : Nat) (i : Fin 8) :
    (s.allocate p n i).pins = s.pins ∧ (s.allocate p n i).path = s.path := by
  unfold State.allocate; simp

@[simp] theorem prefetchFrom_pins_path (s : State) (p : PrefetchSource) (n m : Nat) :
    (State.prefetchFrom p n m s).pins = s.pins ∧ (State.prefetchFrom p n m s).path = s.path := by
  induction n generalizing s m with
  | zero => simp [State.prefetchFrom]
  | succ n ih =>
    unfold State.prefetchFrom
    (repeat' split) <;> simp [ih]

@[simp] theorem startPrefetch_pins_path (s : State) (w : WindowRef) (r : PlaneRef) (n : Nat) (g : JobTag) :
    (s.startPrefetch w r n g).pins = s.pins ∧ (s.startPrefetch w r n g).path = s.path := by
  unfold State.startPrefetch; (repeat' split) <;> simp

@[simp] theorem sendBeat_pins_path_root (s : State) (d : Delivery) :
    (s.sendBeat d).pins = s.pins ∧ (s.sendBeat d).path = s.path ∧ (s.sendBeat d).nv.root = s.nv.root := by
  unfold State.sendBeat; dsimp only; simp

@[simp] theorem endDelivery_pins_path (s : State) (d : Delivery) :
    (s.endDelivery d).pins = s.pins ∧ (s.endDelivery d).path = s.path := by
  unfold State.endDelivery; dsimp only; (repeat' split) <;> simp

@[simp] theorem abortIfPrinting_pins_path (s : State) (b : Bool) :
    (s.abortIfPrinting b).pins = s.pins ∧ (s.abortIfPrinting b).path = s.path := by
  unfold State.abortIfPrinting; (repeat' split) <;> simp

@[simp] theorem deliverTracked_pins_path_root (s : State) (e : TrackerEntry) (l : List Beat) :
    (s.deliverTracked e l).pins = s.pins ∧ (s.deliverTracked e l).path = s.path
      ∧ (s.deliverTracked e l).nv.root = s.nv.root := by
  unfold State.deliverTracked; dsimp only; (repeat' split) <;> simp

@[simp] theorem endLineDelivery_pins_path (s : State) (i : Fin 8) :
    (s.endLineDelivery i).pins = s.pins ∧ (s.endLineDelivery i).path = s.path := by
  unfold State.endLineDelivery; (repeat' split) <;> simp

@[simp] theorem deliverHit_pins_path_root (s : State) (h : Hit) :
    (s.deliverHit h).pins = s.pins ∧ (s.deliverHit h).path = s.path ∧ (s.deliverHit h).nv.root = s.nv.root := by
  unfold State.deliverHit; dsimp only; (repeat' split) <;> simp

@[simp] theorem deliverBeat_pins_path_root (s : State) (n : Nat) :
    (s.deliverBeat n).pins = s.pins ∧ (s.deliverBeat n).path = s.path ∧ (s.deliverBeat n).nv.root = s.nv.root := by
  unfold State.deliverBeat; (repeat' split) <;> simp

@[simp] theorem releaseHeld_pins_path (s : State) (n : Nat) :
    (s.releaseHeld n).pins = s.pins ∧ (s.releaseHeld n).path = s.path := by
  unfold State.releaseHeld; (repeat' split) <;> simp

@[simp] theorem completeFlush_pins_path (s : State) (n : Nat) :
    (s.completeFlush n).pins = s.pins ∧ (s.completeFlush n).path = s.path := by
  unfold State.completeFlush; (repeat' split) <;> simp

@[simp] theorem discardExpiry_pins_path (s : State) (i : Fin 8) :
    (s.discardExpiry i).pins = s.pins ∧ (s.discardExpiry i).path = s.path := by
  unfold State.discardExpiry; (repeat' split) <;> simp

@[simp] theorem policyChanged_pins_path (s : State) :
    (s.policyChanged).pins = s.pins ∧ (s.policyChanged).path = s.path := by
  unfold State.policyChanged; simp

@[simp] theorem settingChanged_pins_path_root (s : State) (n : SettingName) :
    (s.settingChanged n).pins = s.pins ∧ (s.settingChanged n).path = s.path
      ∧ (s.settingChanged n).nv.root = s.nv.root := by
  unfold State.settingChanged; (repeat' split) <;> simp

@[simp] theorem writeSetting_pins_path_root (s : State) (n : SettingName) (m : Nat) :
    (s.writeSetting n m).pins = s.pins ∧ (s.writeSetting n m).path = s.path
      ∧ (s.writeSetting n m).nv.root = s.nv.root := by
  unfold State.writeSetting; (repeat' split) <;> simp

@[simp] theorem setRoot_pins_path (s : State) (r : RootStore) :
    (s.setRoot r).pins = s.pins ∧ (s.setRoot r).path = s.path := by
  unfold State.setRoot; simp

@[simp] theorem emptyFrame_pins_path (s : State) (f : Frame) :
    (s.emptyFrame f).pins = s.pins ∧ (s.emptyFrame f).path = s.path := by
  unfold State.emptyFrame; split <;> simp [*]

@[simp] theorem dropTraffic_pins_path (s : State) :
    (s.dropTraffic).pins = s.pins ∧ (s.dropTraffic).path = s.path := by
  unfold State.dropTraffic; dsimp only; simp

@[simp] theorem stopScrub_pins_path (s : State) :
    (s.stopScrub).pins = s.pins ∧ (s.stopScrub).path = s.path := by
  unfold State.stopScrub; dsimp only; simp

@[simp] theorem recordReset_pins (s : State) (k : ResetKind) :
    (s.recordReset k).pins = s.pins := by
  unfold State.recordReset; dsimp only; (repeat' split) <;> simp

@[simp] theorem beginReset_pins_root (s : State) (k : ResetKind) :
    (s.beginReset k).pins = s.pins ∧ (s.beginReset k).nv.root = s.nv.root := by
  unfold State.beginReset; simp

@[simp] theorem freeAllWindows_pins_path (s : State) :
    (s.freeAllWindows).pins = s.pins ∧ (s.freeAllWindows).path = s.path := by
  unfold State.freeAllWindows; simp

@[simp] theorem resetWindows_pins_path (s : State) :
    (s.resetWindows).pins = s.pins ∧ (s.resetWindows).path = s.path := by
  unfold State.resetWindows; (repeat' split) <;> simp

@[simp] theorem loadSettings_pins_path (s : State) :
    (s.loadSettings).pins = s.pins ∧ (s.loadSettings).path = s.path := by
  unfold State.loadSettings; (repeat' split) <;> simp

@[simp] theorem reloadSettings_pins_path_root (s : State) :
    (s.reloadSettings).pins = s.pins ∧ (s.reloadSettings).path = s.path ∧ (s.reloadSettings).nv.root = s.nv.root := by
  unfold State.reloadSettings; dsimp only; (repeat' split) <;> simp

@[simp] theorem completeReset_pins_path_root (s : State) :
    (s.completeReset).pins = s.pins ∧ (s.completeReset).path = s.path ∧ (s.completeReset).nv.root = s.nv.root := by
  unfold State.completeReset; dsimp only; (repeat' split) <;> simp

@[simp] theorem joinReset_pins_path (s : State) :
    (s.joinReset).pins = s.pins ∧ (s.joinReset).path = s.path := by
  unfold State.joinReset; simp

@[simp] theorem recordReset_linkReset_path (s : State) : (s.recordReset .linkReset).path = s.path := rfl

@[simp] theorem beginReset_linkReset_path (s : State) : (s.beginReset .linkReset).path = s.path := by
  unfold State.beginReset; simp

@[simp] theorem linkAsserted_pins_path_root (s : State) :
    (s.linkAsserted).pins = s.pins ∧ (s.linkAsserted).path = s.path ∧ (s.linkAsserted).nv.root = s.nv.root := by
  unfold State.linkAsserted; (repeat' split) <;> simp

@[simp] theorem setLinkrst_path (s : State) (b : Bool) :
    (s.setLinkrst b).path = s.path := by
  unfold State.setLinkrst; simp

@[simp] theorem setPfail_path (s : State) (b : Bool) :
    (s.setPfail b).path = s.path := by
  unfold State.setPfail; simp

@[simp] theorem enterSleep_pins_path_root (s : State) :
    (s.enterSleep).pins = s.pins ∧ (s.enterSleep).path = s.path ∧ (s.enterSleep).nv.root = s.nv.root := by
  unfold State.enterSleep; dsimp only; simp

@[simp] theorem fallAsleep_pins_path (s : State) :
    (s.fallAsleep).pins = s.pins ∧ (s.fallAsleep).path = s.path := by
  unfold State.fallAsleep; simp

@[simp] theorem beginWakeReset_pins_root (s : State) :
    (s.beginWakeReset).pins = s.pins ∧ (s.beginWakeReset).nv.root = s.nv.root := by
  unfold State.beginWakeReset; dsimp only; (repeat' split) <;> simp

/-! ## The blocks that an operation keeps -/

/-- Which blocks an operation may change. -/
structure Touched where
  windows : Bool := false
  keys : Bool := false
  pages : Bool := false
  accounts : Bool := false
  meter : Bool := false
  slots : Bool := false
  gauges : Bool := false
  settings : Bool := false
  store : Bool := false
  commits : Bool := false
  writes : Bool := false
  reads : Bool := false
  flushes : Bool := false
  scrub : Bool := false
  errors : Bool := false
  pins : Bool := false
  held : Bool := false
  root : Bool := false

/-- Every block that is not among those touched is the same in both states. -/
structure Touched.Keeps (b : Touched) (s t : State) : Prop where
  windows : b.windows = false → t.windows = s.windows
  keys : b.keys = false → t.keys = s.keys
  pages : b.pages = false → t.pages = s.pages
  accounts : b.accounts = false → t.accounts = s.accounts
  meter : b.meter = false → t.meter = s.meter
  slots : b.slots = false → t.slots = s.slots
  gauges : b.gauges = false → t.gauges = s.gauges ∧ t.carry = s.carry
  settings : b.settings = false → t.settings = s.settings
  store : b.store = false → t.nv = s.nv
  commits : b.commits = false → t.commit = s.commit
  writes : b.writes = false → t.pwq = s.pwq
  reads : b.reads = false → t.tracker = s.tracker
  flushes : b.flushes = false → t.flushes = s.flushes
  scrub : b.scrub = false → t.scrub = s.scrub
  errors : b.errors = false → t.path = s.path
  pins : b.pins = false → t.pins = s.pins
  held : b.held = false → t.held = s.held
  root : b.root = false → t.nv.root = s.nv.root

/-- Which blocks a command may change: those of the touches… functions; the held response, which management frames, the
end of a wake and power change; and the root store, which PROVISION, LOCK and the end of a wake change. -/
def touchedBy (c : Instr) : Touched where
  windows := touchesWindows c
  keys := touchesKeys c
  pages := touchesPages c
  accounts := touchesAccounts c
  meter := touchesMeter c
  slots := touchesSlots c
  gauges := touchesGauges c
  settings := touchesSettings c
  store := touchesStore c
  commits := touchesCommits c
  writes := touchesWrites c
  reads := touchesReads c
  flushes := touchesFlushes c
  scrub := touchesScrub c
  errors := touchesErrors c
  pins := touchesPins c
  held := match c with
    | .unknownCommand _ _ | .wakeEnd _ | .powerOn | .powerLoss => true
    | c => (commandCode c).isSome
  root := match c with
    | .provision _ _ _ _ | .lock _ _ | .wakeEnd _ => true
    | _ => false

section

variable {b : Touched} {s t u : State}

theorem Touched.Keeps.refl (b : Touched) (s : State) : b.Keeps s s := by constructor <;> simp

theorem Touched.Keeps.trans (h : b.Keeps s t) (k : b.Keeps t u) : b.Keeps s u where
  windows e := (k.windows e).trans (h.windows e)
  keys e := (k.keys e).trans (h.keys e)
  pages e := (k.pages e).trans (h.pages e)
  accounts e := (k.accounts e).trans (h.accounts e)
  meter e := (k.meter e).trans (h.meter e)
  slots e := (k.slots e).trans (h.slots e)
  gauges e := ⟨(k.gauges e).1.trans (h.gauges e).1, (k.gauges e).2.trans (h.gauges e).2⟩
  settings e := (k.settings e).trans (h.settings e)
  store e := (k.store e).trans (h.store e)
  commits e := (k.commits e).trans (h.commits e)
  writes e := (k.writes e).trans (h.writes e)
  reads e := (k.reads e).trans (h.reads e)
  flushes e := (k.flushes e).trans (h.flushes e)
  scrub e := (k.scrub e).trans (h.scrub e)
  errors e := (k.errors e).trans (h.errors e)
  pins e := (k.pins e).trans (h.pins e)
  held e := (k.held e).trans (h.held e)
  root e := (k.root e).trans (h.root e)

/-- An event changes, besides what its body changes, only what was driven and the notices. -/
theorem event_keeps {body : State → State} (h : ∀ x, b.Keeps x (body x)) (s : State) : b.Keeps s (event body s) := by
  unfold event
  split
  · have k := h (openEvent s)
    exact { k with }
  · exact { Touched.Keeps.refl b s with }

variable (held : b.held = true)
include held

theorem answer_keeps (h : b.Keeps s t) (code : Nat) (st : Status) (d : RespData) : b.Keeps s (t.answer code st d) :=
  { h with held := by simp [held] }

theorem answerStatus_keeps (h : b.Keeps s t) (code : Nat) (st : Status) : b.Keeps s (t.answerStatus code st) :=
  answer_keeps held h code st .empty

/-- Receiving a frame changes, besides what the judgement changes, only the held response and the wake. -/
theorem receive_keeps {body : State → State} (h : ∀ x, b.Keeps x (body x)) (cmd : Instr) (f : Frame) (s : State) :
    b.Keeps s (receive cmd f body s) := by
  have sent : b.Keeps s (s.sendHeld f) := by constructor <;> simp [held]
  rcases receive_cases cmd f body s with ⟨-, e⟩ | ⟨-, -, e⟩ | ⟨-, -, -, -, e⟩ | ⟨-, -, -, -, e⟩ <;> rw [e]
  · constructor <;> simp [held]
  · constructor <;> simp
  · exact { sent with }
  · exact sent.trans (h _)

/-- A judged command is answered for its frame or for a reset, or has its own rule carried out. -/
theorem judged_keeps {body : State → State} (h : ∀ x, b.Keeps x (body x)) (code : Nat) (f : Frame) (inReset : Bool)
    (s : State) : b.Keeps s (judged code f inReset body s) := by
  unfold judged
  split
  · exact answerStatus_keeps held (.refl b s) code .badArgument
  · split
    · exact answerStatus_keeps held (.refl b s) code .busy
    · exact h s

end

/-! ## The blocks that each management command keeps -/

theorem judgeWindowOpen_keeps (f : Frame) (a : WindowOpenArgs) (s : State) :
    Touched.Keeps { windows := true, keys := true, held := true } s (judgeWindowOpen f a s) :=
  judged_keeps rfl (fun s => by dsimp only; (repeat' split) <;> constructor <;> simp) _ _ _ _

theorem judgeWindowPolicy_keeps (f : Frame) (i : Byte) (o : JobTag) (m : ModeBytes) (s : State) :
    Touched.Keeps { windows := true, held := true } s (judgeWindowPolicy f i o m s) :=
  judged_keeps rfl (fun s => by (repeat' split) <;> constructor <;> simp) _ _ _ _

theorem judgeWindowSeal_keeps (f : Frame) (i : Byte) (s : State) :
    Touched.Keeps { windows := true, held := true } s (judgeWindowSeal f i s) :=
  judged_keeps rfl (fun s => by (repeat' split) <;> constructor <;> simp) _ _ _ _

theorem judgeWindowRetire_keeps (f : Frame) (i n p q r : Byte) (s : State) :
    Touched.Keeps { windows := true, keys := true, reads := true, scrub := true, errors := true, held := true } s
      (judgeWindowRetire f i n p q r s) :=
  judged_keeps rfl (fun s => by (repeat' split) <;> constructor <;> simp) _ _ _ _

theorem judgeWindowRekey_keeps (f : Frame) (i : Byte) (s : State) :
    Touched.Keeps { keys := true, scrub := true, held := true } s (judgeWindowRekey f i s) :=
  judged_keeps rfl (fun s => by dsimp only; (repeat' split) <;> constructor <;> simp) _ _ _ _

theorem judgeWindowQuery_keeps (f : Frame) (i : Byte) (s : State) :
    Touched.Keeps { held := true } s (judgeWindowQuery f i s) :=
  judged_keeps rfl (fun s => by dsimp only; (repeat' split) <;> constructor <;> simp) _ _ _ _

theorem judgePageOpen_keeps (f : Frame) (a : PageOpenArgs) (s : State) :
    Touched.Keeps { windows := true, pages := true, accounts := true, held := true } s (judgePageOpen f a s) :=
  judged_keeps rfl (fun s => by unfold State.openPage; dsimp only; (repeat' split) <;> constructor <;> simp) _ _ _ _

theorem judgePageCancel_keeps (f : Frame) (n : BitVec 32) (s : State) :
    Touched.Keeps
      { windows := true, pages := true, accounts := true, meter := true, slots := true, gauges := true,
        store := true, commits := true, held := true } s (judgePageCancel f n s) :=
  judged_keeps rfl (fun s => by (repeat' split) <;> constructor <;> simp) _ _ _ _

theorem judgePageQuery_keeps (f : Frame) (n : BitVec 32) (s : State) :
    Touched.Keeps { held := true } s (judgePageQuery f n s) :=
  judged_keeps rfl (fun s => by (repeat' split) <;> constructor <;> simp) _ _ _ _

theorem judgeAccountCreate_keeps (f : Frame) (i l : BitVec 32) (s : State) :
    Touched.Keeps { accounts := true, held := true } s (judgeAccountCreate f i l s) :=
  judged_keeps rfl (fun s => by (repeat' split) <;> constructor <;> simp) _ _ _ _

theorem judgeAccountSetLimit_keeps (f : Frame) (a : Byte) (l : BitVec 32) (s : State) :
    Touched.Keeps { accounts := true, held := true } s (judgeAccountSetLimit f a l s) :=
  judged_keeps rfl (fun s => by (repeat' split) <;> constructor <;> simp) _ _ _ _

theorem judgeAccountResetUsage_keeps (f : Frame) (a : Byte) (s : State) :
    Touched.Keeps { accounts := true, held := true } s (judgeAccountResetUsage f a s) :=
  judged_keeps rfl (fun s => by (repeat' split) <;> constructor <;> simp) _ _ _ _

theorem judgeAccountClearCounters_keeps (f : Frame) (a : Byte) (s : State) :
    Touched.Keeps { accounts := true, held := true } s (judgeAccountClearCounters f a s) :=
  judged_keeps rfl (fun s => by (repeat' split) <;> constructor <;> simp) _ _ _ _

theorem judgeAccountSuspend_keeps (f : Frame) (a : Byte) (s : State) :
    Touched.Keeps { accounts := true, held := true } s (judgeAccountSuspend f a s) :=
  judged_keeps rfl (fun s => by (repeat' split) <;> constructor <;> simp) _ _ _ _

theorem judgeAccountResume_keeps (f : Frame) (a : Byte) (s : State) :
    Touched.Keeps { accounts := true, held := true } s (judgeAccountResume f a s) :=
  judged_keeps rfl (fun s => by (repeat' split) <;> constructor <;> simp) _ _ _ _

theorem judgeAccountDelete_keeps (f : Frame) (a : Byte) (s : State) :
    Touched.Keeps { accounts := true, held := true } s (judgeAccountDelete f a s) :=
  judged_keeps rfl (fun s => by (repeat' split) <;> constructor <;> simp) _ _ _ _

theorem judgeAccountRead_keeps (f : Frame) (a : Byte) (s : State) :
    Touched.Keeps { held := true } s (judgeAccountRead f a s) :=
  judged_keeps rfl (fun s => by split <;> constructor <;> simp) _ _ _ _

theorem judgeMeterRead_keeps (f : Frame) (x : Byte) (s : State) :
    Touched.Keeps { held := true } s (judgeMeterRead f x s) :=
  judged_keeps rfl (fun s => by split <;> constructor <;> simp) _ _ _ _

theorem judgeCommit_keeps (f : Frame) (s : State) :
    Touched.Keeps { store := true, commits := true, held := true } s (judgeCommit f s) :=
  judged_keeps rfl (fun s => by split <;> constructor <;> simp) _ _ _ _

theorem judgeCartQuery_keeps (f : Frame) (k : Byte) (s : State) :
    Touched.Keeps { held := true } s (judgeCartQuery f k s) :=
  judged_keeps rfl (fun s => by split <;> constructor <;> simp) _ _ _ _

theorem judgeCartReprobe_keeps (f : Frame) (k : Byte) (s : State) :
    Touched.Keeps { pages := true, slots := true, gauges := true, held := true } s (judgeCartReprobe f k s) :=
  judged_keeps rfl (fun s => by (repeat' split) <;> constructor <;> simp) _ _ _ _

theorem judgeScrubQuery_keeps (f : Frame) (s : State) : Touched.Keeps { held := true } s (judgeScrubQuery f s) :=
  judged_keeps rfl (fun s => by constructor <;> simp) _ _ _ _

theorem judgeScrubSuspend_keeps (f : Frame) (c : Byte) (s : State) :
    Touched.Keeps { scrub := true, held := true } s (judgeScrubSuspend f c s) :=
  judged_keeps rfl (fun s => by dsimp only; (repeat' split) <;> constructor <;> simp) _ _ _ _

theorem judgeScrubResume_keeps (f : Frame) (c : Byte) (s : State) :
    Touched.Keeps { scrub := true, held := true } s (judgeScrubResume f c s) :=
  judged_keeps rfl (fun s => by dsimp only; (repeat' split) <;> constructor <;> simp) _ _ _ _

theorem judgeScrubAbandon_keeps (f : Frame) (c : Byte) (s : State) :
    Touched.Keeps { windows := true, scrub := true, held := true } s (judgeScrubAbandon f c s) :=
  judged_keeps rfl (fun s => by (repeat' split) <;> constructor <;> simp) _ _ _ _

theorem judgeConfigRead_keeps (f : Frame) (x : Byte) (s : State) :
    Touched.Keeps { held := true } s (judgeConfigRead f x s) :=
  judged_keeps rfl (fun s => by split <;> constructor <;> simp) _ _ _ _

theorem judgeConfigWrite_keeps (f : Frame) (n : Byte) (v : BitVec 32) (s : State) :
    Touched.Keeps
      { pages := true, slots := true, gauges := true, settings := true, store := true, commits := true,
        held := true } s (judgeConfigWrite f n v s) :=
  judged_keeps rfl (fun s => by dsimp only; split <;> constructor <;> simp) _ _ _ _

theorem judgeConfigStore_keeps (f : Frame) (o : StoreOutcome) (s : State) :
    Touched.Keeps { store := true, held := true } s (judgeConfigStore f o s) :=
  judged_keeps rfl (fun s => by (repeat' split) <;> constructor <;> simp) _ _ _ _

theorem judgeNoticeRead_keeps (f : Frame) (s : State) : Touched.Keeps { held := true } s (judgeNoticeRead f s) :=
  judged_keeps rfl (fun s => by split <;> constructor <;> simp) _ _ _ _

theorem judgeErrorRead_keeps (f : Frame) (s : State) :
    Touched.Keeps { errors := true, held := true } s (judgeErrorRead f s) :=
  judged_keeps rfl (fun s => by constructor <;> simp) _ _ _ _

theorem judgeSleep_keeps (f : Frame) (s : State) :
    Touched.Keeps { store := true, commits := true, scrub := true, held := true } s (judgeSleep f s) :=
  judged_keeps rfl (fun s => by (repeat' split) <;> constructor <;> simp) _ _ _ _

theorem judgeReset_keeps (f : Frame) (s : State) :
    Touched.Keeps
      { windows := true, pages := true, accounts := true, meter := true, slots := true, gauges := true,
        store := true, commits := true, writes := true, reads := true, flushes := true, scrub := true,
        errors := true, held := true } s (judgeReset f s) :=
  judged_keeps rfl (fun s => by constructor <;> simp) _ _ _ _

theorem judgeIdent_keeps (f : Frame) (s : State) : Touched.Keeps { held := true } s (judgeIdent f s) :=
  judged_keeps rfl (fun s => by constructor <;> simp) _ _ _ _

theorem judgeProvision_keeps (f : Frame) (k : BitVec 256) (n : Serial) (o : StoreOutcome) (s : State) :
    Touched.Keeps { store := true, held := true, root := true } s (judgeProvision f k n o s) :=
  judged_keeps rfl (fun s => by (repeat' split) <;> constructor <;> simp) _ _ _ _

theorem judgeLock_keeps (f : Frame) (o : StoreOutcome) (s : State) :
    Touched.Keeps { store := true, held := true, root := true } s (judgeLock f o s) :=
  judged_keeps rfl (fun s => by (repeat' split) <;> constructor <;> simp) _ _ _ _

theorem judgeUnknown_keeps (code : Byte) (s : State) : Touched.Keeps { held := true } s (judgeUnknown code s) :=
  answerStatus_keeps rfl (.refl _ s) _ _

/-- The judgement of a command keeps the blocks that the command does not touch. A command that no frame carries is not
judged. -/
theorem judge_keeps (c : Instr) (s : State) : (touchedBy c).Keeps s (judge c s) := by
  cases c with
  | windowOpen f a => exact judgeWindowOpen_keeps f a s
  | windowPolicy f i o m => exact judgeWindowPolicy_keeps f i o m s
  | windowSeal f i => exact judgeWindowSeal_keeps f i s
  | windowRetire f i n p q r => exact judgeWindowRetire_keeps f i n p q r s
  | windowRekey f i => exact judgeWindowRekey_keeps f i s
  | windowQuery f i => exact judgeWindowQuery_keeps f i s
  | pageOpen f a => exact judgePageOpen_keeps f a s
  | pageCancel f n => exact judgePageCancel_keeps f n s
  | pageQuery f n => exact judgePageQuery_keeps f n s
  | accountCreate f i l => exact judgeAccountCreate_keeps f i l s
  | accountSetLimit f a l => exact judgeAccountSetLimit_keeps f a l s
  | accountResetUsage f a => exact judgeAccountResetUsage_keeps f a s
  | accountClearCounters f a => exact judgeAccountClearCounters_keeps f a s
  | accountSuspend f a => exact judgeAccountSuspend_keeps f a s
  | accountResume f a => exact judgeAccountResume_keeps f a s
  | accountDelete f a => exact judgeAccountDelete_keeps f a s
  | accountRead f a => exact judgeAccountRead_keeps f a s
  | meterRead f x => exact judgeMeterRead_keeps f x s
  | commit f => exact judgeCommit_keeps f s
  | cartQuery f k => exact judgeCartQuery_keeps f k s
  | cartReprobe f k => exact judgeCartReprobe_keeps f k s
  | scrubSuspend f c => exact judgeScrubSuspend_keeps f c s
  | scrubResume f c => exact judgeScrubResume_keeps f c s
  | scrubAbandon f c => exact judgeScrubAbandon_keeps f c s
  | scrubQuery f => exact judgeScrubQuery_keeps f s
  | configRead f x => exact judgeConfigRead_keeps f x s
  | configWrite f n v => exact judgeConfigWrite_keeps f n v s
  | configStore f o => exact judgeConfigStore_keeps f o s
  | noticeRead f => exact judgeNoticeRead_keeps f s
  | errorRead f => exact judgeErrorRead_keeps f s
  | sleep f => exact judgeSleep_keeps f s
  | reset f => exact judgeReset_keeps f s
  | ident f => exact judgeIdent_keeps f s
  | provision f k n o => exact judgeProvision_keeps f k n o s
  | lock f o => exact judgeLock_keeps f o s
  | unknownCommand f code => exact judgeUnknown_keeps code s
  | _ => exact .refl _ s

/-! ## The blocks that each event keeps -/

/-- Step 1 of a request keeps what a refusal and the remaining steps keep. -/
theorem intake_keeps {b : Touched} (errors : b.errors = true) {serve : Source → State → State}
    (h : ∀ src x, b.Keeps x (serve src x)) (kind : ReqKind) (r : PageRequest) (s : State) :
    b.Keeps s (s.intake kind r serve) := by
  unfold State.intake
  split
  · constructor <;> simp [errors]
  · split
    · constructor <;> simp
    · split
      · constructor <;> simp [errors]
      · split
        · constructor <;> simp [errors]
        · exact h _ s

theorem serveRead_keeps (r : PageRequest) (src : Source) (s : State) :
    Touched.Keeps { reads := true, errors := true } s (s.serveRead r src) := by
  constructor <;> simp

theorem serveWrite_keeps (r : PageRequest) (beats : Vector WriteBeat 8) (src : Source) (s : State) :
    Touched.Keeps
      { windows := true, accounts := true, meter := true, writes := true, reads := true, flushes := true, errors := true }
      s (s.serveWrite r beats src) := by
  constructor <;> simp

theorem serveFlush_keeps (r : PageRequest) (src : Source) (s : State) :
    Touched.Keeps { writes := true, flushes := true, errors := true } s (s.serveFlush r src) := by
  constructor <;> simp

theorem grantNext_keeps (s : State) : Touched.Keeps { writes := true, reads := true, scrub := true } s s.grantNext := by
  constructor <;> simp

theorem memoryResponse_keeps (t : MemTid) (error : Bool) (beats : Vector MemBeat 8) (s : State) :
    Touched.Keeps
      { windows := true, keys := true, writes := true, reads := true, flushes := true, scrub := true, errors := true }
      s (s.memoryResponse t error beats) := by
  constructor <;> simp

theorem memoryTimeout_keeps (t : MemTid) (s : State) :
    Touched.Keeps { writes := true, reads := true, flushes := true, scrub := true, errors := true } s
      (s.memoryTimeout t) := by
  constructor <;> simp

theorem quarantineEnd_keeps (t : MemTid) (s : State) : Touched.Keeps {} s (s.quarantineEnd t) := by
  constructor <;> simp

theorem releaseHeld_keeps (age : Nat) (s : State) : Touched.Keeps { reads := true } s (s.releaseHeld age) := by
  constructor <;> simp

theorem completeFlush_keeps (id : Nat) (s : State) : Touched.Keeps { flushes := true } s (s.completeFlush id) := by
  constructor <;> simp

theorem deliverBeat_keeps (age : Nat) (s : State) :
    Touched.Keeps
      { windows := true, pages := true, accounts := true, meter := true, slots := true, gauges := true, store := true,
        commits := true, reads := true } s (s.deliverBeat age) := by
  constructor <;> simp

theorem discardExpiry_keeps (i : Fin 8) (s : State) : Touched.Keeps {} s (s.discardExpiry i) := by
  constructor <;> simp

theorem endDrainIfDone_keeps (i : WindowIdx) (s : State) :
    Touched.Keeps { windows := true, keys := true, scrub := true } s (s.endDrainIfDone i) := by
  constructor <;> simp

theorem commitFailed_keeps (s : State) : Touched.Keeps { store := true, commits := true } s s.commitFailed := by
  constructor <;> simp

theorem commitEnd_keeps (verified : Bool) (s : State) :
    Touched.Keeps { store := true, commits := true } s (if verified then s.commitDone else s.commitFailed) := by
  cases verified
  · exact commitFailed_keeps s
  · constructor <;> simp

theorem lineRises_keeps (k : Colour) (s : State) : Touched.Keeps { slots := true } s (s.lineRises k) := by
  constructor <;> simp

theorem lineDrops_keeps (k : Colour) (s : State) :
    Touched.Keeps { pages := true, slots := true, gauges := true } s (s.lineDrops k) := by
  constructor <;> simp

/-- A slot that was neither GENUINE nor FOREIGN and enters PROBING has no gauge to leave, nor one to enter. -/
theorem changeSlot_absent_probing_gauges (s : State) (k : Colour) (reason : Reason) (m : Option Message)
    (absent : (s.slot k).state = .absent) :
    (s.changeSlot k .probing reason m).gauges = s.gauges ∧ (s.changeSlot k .probing reason m).carry = s.carry := by
  have left : s.departGauge k = s := by simp [State.departGauge, absent]
  have entered (x : State) : x.enterGauge k .probing = x := rfl
  have marked (x : State) (h : (x.slot k).state = .probing) : x.lowMarkCheck k = x := by
    simp [State.lowMarkCheck, State.capacity, h]
  have posted (x : State) (h : (x.slot k).state = .probing) : x.postIfDue k = x := by
    simp [State.postIfDue, h]
  have state (x : State) : x.rejudge.slot k = x.slot k := by simp [State.slot]
  unfold State.changeSlot
  dsimp only
  rw [left, entered, marked, posted] <;> simp [state]

theorem settled_gauges (s : State) (k : Colour) :
    (s.settled k).gauges = s.gauges ∧ (s.settled k).carry = s.carry := by
  unfold State.settled
  dsimp only
  split
  · split
    · next absent => exact changeSlot_absent_probing_gauges _ k _ _ (by simpa [State.setPresence] using absent.1)
    · simp
  · simp

theorem settled_keeps (k : Colour) (s : State) : Touched.Keeps { pages := true, slots := true } s (s.settled k) := by
  constructor <;> simp [settled_gauges]

theorem failAttempt_keeps (k : Colour) (s : State) :
    Touched.Keeps { pages := true, slots := true, gauges := true } s (s.failAttempt k) := by
  constructor <;> simp

theorem takeReply_keeps (k : Colour) (bytes : List Byte) (s : State) :
    Touched.Keeps { pages := true, slots := true, gauges := true } s (s.takeReply k bytes) := by
  constructor <;> simp

theorem assignOldest_keeps (first : ChannelId) (s : State) :
    Touched.Keeps { windows := true, keys := true, scrub := true } s (s.assignOldest first) := by
  constructor <;> simp

theorem lockChunk_keeps (c : ChannelId) (s : State) : Touched.Keeps { scrub := true } s (s.lockChunk c) := by
  constructor <;> simp

theorem linkAsserted_keeps (s : State) :
    Touched.Keeps
      { windows := true, pages := true, accounts := true, meter := true, slots := true, gauges := true, store := true,
        commits := true, writes := true, reads := true, flushes := true, scrub := true } s s.linkAsserted := by
  constructor <;> simp

theorem resetWindows_keeps (s : State) : Touched.Keeps { windows := true, keys := true } s s.resetWindows := by
  constructor <;> simp

theorem completeReset_keeps (s : State) :
    Touched.Keeps
      { pages := true, slots := true, gauges := true, settings := true, store := true, commits := true } s
      s.completeReset := by
  constructor <;> simp

theorem fallAsleep_keeps (s : State) : Touched.Keeps { slots := true } s s.fallAsleep := by
  constructor <;> simp

/-! ## The wake and power -/

/-- A command that no frame carries is not judged. -/
theorem judge_of_no_frame {c : Instr} (noFrame : frameOf c = none) : judge c = id := by
  cases c <;> cases noFrame <;> rfl

theorem touchesPins_of_frame {c : Instr} {f : Frame} (frame : frameOf c = some f) : touchesPins c = false := by
  cases c <;> cases frame <;> rfl

@[simp] theorem judge_pins (c : Instr) (s : State) : (judge c s).pins = s.pins := by
  cases frame : frameOf c with
  | none => rw [judge_of_no_frame frame]; rfl
  | some f => exact (judge_keeps c s).pins (touchesPins_of_frame frame)

@[simp] theorem judgeAwaiting_pins (s : State) : s.judgeAwaiting.pins = s.pins := by
  unfold State.judgeAwaiting; split <;> simp

@[simp] theorem closeEvent_pins (s : State) : (closeEvent s).pins = s.pins := rfl

theorem endWake_pins (resetFirst : Bool) (s : State) : (s.endWake resetFirst).pins = s.pins := by
  unfold State.endWake
  dsimp only
  (repeat' split) <;> simp

@[simp] theorem carryDebts_frame (s : State) (x : Snapshot) :
    (s.carryDebts x).pins = s.pins ∧ (s.carryDebts x).nv = s.nv ∧ (s.carryDebts x).pages = s.pages
      ∧ (s.carryDebts x).power = s.power ∧ (s.carryDebts x).windows = s.windows := by
  unfold State.carryDebts
  exact ⟨State.foldl_frame (·.pins) _ (fun s x => by cases x <;> simp) _ s,
    State.foldl_frame (·.nv) _ (fun s x => by cases x <;> simp) _ s,
    State.foldl_frame (·.pages) _ (fun s x => by cases x <;> simp) _ s,
    State.foldl_frame (·.power) _ (fun s x => by cases x <;> simp) _ s,
    State.foldl_frame (·.windows) _ (fun s x => by cases x <;> simp) _ s⟩

@[simp] theorem restore_frame (s : State) :
    s.restore.pins = s.pins ∧ s.restore.nv = s.nv ∧ s.restore.pages = s.pages ∧ s.restore.power = s.power
      ∧ s.restore.windows = s.windows := by
  unfold State.restore; split <;> simp

@[simp] theorem settleLines_frame (s : State) :
    s.settleLines.pins = s.pins ∧ s.settleLines.nv = s.nv ∧ s.settleLines.pages = s.pages
      ∧ s.settleLines.power = s.power ∧ s.settleLines.windows = s.windows := by
  unfold State.settleLines
  exact ⟨State.foldl_frame (·.pins) _ (fun s x => by split <;> simp) _ s,
    State.foldl_frame (·.nv) _ (fun s x => by split <;> simp) _ s,
    State.foldl_frame (·.pages) _ (fun s x => by split <;> simp) _ s,
    State.foldl_frame (·.power) _ (fun s x => by split <;> simp) _ s,
    State.foldl_frame (·.windows) _ (fun s x => by split <;> simp) _ s⟩

/-- A reset that finds no live page cancels none. -/
theorem cancelAll_of_no_pages (s : State) (none : s.pages = Vector.replicate 16 none) : s.cancelAll = s := by
  have kept (i : Fin 16) : s.cancelPage .reset i = s := by
    simp [State.cancelPage, State.page, none]
  unfold State.cancelAll
  induction List.finRange 16 with
  | nil => rfl
  | cons i rest ih => rw [List.foldl_cons, kept, ih]

theorem beginReset_of_no_pages (s : State) (kind : ResetKind) (none : s.pages = Vector.replicate 16 none)
    (run : s.power = .run) :
    s.beginReset kind = ((s.recordReset kind).abortEntry .reset).dropTraffic.stopScrub := by
  unfold State.beginReset
  rw [cancelAll_of_no_pages]
  simp [State.abortEntry, run, none]

/-- What POWER_ON has set up before a LINKRST found asserted begins its reset. -/
def poweredUp (s : State) : State :=
  ({ s.unpowered with powered := true }.loadSettings.note (.reset .powerOn)).restore.settleLines

theorem poweredUp_frame (s : State) :
    (poweredUp s).pins = s.pins ∧ (poweredUp s).nv = s.nv ∧ (poweredUp s).pages = Vector.replicate 16 none
      ∧ (poweredUp s).power = .run ∧ (poweredUp s).windows = Vector.replicate 16 {} := by
  simp [poweredUp, State.unpowered, State.blank]

/-- POWER_ON sets the part up without a page or a window, and a LINK_RESET that it begins finds none. -/
theorem powerUp_frame (s : State) :
    s.powerUp.pins = s.pins ∧ s.powerUp.nv = s.nv ∧ s.powerUp.windows = Vector.replicate 16 {} := by
  obtain ⟨pins, nv, pages, power, windows⟩ := poweredUp_frame s
  have shape : s.powerUp = if (poweredUp s).pins.linkrst then (poweredUp s).beginReset .linkReset else poweredUp s := rfl
  rw [shape]
  split
  · rw [beginReset_of_no_pages _ _ pages power]
    simp [pins, nv, windows]
  · exact ⟨pins, nv, windows⟩

/-- All that the store and the pins do not hold may change. -/
theorem keeps_store_of_eq {s t : State} (pins : t.pins = s.pins) (nv : t.nv = s.nv) :
    Touched.Keeps
      { windows := true, keys := true, pages := true, accounts := true, meter := true, slots := true, gauges := true,
        settings := true, commits := true, writes := true, reads := true, flushes := true, scrub := true, errors := true,
        held := true } s t := by
  constructor <;> simp [pins, nv]

theorem endWake_keeps (resetFirst : Bool) (s : State) :
    Touched.Keeps
      { windows := true, keys := true, pages := true, accounts := true, meter := true, slots := true, gauges := true,
        settings := true, store := true, commits := true, writes := true, reads := true, flushes := true, scrub := true,
        errors := true, held := true, root := true } s (s.endWake resetFirst) := by
  constructor <;> simp [endWake_pins]

/-! ## The blocks that each command keeps -/

/-- A management command runs as an event that receives its frame, and judges it by its own rule. -/
theorem exec_of_commandCode {c : Instr} {n : Nat} (code : commandCode c = some n) (s : State) :
    ∃ f, exec c s = .next (event (receive c f (judge c)) s) := by
  cases c <;> cases code <;> exact ⟨_, rfl⟩

theorem touchedBy_held_of_commandCode {c : Instr} {n : Nat} (code : commandCode c = some n) :
    (touchedBy c).held = true := by
  cases c <;> cases code <;> rfl

theorem unknownFrame_keeps (f : Frame) (code : Byte) (s : State) :
    Touched.Keeps { held := true } s (s.unknownFrame f code) := by
  unfold State.unknownFrame
  split
  · constructor <;> simp
  · split
    · exact .refl _ s
    · exact receive_keeps rfl (judgeUnknown_keeps code) _ f s

section

variable {b : Touched} (pins : b.pins = true)
include pins

theorem setPresenceLine_keeps (s : State) (k : Colour) (level : Bool) : b.Keeps s (s.setPresenceLine k level) := by
  constructor <;> simp [pins]

theorem setPfail_keeps (s : State) (level : Bool) : b.Keeps s (s.setPfail level) := by
  constructor <;> simp [pins]

theorem setLinkrst_keeps (s : State) (level : Bool) : b.Keeps s (s.setLinkrst level) := by
  constructor <;> simp [pins]

end

/-- An event that follows a change of a pin's level may change the pins besides what its body changes. -/
theorem event_keeps_after_pins {b : Touched} {body : State → State} (h : ∀ x, b.Keeps x (body x)) {s u : State}
    (level : Touched.Keeps { b with pins := true } s u) : Touched.Keeps { b with pins := true } s (event body u) :=
  level.trans (event_keeps (b := { b with pins := true }) (fun x => { h x with pins := fun e => nomatch e }) u)

/-- The end of an event queues notices alone. -/
theorem closeEvent_keeps {b : Touched} {s t : State} (h : b.Keeps s t) : b.Keeps s (closeEvent t) := { h with }

theorem powerUp_keeps (s : State) :
    Touched.Keeps
      { windows := true, keys := true, pages := true, accounts := true, meter := true, slots := true, gauges := true,
        settings := true, commits := true, writes := true, reads := true, flushes := true, scrub := true, errors := true,
        held := true } s s.powerUp := by
  obtain ⟨pins, nv, -⟩ := powerUp_frame s
  exact keeps_store_of_eq pins nv

/-- A command that is judged by no rule of its own keeps every block that it does not touch. -/
theorem exec_keeps_of_no_code {c : Instr} (code : commandCode c = none) (s : State) :
    ∃ t, exec c s = .next t ∧ (touchedBy c).Keeps s t := by
  cases c with
  | read r => exact ⟨_, rfl, event_keeps (intake_keeps rfl (fun src => (serveRead_keeps r src)) .read r) s⟩
  | write r beats => exact ⟨_, rfl, event_keeps (intake_keeps rfl (serveWrite_keeps r beats) .write r) s⟩
  | flush r => exact ⟨_, rfl, event_keeps (intake_keeps rfl (serveFlush_keeps r) .flush r) s⟩
  | memoryGrant => exact ⟨_, rfl, event_keeps grantNext_keeps s⟩
  | memoryResponse t error beats => exact ⟨_, rfl, event_keeps (memoryResponse_keeps t error beats) s⟩
  | memoryTimeout t => exact ⟨_, rfl, event_keeps (memoryTimeout_keeps t) s⟩
  | tidQuarantineEnd t => exact ⟨_, rfl, event_keeps (quarantineEnd_keeps t) s⟩
  | heldReadRelease age => exact ⟨_, rfl, event_keeps (releaseHeld_keeps age) s⟩
  | flushComplete id => exact ⟨_, rfl, event_keeps (completeFlush_keeps id) s⟩
  | beatDelivery age => exact ⟨_, rfl, event_keeps (deliverBeat_keeps age) s⟩
  | discardTimerExpiry i => exact ⟨_, rfl, event_keeps (discardExpiry_keeps i) s⟩
  | windowDrainEnd i => exact ⟨_, rfl, event_keeps (endDrainIfDone_keeps i) s⟩
  | commitEnd verified => exact ⟨_, rfl, event_keeps (commitEnd_keeps verified) s⟩
  | commitTimeout => exact ⟨_, rfl, event_keeps commitFailed_keeps s⟩
  | presenceAssert k =>
    exact ⟨_, rfl, event_keeps_after_pins (lineRises_keeps k) (setPresenceLine_keeps rfl s k true)⟩
  | presenceDeassert k =>
    exact ⟨_, rfl, event_keeps_after_pins (lineDrops_keeps k) (setPresenceLine_keeps rfl s k false)⟩
  | settlingExpiry k => exact ⟨_, rfl, event_keeps (settled_keeps k) s⟩
  | cartRequestSent k =>
    exact ⟨_, rfl, event_keeps (b := { slots := true }) (fun x => by split <;> constructor <;> simp) s⟩
  | cartRequestRefused k =>
    exact ⟨_, rfl, event_keeps (fun x => by split; exacts [failAttempt_keeps k x, .refl _ x]) s⟩
  | replyWindowExpiry k =>
    exact ⟨_, rfl, event_keeps (fun x => by split; exacts [failAttempt_keeps k x, .refl _ x]) s⟩
  | attemptGapExpiry k =>
    exact ⟨_, rfl, event_keeps (b := { slots := true }) (fun x => by split <;> constructor <;> simp) s⟩
  | helloReply k bytes => exact ⟨_, rfl, event_keeps (takeReply_keeps k bytes) s⟩
  | proveReply k bytes => exact ⟨_, rfl, event_keeps (takeReply_keeps k bytes) s⟩
  | debitReply k bytes => exact ⟨_, rfl, event_keeps (takeReply_keeps k bytes) s⟩
  | scrubJobAssign first => exact ⟨_, rfl, event_keeps (assignOldest_keeps first) s⟩
  | chunkLock c => exact ⟨_, rfl, event_keeps (lockChunk_keeps c) s⟩
  | unknownCommand f n => exact ⟨_, rfl, event_keeps (unknownFrame_keeps f n) s⟩
  | pfailAssert =>
    exact ⟨_, rfl, event_keeps_after_pins (b := { store := true, commits := true })
      (fun x => by split <;> constructor <;> simp) (setPfail_keeps rfl s true)⟩
  | pfailDeassert => exact ⟨_, rfl, event_keeps_after_pins (b := {}) (.refl _) (setPfail_keeps rfl s false)⟩
  | linkReset =>
    exact ⟨_, rfl, event_keeps_after_pins (b := { touchedBy .linkReset with pins := false })
      (fun x => by split; exacts [.refl _ x, linkAsserted_keeps x]) (setLinkrst_keeps rfl s true)⟩
  | resetWindowsFreed => exact ⟨_, rfl, event_keeps resetWindows_keeps s⟩
  | linkrstDeassert => exact ⟨_, rfl, event_keeps_after_pins (b := {}) (.refl _) (setLinkrst_keeps rfl s false)⟩
  | resetComplete => exact ⟨_, rfl, event_keeps completeReset_keeps s⟩
  | powerOn => exact ⟨_, rfl, closeEvent_keeps (powerUp_keeps s)⟩
  | sleepEntered => exact ⟨_, rfl, event_keeps (fun x => by split; exacts [fallAsleep_keeps x, .refl _ x]) s⟩
  | wakeEnd resetFirst => exact ⟨_, rfl, event_keeps (endWake_keeps resetFirst) s⟩
  | powerLoss => exact ⟨_, rfl, keeps_store_of_eq rfl rfl⟩
  | _ => cases code

/-- A command keeps every block that it does not touch. -/
theorem exec_keeps {c : Instr} {s t : State} (run : exec c s = .next t) : (touchedBy c).Keeps s t := by
  cases code : commandCode c with
  | none =>
    obtain ⟨u, run', kept⟩ := exec_keeps_of_no_code code s
    cases run'.symm.trans run
    exact kept
  | some n =>
    obtain ⟨f, run'⟩ := exec_of_commandCode code s
    cases run'.symm.trans run
    exact event_keeps (receive_keeps (touchedBy_held_of_commandCode code) (judge_keeps c) c f) s

theorem touchedBy_held {c : Instr} (code : commandCode c = none) (unknown : ∀ f n, c ≠ .unknownCommand f n)
    (wake : ∀ b, c ≠ .wakeEnd b) (on : c ≠ .powerOn) (loss : c ≠ .powerLoss) : (touchedBy c).held = false := by
  cases c with
  | unknownCommand f n => exact absurd rfl (unknown f n)
  | wakeEnd b => exact absurd rfl (wake b)
  | powerOn => exact absurd rfl on
  | powerLoss => exact absurd rfl loss
  | _ => cases code <;> rfl

theorem touchedBy_root {c : Instr} (provision : ∀ f k n o, c ≠ .provision f k n o) (lock : ∀ f o, c ≠ .lock f o)
    (wake : ∀ b, c ≠ .wakeEnd b) : (touchedBy c).root = false := by
  cases c with
  | provision f k n o => exact absurd rfl (provision f k n o)
  | lock f o => exact absurd rfl (lock f o)
  | wakeEnd b => exact absurd rfl (wake b)
  | _ => rfl

/-- Settles O3: what each command may change, block by block, from the blocks that its event keeps. -/
theorem commandsKeepToTheirBlocks : Obligations.CommandsKeepToTheirBlocks := by
  intro c s t run
  have kept := exec_keeps run
  exact ⟨kept.windows, kept.keys, kept.pages, kept.accounts, kept.meter, kept.slots, kept.gauges, kept.settings,
    kept.store, kept.commits, kept.writes, kept.reads, kept.flushes, kept.scrub, kept.errors, kept.pins,
    fun code unknown wake on loss => kept.held (touchedBy_held code unknown wake on loss),
    fun provision lock wake => kept.root (touchedBy_root provision lock wake)⟩

/-! ## Operations that open no window -/

/-- A window that is not FREE was not FREE before, and has the ranges it had. -/
def keepsRange (w w' : Window) : Prop :=
  w'.live = true → w.live = true ∧ w'.sysBase = w.sysBase ∧ w'.memBase = w.memBase ∧ w'.sizeCode = w.sizeCode

/-- No window has left FREE, and none that is not FREE has another range. -/
def opensNothing (v v' : Vector Window 16) : Prop := ∀ i : WindowIdx, keepsRange v[i] v'[i]

@[simp] theorem keepsRange_refl (w : Window) : keepsRange w w := fun live => ⟨live, rfl, rfl, rfl⟩

@[simp] theorem opensNothing_refl (v : Vector Window 16) : opensNothing v v := fun i => keepsRange_refl v[i]

theorem opensNothing_trans {u v w : Vector Window 16} (h : opensNothing u v) (k : opensNothing v w) :
    opensNothing u w := by
  intro i live
  obtain ⟨live, sys, mem, size⟩ := k i live
  obtain ⟨live', sys', mem', size'⟩ := h i live
  exact ⟨live', sys.trans sys', mem.trans mem', size.trans size'⟩

/-- A window replaced by one that keeps its range. -/
theorem opensNothing_setWindow (s : State) (i : WindowIdx) {w : Window} (h : keepsRange (s.window i) w) :
    opensNothing s.windows (s.setWindow i w).windows := by
  intro j
  by_cases same : i = j
  · subst same
    simpa [State.setWindow, State.window] using h
  · have differ : i.val ≠ j.val := fun e => same (Fin.ext e)
    simp [State.setWindow, differ]

/-- A table without a window that is not FREE. -/
theorem opensNothing_of_free {v v' : Vector Window 16} (free : ∀ i : WindowIdx, v'[i].live = false) :
    opensNothing v v' := by
  exact fun i live => absurd live (by simpa using free i)

@[simp] theorem freed_live (w : Window) : w.freed.live = false := rfl

@[simp] theorem freeWindow_opensNothing (s : State) (i : WindowIdx) (b : Bool) :
    opensNothing s.windows (s.freeWindow i b).windows :=
  opensNothing_setWindow s i (fun live => by simp at live)

@[simp] theorem raiseLive_opensNothing (s : State) (i : WindowIdx) : opensNothing s.windows (s.raiseLive i).windows :=
  opensNothing_setWindow s i (keepsRange_refl _)

@[simp] theorem lowerLive_opensNothing (s : State) (i : WindowIdx) : opensNothing s.windows (s.lowerLive i).windows :=
  opensNothing_setWindow s i (keepsRange_refl _)

@[simp] theorem settleSpare_opensNothing (s : State) (i : WindowIdx) :
    opensNothing s.windows (s.settleSpare i).windows := by
  unfold State.settleSpare
  split
  · simp
  · exact opensNothing_setWindow s i (keepsRange_refl _)

/-- A page's end changes of the windows its own window's live-page count alone. -/
theorem endCharged_windows (s : State) (i : Fin 16) (p : Page) (c : Option CancelCause) :
    (s.endCharged i p c).windows = (s.lowerLive p.window.index).windows := by
  unfold State.endCharged
  simp [State.lowerLive, State.setWindow, State.window]

theorem endCharged_opensNothing {v : Vector Window 16} {s : State} (same : s.windows = v) (i : Fin 16) (p : Page)
    (c : Option CancelCause) : opensNothing v (s.endCharged i p c).windows := by
  rw [endCharged_windows, ← same]
  exact lowerLive_opensNothing s p.window.index

theorem endUncharged_windows (s : State) (i : Fin 16) (p : Page) (c : CancelCause) :
    (s.endUncharged i p c).windows = (s.lowerLive p.window.index).windows := rfl

@[simp] theorem cancelPage_opensNothing (s : State) (c : CancelCause) (i : Fin 16) :
    opensNothing s.windows (s.cancelPage c i).windows := by
  unfold State.cancelPage
  (repeat' split) <;> simp [endCharged_windows, endUncharged_windows]

@[simp] theorem cancelAll_opensNothing (s : State) : opensNothing s.windows s.cancelAll.windows := by
  unfold State.cancelAll
  induction List.finRange 16 generalizing s with
  | nil => exact opensNothing_refl _
  | cons i rest ih => exact opensNothing_trans (cancelPage_opensNothing s .reset i) (ih _)

@[simp] theorem countBeat_opensNothing (s : State) (ref : Option PlaneRef) (offset : Nat) (first : Bool) (b : Beat) :
    opensNothing s.windows (s.countBeat ref offset first b).windows := by
  unfold State.countBeat
  split
  · simp
  · split
    · simp
    · split
      · simp
      · dsimp only
        split <;> split
        · exact endCharged_opensNothing (State.setPage_windows s _ _) _ _ none
        · simp
        · exact endCharged_opensNothing (State.setPage_windows s _ _) _ _ none
        · simp

@[simp] theorem sendBeat_opensNothing (s : State) (d : Delivery) : opensNothing s.windows (s.sendBeat d).windows :=
  countBeat_opensNothing (s.emit _) _ _ _ _

@[simp] theorem deliverTracked_opensNothing (s : State) (e : TrackerEntry) (beats : List Beat) :
    opensNothing s.windows (s.deliverTracked e beats).windows := by
  unfold State.deliverTracked
  dsimp only
  split <;> simp

@[simp] theorem deliverHit_opensNothing (s : State) (h : Hit) : opensNothing s.windows (s.deliverHit h).windows := by
  unfold State.deliverHit
  dsimp only
  split <;> simp

theorem deliverBeat_opensNothing (s : State) (age : Nat) : opensNothing s.windows (s.deliverBeat age).windows := by
  unfold State.deliverBeat
  (repeat' split) <;> simp

/-- The end of a live window's drain. -/
theorem endDrain_opensNothing (s : State) (i : WindowIdx) (live : (s.window i).live = true) :
    opensNothing s.windows (s.endDrain i).windows := by
  unfold State.endDrain
  dsimp only
  split
  · simp
  · split
    · exact freeWindow_opensNothing (s.destroyKeys i) i false
    · exact opensNothing_setWindow s i (fun _ => ⟨live, rfl, rfl, rfl⟩)

@[simp] theorem endDrainIfDone_opensNothing (s : State) (i : WindowIdx) :
    opensNothing s.windows (s.endDrainIfDone i).windows := by
  unfold State.endDrainIfDone
  split
  · next done => exact endDrain_opensNothing s i (by simp [Window.live, done.1])
  · simp

theorem retire_opensNothing (s : State) (i : WindowIdx) (passes : List Pattern) (live : (s.window i).live = true) :
    opensNothing s.windows (s.retire i passes).windows := by
  unfold State.retire
  refine opensNothing_trans ?_ (endDrainIfDone_opensNothing _ i)
  simpa using opensNothing_setWindow s i (w := { s.window i with state := .retiring .draining, passes := passes })
    (fun _ => ⟨live, rfl, rfl, rfl⟩)

@[simp] theorem assignJob_opensNothing (s : State) (c : ChannelId) (j : Job) :
    opensNothing s.windows (s.assignJob c j).windows := by
  unfold State.assignJob
  split <;> simp

theorem assignOldest_opensNothing (s : State) (first : ChannelId) :
    opensNothing s.windows (s.assignOldest first).windows := by
  unfold State.assignOldest
  split
  · split
    · exact assignJob_opensNothing _ _ _
    · simp
  · simp

@[simp] theorem endRekeyJob_opensNothing (s : State) (c : ChannelId) (i : WindowIdx) :
    opensNothing s.windows (s.endRekeyJob c i).windows := by
  unfold State.endRekeyJob
  simpa using opensNothing_setWindow (s.moveKey i) i (w := { s.window i with cursor := 0 }) (keepsRange_refl _)

@[simp] theorem eraseWritten_opensNothing (s : State) (c : ChannelId) (i : WindowIdx) (passes : List Pattern) :
    opensNothing s.windows (s.eraseWritten c i passes).windows := by
  unfold State.eraseWritten
  dsimp only
  (repeat' split) <;> simp

@[simp] theorem rekeyWritten_opensNothing (s : State) (c : ChannelId) (i : WindowIdx) :
    opensNothing s.windows (s.rekeyWritten c i).windows := by
  have advanced := opensNothing_setWindow s i (w := { s.window i with cursor := (s.window i).cursor + 256 })
    (keepsRange_refl _)
  unfold State.rekeyWritten
  dsimp only
  split
  · simpa using advanced
  · exact opensNothing_trans advanced (endRekeyJob_opensNothing (State.setChan _ c _) c i)

@[simp] theorem scrubDone_opensNothing (s : State) (c : ChannelId) (data : List Beat) :
    opensNothing s.windows (s.scrubDone c data).windows := by
  unfold State.scrubDone
  dsimp only
  (repeat' split) <;> simp

@[simp] theorem requestDone_opensNothing (s : State) (r : MemRequest) (data : List Beat) :
    opensNothing s.windows (s.requestDone r data).windows := by
  unfold State.requestDone
  (repeat' split) <;> simp

theorem memoryResponse_opensNothing (s : State) (t : MemTid) (error : Bool) (beats : Vector MemBeat 8) :
    opensNothing s.windows (s.memoryResponse t error beats).windows := by
  unfold State.memoryResponse
  dsimp only
  split
  · simp
  · simp
  · split
    · exact requestDone_opensNothing (s.setMemTid t .free) _ _
    · simp

@[simp] theorem abandon_opensNothing (s : State) (c : ChannelId) (j : Job) :
    opensNothing s.windows (s.abandon c j).windows := by
  unfold State.abandon
  split <;> simp

theorem countScan_opensNothing (s : State) (src : Source) (i : WindowIdx) (offset : Nat) (beats : List QueuedBeat) :
    opensNothing s.windows (s.countScan src i offset beats).windows := by
  unfold State.countScan
  dsimp only
  split
  · split
    · split
      · simp
      · next k _ _ =>
        exact opensNothing_setWindow s i
          (w := { s.window i with counted := (s.window i).counted ||| BitVec.twoPow 64 k }) (keepsRange_refl _)
    · simp
  · simp

@[simp] theorem acceptWrite_opensNothing (s : State) (src : Source) (r : PageRequest) (a : WriteAccess) (p : Place)
    (received : List WriteBeat) : opensNothing s.windows (s.acceptWrite src r a p received).windows := by
  have counted (x : State) (same : x.windows = s.windows) (i : WindowIdx) (offset : Nat) (beats : List QueuedBeat) :
      opensNothing s.windows (x.countScan src i offset beats).windows :=
    same ▸ countScan_opensNothing x src i offset beats
  unfold State.acceptWrite
  dsimp only
  cases p.window with
  | none => dsimp only; split <;> simp
  | some w => simpa using counted _ (by split <;> simp) w.index p.offset _

theorem serveWrite_opensNothing (s : State) (r : PageRequest) (beats : Vector WriteBeat 8) (src : Source) :
    opensNothing s.windows (s.serveWrite r beats src).windows := by
  unfold State.serveWrite State.takeWrite
  dsimp only
  (repeat' split) <;> simp

@[simp] theorem beginReset_opensNothing (s : State) (kind : ResetKind) :
    opensNothing s.windows (s.beginReset kind).windows := by
  unfold State.beginReset
  simpa using cancelAll_opensNothing (((s.recordReset kind).abortEntry .reset).dropTraffic)

theorem linkAsserted_opensNothing (s : State) : opensNothing s.windows s.linkAsserted.windows := by
  unfold State.linkAsserted
  (repeat' split) <;> simp

@[simp] theorem beginWakeReset_opensNothing (s : State) : opensNothing s.windows s.beginWakeReset.windows := by
  unfold State.beginWakeReset
  dsimp only
  (repeat' split)
  · simp
  · exact beginReset_opensNothing { s with wakeReset := false } .linkReset
  · simp

theorem freeAllWindows_opensNothing (s : State) : opensNothing s.windows s.freeAllWindows.windows :=
  opensNothing_of_free (fun i => by simp [State.freeAllWindows, mapVec])

theorem resetWindows_opensNothing (s : State) : opensNothing s.windows s.resetWindows.windows := by
  unfold State.resetWindows
  split
  · split
    · exact freeAllWindows_opensNothing s
    · simp
  · simp

/-! ## The judgements and the commands that open no window -/

section

variable {v : Vector Window 16}

@[simp] theorem answer_opensNothing (s : State) (code : Nat) (st : Status) (d : RespData) :
    opensNothing v (s.answer code st d).windows ↔ opensNothing v s.windows := Iff.rfl

@[simp] theorem answerStatus_opensNothing (s : State) (code : Nat) (st : Status) :
    opensNothing v (s.answerStatus code st).windows ↔ opensNothing v s.windows := Iff.rfl

theorem opensNothing_of_eq {s : State} {w : Vector Window 16} (same : s.windows = v) (h : opensNothing s.windows w) :
    opensNothing v w := same ▸ h

end

/-- An event changes of the windows what its body changes. -/
theorem event_opensNothing {body : State → State} (h : ∀ x, opensNothing x.windows (body x).windows) (s : State) :
    opensNothing s.windows (event body s).windows := by
  unfold event
  split
  · exact h (openEvent s)
  · exact opensNothing_refl _

theorem judged_opensNothing {body : State → State} (h : ∀ x, opensNothing x.windows (body x).windows) (code : Nat)
    (f : Frame) (inReset : Bool) (s : State) : opensNothing s.windows (judged code f inReset body s).windows := by
  unfold judged
  split
  · simp
  · split
    · simp
    · exact h s

theorem live_of_not_free {w : Window} (h : w.state = .free → False) : w.live = true := by
  simpa [Window.live] using h

theorem judgeWindowPolicy_opensNothing (f : Frame) (index : Byte) (owner : JobTag) (m : ModeBytes) (s : State) :
    opensNothing s.windows (judgeWindowPolicy f index owner m s).windows := by
  refine judged_opensNothing (fun s => ?_) _ f _ s
  split
  · split
    · simp
    · simp
    · exact opensNothing_setWindow s _ (keepsRange_refl _)
  · simp

theorem judgeWindowSeal_opensNothing (f : Frame) (index : Byte) (s : State) :
    opensNothing s.windows (judgeWindowSeal f index s).windows := by
  refine judged_opensNothing (fun s => ?_) _ f _ s
  split
  · simp
  · split
    · simp
    · simp
    · next notFree _ => exact opensNothing_setWindow s _ (fun _ => ⟨live_of_not_free notFree, rfl, rfl, rfl⟩)

theorem judgeWindowRetire_opensNothing (f : Frame) (index n p q r : Byte) (s : State) :
    opensNothing s.windows (judgeWindowRetire f index n p q r s).windows := by
  refine judged_opensNothing (fun s => ?_) _ f _ s
  split
  · split
    · simp
    · simp
    · next notFree _ =>
      split
      · simp
      · exact (answerStatus_opensNothing _ _ _).mpr (retire_opensNothing s _ _ (live_of_not_free notFree))
  · simp

theorem judgePageOpen_opensNothing (f : Frame) (a : PageOpenArgs) (s : State) :
    opensNothing s.windows (judgePageOpen f a s).windows := by
  refine judged_opensNothing (fun s => ?_) _ f _ s
  split
  · simp
  · unfold State.openPage
    split
    · simp
    · split
      · simp
      · split
        · simp
        · dsimp only
          split
          · simp only [answer_opensNothing]
            exact opensNothing_of_eq (by simp) (raiseLive_opensNothing _ _)
          · simp

theorem judgePageCancel_opensNothing (f : Frame) (n : BitVec 32) (s : State) :
    opensNothing s.windows (judgePageCancel f n s).windows := by
  refine judged_opensNothing (fun s => ?_) _ f _ s
  split <;> simp

theorem judgeScrubAbandon_opensNothing (f : Frame) (c : Byte) (s : State) :
    opensNothing s.windows (judgeScrubAbandon f c s).windows := by
  refine judged_opensNothing (fun s => ?_) _ f _ s
  (repeat' split) <;> simp

theorem judgeReset_opensNothing (f : Frame) (s : State) : opensNothing s.windows (judgeReset f s).windows :=
  judged_opensNothing (fun s => beginReset_opensNothing (s.answerStatus 0x79 .ok) .command) _ f _ s

/-- No judgement but that of WINDOW_OPEN opens a window. -/
theorem judge_opensNothing {c : Instr} (notOpen : ∀ f a, c ≠ .windowOpen f a) (s : State) :
    opensNothing s.windows (judge c s).windows := by
  cases touches : touchesWindows c with
  | false => rw [(judge_keeps c s).windows touches]; exact opensNothing_refl _
  | true =>
    cases c with
    | windowOpen f a => exact absurd rfl (notOpen f a)
    | windowPolicy f i o m => exact judgeWindowPolicy_opensNothing f i o m s
    | windowSeal f i => exact judgeWindowSeal_opensNothing f i s
    | windowRetire f i n p q r => exact judgeWindowRetire_opensNothing f i n p q r s
    | pageOpen f a => exact judgePageOpen_opensNothing f a s
    | pageCancel f n => exact judgePageCancel_opensNothing f n s
    | scrubAbandon f c => exact judgeScrubAbandon_opensNothing f c s
    | reset f => exact judgeReset_opensNothing f s
    | write | memoryResponse | beatDelivery | windowDrainEnd | scrubJobAssign | linkReset | resetWindowsFreed | powerOn
    | wakeEnd | powerLoss => exact opensNothing_refl _
    | _ => cases touches

/-! ## Windows that lie apart -/

theorem overlaps_comm (a n b m : Nat) : overlaps a n b m = overlaps b m a n := by
  simp [overlaps, Bool.and_comm]

/-- Windows stay apart where none is opened. -/
theorem windowsApart_of_opensNothing {s t : State} (apart : s.windowsApart) (h : opensNothing s.windows t.windows) :
    t.windowsApart := by
  intro i j differ live live'
  obtain ⟨live, sys, mem, size⟩ := h i live
  obtain ⟨live', sys', mem', size'⟩ := h j live'
  change overlaps (t.windows[i]).sysBase.toNat (t.windows[i]).size (t.windows[j]).sysBase.toNat (t.windows[j]).size = false
    ∧ overlaps (t.windows[i]).memBase.toNat (t.windows[i]).size (t.windows[j]).memBase.toNat (t.windows[j]).size = false
  rw [Window.size, Window.size, sys, mem, size, sys', mem', size']
  exact apart i j differ live live'

/-- A window is opened where it shares no byte with a window that is not FREE. -/
theorem windowsApart_setWindow {s : State} (apart : s.windowsApart) (i : WindowIdx) (w : Window)
    (clear : ∀ j, (s.window j).live = true →
      overlaps w.sysBase.toNat w.size (s.window j).sysBase.toNat (s.window j).size = false
        ∧ overlaps w.memBase.toNat w.size (s.window j).memBase.toNat (s.window j).size = false) :
    (s.setWindow i w).windowsApart := by
  intro j k differ live live'
  by_cases opened : i = j
  · subst opened
    rw [State.window_setWindow_ne s w differ] at live' ⊢
    rw [State.window_setWindow]
    exact clear k live'
  · rw [State.window_setWindow_ne s w opened] at live ⊢
    by_cases opened' : i = k
    · subst opened'
      rw [State.window_setWindow, overlaps_comm, overlaps_comm (s.window j).memBase.toNat]
      exact clear j live
    · rw [State.window_setWindow_ne s w opened'] at live' ⊢
      exact apart j k differ live live'

theorem rangeTaken_eq_false {s : State} {o : OpenWindow} (h : s.rangeTaken o = false) (j : WindowIdx)
    (live : (s.window j).live = true) :
    overlaps o.sysBase.toNat (sizeOfCode o.sizeCode) (s.window j).sysBase.toNat (s.window j).size = false
      ∧ overlaps o.memBase.toNat (sizeOfCode o.sizeCode) (s.window j).memBase.toNat (s.window j).size = false := by
  simpa [live] using List.any_eq_false.mp h j (List.mem_finRange j)

/-- The windows stay apart in an event whose body keeps them so. -/
theorem event_keeps_apart {body : State → State} (h : ∀ x : State, x.windowsApart → (body x).windowsApart) {s : State}
    (apart : s.windowsApart) : (event body s).windowsApart := by
  unfold event
  split
  · exact h (openEvent s) apart
  · exact apart

theorem receive_keeps_apart {body : State → State} (h : ∀ x : State, x.windowsApart → (body x).windowsApart)
    (cmd : Instr) (f : Frame) {s : State} (apart : s.windowsApart) : (receive cmd f body s).windowsApart := by
  rcases receive_cases cmd f body s with ⟨-, e⟩ | ⟨-, -, e⟩ | ⟨-, -, -, -, e⟩ | ⟨-, -, -, -, e⟩ <;> rw [e]
  · exact windowsApart_of_opensNothing apart (by simp)
  · exact apart
  · exact apart
  · exact h (s.sendHeld f) apart

theorem closeEvent_keeps_apart {s : State} (apart : s.windowsApart) : (closeEvent s).windowsApart := apart

theorem judgeWindowOpen_keeps_apart (f : Frame) (a : WindowOpenArgs) {s : State} (apart : s.windowsApart) :
    (judgeWindowOpen f a s).windowsApart := by
  unfold judgeWindowOpen judged
  dsimp only
  (repeat' split)
  case isFalse clear =>
    exact windowsApart_setWindow (s := s.drawKey _) apart _ _ (rangeTaken_eq_false (s := s) (by simpa using clear))
  all_goals exact apart

theorem judge_keeps_apart (c : Instr) {s : State} (apart : s.windowsApart) : (judge c s).windowsApart := by
  by_cases opens : ∃ f a, c = .windowOpen f a
  · obtain ⟨f, a, rfl⟩ := opens
    exact judgeWindowOpen_keeps_apart f a apart
  · exact windowsApart_of_opensNothing apart (judge_opensNothing (fun f a e => opens ⟨f, a, e⟩) s)

theorem judgeAwaiting_keeps_apart {s : State} (apart : s.windowsApart) : s.judgeAwaiting.windowsApart := by
  unfold State.judgeAwaiting
  split
  · exact judge_keeps_apart _ apart
  · exact apart

theorem beginWakeReset_keeps_apart {s : State} (apart : s.windowsApart) : s.beginWakeReset.windowsApart :=
  windowsApart_of_opensNothing apart (beginWakeReset_opensNothing s)

theorem endWake_keeps_apart (resetFirst : Bool) {s : State} (apart : s.windowsApart) :
    (s.endWake resetFirst).windowsApart := by
  unfold State.endWake
  have reprobed : (closeEvent ({ s with power := .run }.reprobeAll .wake)).windowsApart :=
    windowsApart_of_opensNothing apart (by simp [closeEvent])
  split
  · dsimp only
    split
    · exact judgeAwaiting_keeps_apart (closeEvent_keeps_apart (beginWakeReset_keeps_apart reprobed))
    · exact beginWakeReset_keeps_apart (closeEvent_keeps_apart (judgeAwaiting_keeps_apart reprobed))
  · exact apart

theorem intake_opensNothing {serve : Source → State → State}
    (h : ∀ src x, opensNothing x.windows (serve src x).windows) (kind : ReqKind) (r : PageRequest) (s : State) :
    opensNothing s.windows (s.intake kind r serve).windows := by
  unfold State.intake
  (repeat' split)
  case h_2 => exact h _ s
  all_goals simp

theorem powerUp_opensNothing (s : State) (v : Vector Window 16) : opensNothing v s.powerUp.windows := by
  rw [(powerUp_frame s).2.2]
  exact opensNothing_of_free (fun i => by simp [Window.live])

theorem exec_unique {c : Instr} {s t u : State} (run : exec c s = .next t) (run' : exec c s = .next u) : t = u := by
  rw [run] at run'
  cases run'
  rfl

theorem exec_powerOn (s : State) : exec .powerOn s = .next (closeEvent s.powerUp) := rfl

theorem closeEvent_windows (s : State) : (closeEvent s).windows = s.windows := rfl

/-- No event opens a window. -/
theorem exec_opensNothing {c : Instr} {s t : State} (code : commandCode c = none) (notWake : ∀ b, c ≠ .wakeEnd b)
    (run : exec c s = .next t) : opensNothing s.windows t.windows := by
  cases touches : touchesWindows c with
  | false => rw [(exec_keeps run).windows touches]; exact opensNothing_refl _
  | true =>
    cases c with
    | write r beats =>
      cases run
      exact event_opensNothing (intake_opensNothing (fun src x => serveWrite_opensNothing x r beats src) .write r) s
    | memoryResponse tid error beats =>
      cases run
      exact event_opensNothing (fun x => memoryResponse_opensNothing x tid error beats) s
    | beatDelivery age => cases run; exact event_opensNothing (fun x => deliverBeat_opensNothing x age) s
    | windowDrainEnd i => cases run; exact event_opensNothing (fun x => endDrainIfDone_opensNothing x i) s
    | scrubJobAssign first => cases run; exact event_opensNothing (fun x => assignOldest_opensNothing x first) s
    | linkReset =>
      cases run
      exact event_opensNothing (body := fun x => if s.pins.linkrst then x else x.linkAsserted)
        (fun x => by split; exacts [opensNothing_refl _, linkAsserted_opensNothing x]) (s.setLinkrst true)
    | resetWindowsFreed => cases run; exact event_opensNothing resetWindows_opensNothing s
    | powerOn =>
      rw [exec_unique run (exec_powerOn s), closeEvent_windows]
      exact powerUp_opensNothing s s.windows
    | powerLoss =>
      cases run
      exact opensNothing_of_free (fun i => by simp [State.unpowered, State.blank, Window.live])
    | wakeEnd b => exact absurd rfl (notWake b)
    | windowOpen | windowPolicy | windowSeal | windowRetire | pageOpen | pageCancel | scrubAbandon | reset => cases code
    | _ => cases touches

/-- Every command keeps the windows apart: WINDOW_OPEN by its own check, the end of a wake because it may judge a
WINDOW_OPEN, and every other because it opens none. -/
theorem exec_keeps_apart {c : Instr} {s t : State} (apart : s.windowsApart) (run : exec c s = .next t) :
    t.windowsApart := by
  cases code : commandCode c with
  | some n =>
    obtain ⟨f, run'⟩ := exec_of_commandCode code s
    cases run'.symm.trans run
    exact event_keeps_apart (fun _ => receive_keeps_apart (fun _ => judge_keeps_apart c) c f) apart
  | none =>
    by_cases wake : ∃ b, c = .wakeEnd b
    · obtain ⟨b, rfl⟩ := wake
      cases run
      exact event_keeps_apart (fun _ => endWake_keeps_apart b) apart
    · exact windowsApart_of_opensNothing apart (exec_opensNothing code (fun b e => wake ⟨b, e⟩) run)

/-- Settles O53: a step carries out the front command, which keeps the windows apart, or idles. -/
theorem stepKeepsWindowsApart : Obligations.StepKeepsWindowsApart := by
  intro s t apart run
  unfold step at run
  split at run
  · cases run
    exact apart
  · refine exec_keeps_apart ?_ run
    exact apart

/-! ## The root store once it is locked -/

section

variable {root : RootStore}

theorem event_root {body : State → State} (h : ∀ x : State, x.nv.root = root → (body x).nv.root = root) {s : State}
    (start : s.nv.root = root) : (event body s).nv.root = root := by
  unfold event
  split
  · exact h (openEvent s) start
  · exact start

theorem receive_root {body : State → State} (h : ∀ x : State, x.nv.root = root → (body x).nv.root = root) (cmd : Instr)
    (f : Frame) {s : State} (start : s.nv.root = root) : (receive cmd f body s).nv.root = root := by
  rcases receive_cases cmd f body s with ⟨-, e⟩ | ⟨-, -, e⟩ | ⟨-, -, -, -, e⟩ | ⟨-, -, -, -, e⟩ <;> rw [e]
  · simpa using start
  · exact start
  · exact start
  · exact h (s.sendHeld f) start

theorem judged_root {body : State → State} (h : ∀ x : State, x.nv.root = root → (body x).nv.root = root) (code : Nat)
    (f : Frame) (inReset : Bool) {s : State} (start : s.nv.root = root) :
    (judged code f inReset body s).nv.root = root := by
  unfold judged
  split
  · exact start
  · split
    · exact start
    · exact h s start

theorem closeEvent_root {s : State} (start : s.nv.root = root) : (closeEvent s).nv.root = root := start

theorem beginWakeReset_root {s : State} (start : s.nv.root = root) : s.beginWakeReset.nv.root = root := by
  simpa using start

variable (locked : root.locked = true)
include locked

theorem judgeProvision_root_of_locked (f : Frame) (k : BitVec 256) (n : Serial) (o : StoreOutcome) {s : State}
    (start : s.nv.root = root) : (judgeProvision f k n o s).nv.root = root := by
  refine judged_root (fun x start => ?_) _ f _ start
  simp only [start, locked, if_true]
  exact start

theorem judgeLock_root_of_locked (f : Frame) (o : StoreOutcome) {s : State} (start : s.nv.root = root) :
    (judgeLock f o s).nv.root = root := by
  refine judged_root (fun x start => ?_) _ f _ start
  simp only [start, locked, if_true]
  split <;> exact start

/-- No judgement changes a locked root store: PROVISION and LOCK answer LOCKED, and no other touches it. -/
theorem judge_root_of_locked (c : Instr) {s : State} (start : s.nv.root = root) : (judge c s).nv.root = root := by
  cases c with
  | provision f k n o => exact judgeProvision_root_of_locked locked f k n o start
  | lock f o => exact judgeLock_root_of_locked locked f o start
  | wakeEnd b => exact start
  | _ => exact ((judge_keeps _ s).root rfl).trans start

theorem judgeAwaiting_root_of_locked {s : State} (start : s.nv.root = root) : s.judgeAwaiting.nv.root = root := by
  unfold State.judgeAwaiting
  split
  · exact judge_root_of_locked locked _ start
  · exact start

theorem endWake_root_of_locked (resetFirst : Bool) {s : State} (start : s.nv.root = root) :
    (s.endWake resetFirst).nv.root = root := by
  unfold State.endWake
  have reprobed : (closeEvent ({ s with power := .run }.reprobeAll .wake)).nv.root = root := by
    simpa [closeEvent] using start
  split
  · dsimp only
    split
    · exact judgeAwaiting_root_of_locked locked (closeEvent_root (beginWakeReset_root reprobed))
    · exact beginWakeReset_root (closeEvent_root (judgeAwaiting_root_of_locked locked reprobed))
  · exact start

end

/-- Settles O46: PROVISION and LOCK refuse a locked part, at the end of a wake too, and no other command touches the root
store. -/
theorem lockIsPermanent : Obligations.LockIsPermanent := by
  intro c s t locked run
  cases c with
  | provision f k n o =>
    cases run
    exact event_root (fun x => receive_root (fun x => judgeProvision_root_of_locked locked f k n o) _ f) rfl
  | lock f o =>
    cases run
    exact event_root (fun x => receive_root (fun x => judgeLock_root_of_locked locked f o) _ f) rfl
  | wakeEnd b =>
    cases run
    exact event_root (fun x => endWake_root_of_locked locked b) rfl
  | _ => exact (exec_keeps run).root rfl

/-! ## The window that an address lies in -/

theorem holdsSys_iff {w : Window} {a : Addr} :
    w.holdsSys a = true ↔ w.sysBase.toNat ≤ a.toNat ∧ a.toNat < w.sysBase.toNat + w.size := by
  simp [Window.holdsSys]

/-- Two windows that hold one system address share its byte. -/
theorem overlaps_of_holdsSys {w w' : Window} {a : Addr} (h : w.holdsSys a = true) (h' : w'.holdsSys a = true) :
    overlaps w.sysBase.toNat w.size w'.sysBase.toNat w'.size = true := by
  rw [holdsSys_iff] at h h'
  simp only [overlaps, Bool.and_eq_true, decide_eq_true_eq]
  omega

theorem findWindow_holds {s : State} {a : Addr} {i : WindowIdx} (found : s.findWindow a = some i) :
    (s.window i).live = true ∧ (s.window i).holdsSys a = true := by
  simpa using List.find?_some found

/-- Settles O9: the window found holds the address, and where the windows lie apart no other does. -/
theorem oneWindowMatches : Obligations.OneWindowMatches := by
  intro s a i apart
  refine ⟨findWindow_holds, fun ⟨live, holds⟩ => ?_⟩
  cases found : s.findWindow a with
  | none => simpa [live, holds] using List.find?_eq_none.mp found i (List.mem_finRange i)
  | some j =>
    obtain ⟨live', holds'⟩ := findWindow_holds found
    by_contra other
    have differ : i ≠ j := fun e => other (by rw [e])
    simpa [overlaps_of_holdsSys holds holds'] using (apart i j differ live live').1

/-! ## The owner check -/

theorem ownerPasses_iff (w : Window) (tag : JobTag) : w.ownerPasses tag = true ↔ w.owner = 0 ∨ w.owner = tag := by
  simp [Window.ownerPasses]

/-- Settles O8: step 3 of a request, mode by mode. -/
theorem ownerCheckDecides : Obligations.OwnerCheckDecides := by
  intro w i src tag isWrite
  refine ⟨fun mode => ?_, fun cipher => ?_, fun none => ?_⟩
  · simp only [← ownerPasses_iff]
    rcases mode with readWrite | ⟨read, isRead⟩
    · simp only [Window.judgeMode, readWrite]
    · simp only [Window.judgeMode, read, isRead]
      cases w.ownerPasses tag <;> simp
  · simp only [Window.judgeMode, cipher]
  · simp only [Window.judgeMode, none]

/-! ## A command judged at once -/

/-- The state in which the command of a whole frame is judged: the held response is out. -/
def heard (s : State) (f : Frame) : State := (openEvent s).sendHeld f

section

variable (s : State) (f : Frame)

@[simp] theorem heard_pins : (heard s f).pins = s.pins := rfl
@[simp] theorem heard_nv : (heard s f).nv = s.nv := rfl
@[simp] theorem heard_window (i : WindowIdx) : (heard s f).window i = s.window i := rfl
@[simp] theorem heard_keys : (heard s f).keys = s.keys := rfl
@[simp] theorem heard_scrub : (heard s f).scrub = s.scrub := rfl
@[simp] theorem heard_page (i : Fin 16) : (heard s f).page i = s.page i := rfl
@[simp] theorem heard_findPage (n : BitVec 32) : (heard s f).findPage n = s.findPage n := rfl
@[simp] theorem heard_account (a : Fin 128) : (heard s f).account a = s.account a := rfl
@[simp] theorem heard_checkWindow (a : WindowOpenArgs) : (heard s f).checkWindow a = s.checkWindow a := rfl
@[simp] theorem heard_freeIndex : (heard s f).freeIndex = s.freeIndex := rfl
@[simp] theorem heard_rangeTaken (o : OpenWindow) : (heard s f).rangeTaken o = s.rangeTaken o := rfl
@[simp] theorem heard_hasRekey (i : WindowIdx) : (heard s f).hasRekey i = s.hasRekey i := rfl
@[simp] theorem heard_rekeyRunning (i : WindowIdx) : (heard s f).rekeyRunning i = s.rekeyRunning i := rfl
@[simp] theorem heard_spareKey (i : WindowIdx) : (heard s f).spareKey i = s.spareKey i := rfl
@[simp] theorem heard_freeSpare : (heard s f).freeSpare = s.freeSpare := rfl

/-- A command answered with data and nothing else. -/
@[simp] theorem closeEvent_answer_heard (code : Nat) (st : Status) (d : RespData) :
    closeEvent ((heard s f).answer code st d) = s.answered f (.ofNat 8 code) st d := rfl

@[simp] theorem closeEvent_answerStatus_heard (code : Nat) (st : Status) :
    closeEvent ((heard s f).answerStatus code st) = s.answered f (.ofNat 8 code) st .empty := rfl

end

/-- A whole frame has its command carried out at once, unless a reset in progress keeps it from that. -/
theorem next_judged {cmd : Instr} {f : Frame} {n code : Nat} {inReset : Bool} {body : State → State} {s t : State}
    (hs : s.judges) (hf : wholeFrame f n) (length : commandLength code = some n)
    (reset : inReset = true ∨ s.resetRec.progress = none) (h : closeEvent (body (heard s f)) = t) :
    (.next (event (receive cmd f (judged code f inReset body)) s) : Host.Outcome State Fault Refusal) = .next t := by
  have judgedNow : judged code f inReset body (heard s f) = body (heard s f) := by
    have outside : ((heard s f).resetRec.progress.isSome && !inReset) = false := by
      rcases reset with query | idle
      · simp [query]
      · simp [show (heard s f).resetRec.progress = none from idle]
    unfold judged
    rw [length, Option.getD_some, hf.fits, outside]
    rfl
  have opened : (openEvent s).judges := hs
  rw [event, if_pos hs.1, receive_judged opened hf]
  change _ = Host.Outcome.next t
  rw [← h, ← judgedNow]
  rfl

/-! ## The nonvolatile store's commands -/

/-- Settles O45: CONFIG_STORE, PROVISION and LOCK, branch by branch. -/
theorem storeIsWritten : Obligations.StoreIsWritten := by
  intro s f key serial o ⟨hs, reset⟩
  refine ⟨fun hf => ⟨fun refused => ?_, fun pfail => ?_⟩, fun hf => ⟨fun locked => ?_, fun unlocked refused => ?_,
    fun unlocked pfail => ?_⟩, fun hf => ⟨fun blank => ?_, fun provisioned locked => ?_,
    fun provisioned unlocked refused => ?_, fun provisioned unlocked pfail => ?_⟩⟩
  · refine next_judged hs hf rfl (.inr reset) ?_
    rcases refused with pfail | failed
    · simp [pfail]
    · cases o with
      | verified => exact absurd rfl failed
      | writeError | notVerified => cases pfail : s.pins.pfail <;> simp [pfail]
  · exact next_judged hs hf rfl (.inr reset) (by simp only [heard_pins, pfail]; rfl)
  · exact next_judged hs hf rfl (.inr reset) (by simp [locked])
  · refine next_judged hs hf rfl (.inr reset) ?_
    rcases refused with pfail | failed
    · simp [pfail, unlocked]
    · cases o with
      | verified => exact absurd rfl failed
      | writeError | notVerified => cases pfail : s.pins.pfail <;> simp [pfail, unlocked]
  · exact next_judged hs hf rfl (.inr reset) (by simp only [heard_pins, heard_nv, pfail, unlocked]; rfl)
  · exact next_judged hs hf rfl (.inr reset) (by simp [blank])
  · exact next_judged hs hf rfl (.inr reset) (by simp [provisioned, locked])
  · refine next_judged hs hf rfl (.inr reset) ?_
    rcases refused with pfail | failed
    · simp [pfail, provisioned, unlocked]
    · cases o with
      | verified => exact absurd rfl failed
      | writeError | notVerified => cases pfail : s.pins.pfail <;> simp [pfail, provisioned, unlocked]
  · exact next_judged hs hf rfl (.inr reset) (by simp only [heard_pins, heard_nv, pfail, provisioned, unlocked]; rfl)

/-! ## The queries -/

theorem indexOf_eq {b : Byte} {i : WindowIdx} (h : b.toNat = i.val) : indexOf b = some i := by
  simp [indexOf, h]

theorem accountOf_eq {b : Byte} {a : Fin 128} (h : b.toNat = a.val) : accountOf b = some a := by
  simp [accountOf, h]

theorem cartSlotOf_eq {b : Byte} {k : Colour} (h : b.toNat = k.val) : cartSlotOf b = some k := by
  simp [cartSlotOf, h]

/-- A whole frame whose command is answered with data, and changes nothing else. -/
theorem next_answer {cmd : Instr} {f : Frame} {n code : Nat} {inReset : Bool} {body : State → State} {s : State}
    {st : Status} {d : RespData} (hs : s.judges) (hf : wholeFrame f n) (length : commandLength code = some n)
    (reset : inReset = true ∨ s.resetRec.progress = none) (h : body (heard s f) = (heard s f).answer code st d) :
    (.next (event (receive cmd f (judged code f inReset body)) s) : Host.Outcome State Fault Refusal) =
      .next (s.answered f (.ofNat 8 code) st d) :=
  next_judged hs hf length reset (by rw [h, closeEvent_answer_heard])

section

variable {s : State} {f : Frame} (hs : s.judges)
include hs

theorem exec_windowQuery {b : Byte} {i : WindowIdx} (hf : wholeFrame f 1) (index : b.toNat = i.val) :
    exec (.windowQuery f b) s = .next (s.answered f 0x15 .ok
      (if (s.window i).state = .free then .window (s.window i).freed .none none none
        else .window (s.window i) (s.rekeyStatus i) (if (s.spareKey i).isSome then some (s.window i).cursor else none)
          (s.erasePlace i))) := by
  refine next_answer hs hf rfl (.inl rfl) ?_
  simp only [indexOf_eq index, heard_window]
  split
  · exact if_pos ‹_›
  · exact if_neg ‹_›

theorem exec_pageQuery {n : BitVec 32} {j : Fin 16} {p : Page} (hf : wholeFrame f 4) (named : n ≠ 0)
    (found : s.findPage n = some j) (live : s.page j = some p) :
    exec (.pageQuery f n) s = .next (s.answered f 0x22 .ok (.page p (s.notAdmitting p))) := by
  refine next_answer hs hf rfl (.inl rfl) ?_
  simp only [if_neg named, heard_findPage, found, Option.bind_some, heard_page, live]
  rfl

theorem exec_pageQuery_list (hf : wholeFrame f 4) :
    exec (.pageQuery f 0) s = .next (s.answered f 0x22 .ok
      (.pageList (s.livePages.map (fun p => (p.number, p.account, p.window.index, p.state))))) :=
  next_answer hs hf rfl (.inl rfl) (if_pos rfl)

theorem exec_accountRead {b : Byte} {a : Fin 128} (hf : wholeFrame f 1) (index : b.toNat = a.val) :
    exec (.accountRead f b) s = .next (s.answered f 0x37 .ok
      (.account (s.account a) (s.livePagesOf a) (s.isScanAccount a))) :=
  next_answer hs hf rfl (.inl rfl) (by simp only [accountOf_eq index]; rfl)

theorem exec_cartQuery {b : Byte} {k : Colour} (hf : wholeFrame f 1) (index : b.toNat = k.val) :
    exec (.cartQuery f b) s = .next (s.answered f 0x40 .ok (.cart (s.cartView k))) :=
  next_answer hs hf rfl (.inl rfl) (by simp only [cartSlotOf_eq index]; rfl)

end

/-- Settles O35: each query answers what stands, since it is judged on the state it was sent in. -/
theorem queriesChangeNothing : Obligations.QueriesChangeNothing := by
  intro s f b n i a k j p hs
  refine ⟨exec_windowQuery hs, exec_pageQuery hs, exec_pageQuery_list hs, exec_accountRead hs, fun hf => ⟨?_, ?_⟩,
    exec_cartQuery hs, fun hf => ?_, fun hf => ⟨?_, ?_⟩, fun hf => ?_⟩
  all_goals exact next_answer hs hf rfl (.inl rfl) rfl

/-! ## WINDOW_OPEN -/

/-- A search in index order gives the lowest index that passes. -/
theorem find?_finRange_eq_some {n : Nat} {p : Fin n → Bool} {i : Fin n} (passes : p i = true)
    (lowest : ∀ j < i, p j = false) : (List.finRange n).find? p = some i := by
  rw [← Fin.find?_eq_find?_finRange, Fin.find?_eq_some_iff]
  exact ⟨passes, lowest⟩

theorem kindOf_eq_none {b : Byte} (h : 3 ≤ b.toNat) : kindOf b = none := by
  unfold kindOf
  split
  case h_4 => rfl
  all_goals omega

theorem kindOf_scan {b : Byte} (h : kindOf b = some .scan) : b = 0 := by
  unfold kindOf at h
  split at h
  next zero => exact BitVec.eq_of_toNat_eq zero
  all_goals cases h

theorem sizeCodeOf_eq_some_iff {b : Byte} {code : Fin 20} : sizeCodeOf b = some code ↔ b.toNat = code.val := by
  unfold sizeCodeOf
  split
  · simp [Fin.ext_iff]
  · simp; omega

theorem addrOf_eq_some_iff {b : BitVec 40} {a : Addr} : addrOf b = some a ↔ b.toNat = a.toNat := by
  unfold addrOf
  split
  · rw [Option.some_inj, ← BitVec.toNat_inj, BitVec.toNat_ofNat, Nat.mod_eq_of_lt ‹_›]
  · have := a.isLt
    simp; omega

theorem accountOf_eq_some_iff {b : Byte} {x : Fin 128} : accountOf b = some x ↔ b.toNat = x.val := by
  unfold accountOf
  split
  · simp [Fin.ext_iff]
  · simp; omega

section

variable {s : State} {a : WindowOpenArgs} {o : OpenWindow} {stride size n : Nat} {b : Byte} {x : Fin 128}

theorem scanFields_scan_eq_some_iff : s.scanFields .scan size stride b = some (n, x) ↔
    b.toNat = x.val ∧ (stride ≠ 0 ∧ stride % 4096 = 0 ∧ stride ≤ size ∧ (s.account x).state ≠ .unused) ∧ stride = n := by
  simp only [State.scanFields, ← accountOf_eq_some_iff]
  cases accountOf b with
  | none => simp
  | some y =>
    simp only [Option.some_inj]
    constructor
    · intro h
      split at h
      next passes => cases h; exact ⟨rfl, passes, rfl⟩
      next => cases h
    · rintro ⟨rfl, passes, rfl⟩
      exact if_pos passes

theorem scanFields_eq_some_iff {kind : WindowKind} (other : kind ≠ .scan) :
    s.scanFields kind size stride b = some (n, x) ↔ stride = 0 ∧ n = 0 ∧ x = 0 := by
  have fields : s.scanFields kind size stride b = if stride = 0 then some (0, 0) else none := by
    cases kind with
    | scan => exact absurd rfl other
    | print | work => rfl
  rw [fields]
  by_cases zero : stride = 0
  · simp [zero, eq_comm]
  · simp [zero]

/-- What R26 asks of the arguments of a WINDOW_OPEN. -/
theorem checkWindow_eq_some_iff : s.checkWindow a = some o ↔
    kindOf a.kind = some o.kind ∧ sizeCodeOf a.sizeCode = some o.sizeCode ∧ addrOf a.sysBase = some o.sysBase
      ∧ addrOf a.memBase = some o.memBase ∧ modesOf a.modes = some o.modes
      ∧ s.scanFields o.kind (sizeOfCode o.sizeCode) a.stride.toNat a.scanAccount = some (o.stride, o.scanAccount)
      ∧ (o.sysBase.toNat % sizeOfCode o.sizeCode = 0 ∧ o.memBase.toNat % sizeOfCode o.sizeCode = 0)
      ∧ a.owner = o.owner := by
  constructor
  · intro passed
    unfold State.checkWindow at passed
    split at passed
    next kind code sys mem modes hkind hcode hsys hmem hmodes =>
      split at passed
      next n x fields =>
        split at passed
        next aligned => cases passed; exact ⟨hkind, hcode, hsys, hmem, hmodes, fields, aligned, rfl⟩
        next => cases passed
      next => cases passed
    next => cases passed
  · rintro ⟨hkind, hcode, hsys, hmem, hmodes, fields, aligned, owner⟩
    simp only [State.checkWindow, hkind, hcode, hsys, hmem, hmodes, fields, if_pos aligned, owner]

theorem freeIndex_eq_some {i : WindowIdx} (free : (s.window i).state = .free)
    (lowest : ∀ j < i, (s.window j).state ≠ .free) : s.freeIndex = some i :=
  find?_finRange_eq_some (by simp [free]) (fun j less => by simp [lowest j less])

theorem freeIndex_eq_none (full : ∀ j, (s.window j).state ≠ .free) : s.freeIndex = none := by
  simpa [State.freeIndex] using full

theorem freeIndex_isSome (free : ∃ j, (s.window j).state = .free) : ∃ i, s.freeIndex = some i := by
  obtain ⟨j, free⟩ := free
  rw [← Option.isSome_iff_exists, State.freeIndex, List.find?_isSome]
  exact ⟨j, List.mem_finRange j, by simp [free]⟩

theorem rangeTaken_iff : s.rangeTaken o = true ↔ ∃ j, (s.window j).state ≠ .free ∧
    (overlaps o.sysBase.toNat (sizeOfCode o.sizeCode) (s.window j).sysBase.toNat (s.window j).size = true
      ∨ overlaps o.memBase.toNat (sizeOfCode o.sizeCode) (s.window j).memBase.toNat (s.window j).size = true) := by
  simp [State.rangeTaken, Window.live]

section

variable {f : Frame} (hs : s.ready) (hf : wholeFrame f 24)
include hs hf

theorem exec_windowOpen_badArgument (bad : s.checkWindow a = none) :
    exec (.windowOpen f a) s = .next (s.answered f 0x10 .badArgument .empty) :=
  next_answer hs.1 hf rfl (.inr hs.2) (by simp only [heard_checkWindow, bad]; rfl)

theorem exec_windowOpen_noRoom (passed : s.checkWindow a = some o) (full : s.freeIndex = none) :
    exec (.windowOpen f a) s = .next (s.answered f 0x10 .noRoom .empty) :=
  next_answer hs.1 hf rfl (.inr hs.2) (by simp only [heard_checkWindow, passed, heard_freeIndex, full]; rfl)

theorem exec_windowOpen_overlap {i : WindowIdx} (passed : s.checkWindow a = some o) (room : s.freeIndex = some i)
    (taken : s.rangeTaken o = true) : exec (.windowOpen f a) s = .next (s.answered f 0x10 .overlap .empty) :=
  next_answer hs.1 hf rfl (.inr hs.2)
    (by simp only [heard_checkWindow, passed, heard_freeIndex, room, heard_rangeTaken, taken]; rfl)

theorem exec_windowOpen_opened {i : WindowIdx} (passed : s.checkWindow a = some o) (room : s.freeIndex = some i)
    (clear : s.rangeTaken o = false) :
    exec (.windowOpen f a) s = .next { s.answered f 0x10 .ok (.windowOpened i ((s.window i).generation + 1)) with
      windows := s.windows.set i (o.entry ((s.window i).generation + 1))
      keys := { s.keys with slots := s.keys.slots.set i (some s.draws) }
      draws := s.draws + 1 } :=
  next_judged hs.1 hf rfl (.inr hs.2)
    (by simp only [heard_checkWindow, passed, heard_freeIndex, room, heard_rangeTaken, clear]; rfl)

end

end

/-- Settles O23: the arguments pass exactly as R26 asks, and the lowest FREE index and the shared bytes decide then. -/
theorem windowsOpen : Obligations.WindowsOpen := by
  refine ⟨fun s f a kind code sys mem modes account i hs hf hkind hcode hsys hmem hmodes sysAligned memAligned fields
    free lowest apart => ?_, fun s f a hs hf => ⟨fun bad => ?_, fun o passed => ⟨fun full => ?_, fun room taken => ?_⟩⟩⟩
  · have passed : s.checkWindow a = some ⟨kind, sys, mem, code, a.owner, modes, a.stride.toNat, account⟩ := by
      refine checkWindow_eq_some_iff.mpr ⟨hkind, sizeCodeOf_eq_some_iff.mpr hcode, addrOf_eq_some_iff.mpr hsys,
        addrOf_eq_some_iff.mpr hmem, hmodes, ?_, ⟨sysAligned, memAligned⟩, rfl⟩
      by_cases scan : kind = .scan
      · obtain ⟨nonzero, pages, fits, named, used⟩ := (if_pos scan).mp fields
        subst scan
        exact scanFields_scan_eq_some_iff.mpr ⟨named, ⟨nonzero, pages, fits, used⟩, rfl⟩
      · obtain ⟨zero, none⟩ := (if_neg scan).mp fields
        exact (scanFields_eq_some_iff scan).mpr (by simp [zero, none])
    have clear : s.rangeTaken ⟨kind, sys, mem, code, a.owner, modes, a.stride.toNat, account⟩ = false := by
      rw [← Bool.not_eq_true, rangeTaken_iff]
      rintro ⟨j, live, shared⟩
      simp [apart j live] at shared
    exact exec_windowOpen_opened hs hf passed (freeIndex_eq_some free lowest) clear
  · refine exec_windowOpen_badArgument hs hf (Option.eq_none_iff_forall_ne_some.mpr fun o passed => ?_)
    obtain ⟨hkind, hcode, hsys, hmem, hmodes, fields, ⟨sysAligned, memAligned⟩, -⟩ := checkWindow_eq_some_iff.mp passed
    rw [sizeCodeOf_eq_some_iff] at hcode
    rw [addrOf_eq_some_iff] at hsys hmem
    have size : 4096 * 2 ^ a.sizeCode.toNat = sizeOfCode o.sizeCode := by rw [hcode]; rfl
    rw [size, hsys, hmem] at bad
    rcases bad with kind | code | sys | mem | modes | sysOff | memOff | ⟨other, stride⟩ | ⟨scan, stride⟩
    · simp [kindOf_eq_none kind] at hkind
    · have := o.sizeCode.isLt
      omega
    · have := o.sysBase.isLt
      omega
    · have := o.memBase.isLt
      omega
    · simp [modes] at hmodes
    · exact sysOff sysAligned
    · exact memOff memAligned
    · obtain ⟨zero, -⟩ := (scanFields_eq_some_iff fun scan => other (kindOf_scan (hkind.trans (by rw [scan])))).mp fields
      exact stride (by simpa using BitVec.eq_of_toNat_eq zero)
    · have isScan : o.kind = .scan := by simpa [kindOf, scan, eq_comm] using hkind
      rw [isScan, scanFields_scan_eq_some_iff] at fields
      obtain ⟨named, ⟨nonzero, pages, fits, used⟩, -⟩ := fields
      rcases stride with zero | odd | large | slot | ⟨account, slot, unused⟩
      · simp [zero] at nonzero
      · exact odd pages
      · omega
      · have := o.scanAccount.isLt
        omega
      · obtain rfl : account = o.scanAccount := Fin.ext (slot.symm.trans named)
        exact used unused
  · exact exec_windowOpen_noRoom hs hf passed (freeIndex_eq_none full)
  · obtain ⟨i, room⟩ := freeIndex_isSome room
    exact exec_windowOpen_overlap hs hf passed room (rangeTaken_iff.mpr taken)

/-! ## WINDOW_POLICY, WINDOW_SEAL and WINDOW_REKEY -/

theorem retiring_state {w : Window} (h : w.retiring = true) : ∃ phase, w.state = .retiring phase := by
  simp only [Window.retiring, Bool.or_eq_true, beq_iff_eq] at h
  rcases h with draining | erasing
  · exact ⟨_, draining⟩
  · exact ⟨_, erasing⟩

theorem freeSpare_eq_some {s : State} {k : Fin 2} (free : s.keys.spares[k] = .free)
    (lowest : ∀ j < k, s.keys.spares[j] ≠ .free) : s.freeSpare = some k :=
  find?_finRange_eq_some (by simpa using free) (fun j less => by simpa using lowest j less)

theorem freeSpare_eq_none {s : State} (full : ∀ j : Fin 2, s.keys.spares[j] ≠ .free) : s.freeSpare = none :=
  List.find?_eq_none.mpr (fun j _ => by simpa using full j)

section

variable {s : State} {f : Frame} {index : Byte} {i : WindowIdx} (hs : s.ready) (named : index.toNat = i.val)
include hs

section

variable {owner : JobTag} {m : ModeBytes} {modes : Modes} (hf : wholeFrame f 8)
include hf

theorem exec_windowPolicy_badModes (bad : modesOf m = none) :
    exec (.windowPolicy f index owner m) s = .next (s.answered f 0x11 .badArgument .empty) :=
  next_answer hs.1 hf rfl (.inr hs.2) (by cases indexOf index <;> simp only [bad] <;> rfl)

variable (spelt : modesOf m = some modes)
include named spelt

theorem exec_windowPolicy_live (live : (s.window i).state = .opened ∨ (s.window i).state = .sealed) :
    exec (.windowPolicy f index owner m) s = .next { s.answered f 0x11 .ok .empty with
      windows := s.windows.set i { s.window i with owner := owner, modes := modes } } := by
  refine next_judged hs.1 hf rfl (.inr hs.2) ?_
  rcases live with live | live <;> (simp only [indexOf_eq named, spelt, heard_window, live]; rfl)

theorem exec_windowPolicy_free (free : (s.window i).state = .free) :
    exec (.windowPolicy f index owner m) s = .next (s.answered f 0x11 .notFound .empty) :=
  next_answer hs.1 hf rfl (.inr hs.2) (by simp only [indexOf_eq named, spelt, heard_window, free]; rfl)

theorem exec_windowPolicy_retiring (retiring : (s.window i).retiring = true) :
    exec (.windowPolicy f index owner m) s = .next (s.answered f 0x11 .state .empty) := by
  obtain ⟨phase, retiring⟩ := retiring_state retiring
  exact next_answer hs.1 hf rfl (.inr hs.2) (by simp only [indexOf_eq named, spelt, heard_window, retiring]; rfl)

end

section

variable (hf : wholeFrame f 1)
include named hf

theorem exec_windowSeal_live (live : (s.window i).state = .opened ∨ (s.window i).state = .sealed) :
    exec (.windowSeal f index) s = .next { s.answered f 0x12 .ok .empty with
      windows := s.windows.set i { s.window i with state := .sealed } } := by
  refine next_judged hs.1 hf rfl (.inr hs.2) ?_
  rcases live with live | live <;> (simp only [indexOf_eq named, heard_window, live]; rfl)

theorem exec_windowSeal_free (free : (s.window i).state = .free) :
    exec (.windowSeal f index) s = .next (s.answered f 0x12 .notFound .empty) :=
  next_answer hs.1 hf rfl (.inr hs.2) (by simp only [indexOf_eq named, heard_window, free]; rfl)

theorem exec_windowSeal_retiring (retiring : (s.window i).retiring = true) :
    exec (.windowSeal f index) s = .next (s.answered f 0x12 .state .empty) := by
  obtain ⟨phase, retiring⟩ := retiring_state retiring
  exact next_answer hs.1 hf rfl (.inr hs.2) (by simp only [indexOf_eq named, heard_window, retiring]; rfl)

variable (live : (s.window i).state = .opened ∨ (s.window i).state = .sealed)
include live

theorem exec_windowRekey_reserves {k : Fin 2} (noJob : s.hasRekey i = false) (noSpare : s.spareKey i = none)
    (room : s.freeSpare = some k) :
    exec (.windowRekey f index) s = .next { s.answered f 0x14 .ok .empty with
      scrub := { s.scrub with queue := s.scrub.queue ++ [⟨.rekey, ⟨i, (s.window i).generation⟩⟩] }
      keys := { s.keys with spares := s.keys.spares.set k (.reserved i) } } := by
  refine next_judged hs.1 hf rfl (.inr hs.2) ?_
  rcases live with live | live <;>
    (simp only [indexOf_eq named, heard_window, live, heard_hasRekey, noJob, heard_spareKey, noSpare,
      heard_freeSpare, room]; rfl)

theorem exec_windowRekey_keeps_spare (noJob : s.hasRekey i = false) (spare : s.spareKey i ≠ none) :
    exec (.windowRekey f index) s = .next { s.answered f 0x14 .ok .empty with
      scrub := { s.scrub with queue := s.scrub.queue ++ [⟨.rekey, ⟨i, (s.window i).generation⟩⟩] } } := by
  refine next_judged hs.1 hf rfl (.inr hs.2) ?_
  rw [← Option.isSome_iff_ne_none] at spare
  rcases live with live | live <;>
    (simp only [indexOf_eq named, heard_window, live, heard_hasRekey, noJob, heard_spareKey, spare]; rfl)

theorem exec_windowRekey_busy (busy : s.hasRekey i = true ∨ (s.spareKey i = none ∧ s.freeSpare = none)) :
    exec (.windowRekey f index) s = .next (s.answered f 0x14 .busy .empty) := by
  refine next_answer hs.1 hf rfl (.inr hs.2) ?_
  cases job : s.hasRekey i with
  | true =>
    rcases live with live | live <;> (simp only [indexOf_eq named, heard_window, live, heard_hasRekey, job]; rfl)
  | false =>
    obtain ⟨noSpare, full⟩ := busy.resolve_left (by simp [job])
    rcases live with live | live <;>
      (simp only [indexOf_eq named, heard_window, live, heard_hasRekey, job, heard_spareKey, noSpare,
        heard_freeSpare, full]; rfl)

end

end

/-- Settles O24: the three commands on a live window, and their refusals. -/
theorem windowsChange : Obligations.WindowsChange := by
  refine ⟨fun s f index i owner m modes hs named => ⟨fun hf spelt => ⟨?_, ?_, ?_⟩, ?_, fun hf => ⟨?_, ?_, ?_⟩⟩,
    fun s f index i k hs hf named live => ⟨fun noJob noSpare free lowest => ?_, ?_, fun busy => ?_⟩⟩
  · exact exec_windowPolicy_live hs named hf spelt
  · exact exec_windowPolicy_free hs named hf spelt
  · exact exec_windowPolicy_retiring hs named hf spelt
  · exact exec_windowPolicy_badModes hs
  · exact exec_windowSeal_live hs named hf
  · exact exec_windowSeal_free hs named hf
  · exact exec_windowSeal_retiring hs named hf
  · exact exec_windowRekey_reserves hs named hf live noJob noSpare (freeSpare_eq_some free lowest)
  · exact exec_windowRekey_keeps_spare hs named hf live
  · exact exec_windowRekey_busy hs named hf live
      (busy.imp_right fun ⟨noSpare, full⟩ => ⟨noSpare, freeSpare_eq_none full⟩)

/-! ## WINDOW_RETIRE and the end of a drain -/

theorem withFlag_withFlag (flags : BitVec 13) (flag : PathFlag) :
    withFlag (withFlag flags flag) flag = withFlag flags flag := by
  simp [withFlag, BitVec.or_assoc]

theorem mapVec_getElem {α β : Type} {n : Nat} (g : α → β) (v : Vector α n) (k : Fin n) : (mapVec g v)[k] = g v[k] := by
  simp [mapVec]

theorem option_any_eq_false {α : Type} {p : α → Bool} {o : Option α} (h : o.all (fun x => !p x) = true) :
    o.any p = false := by
  cases o with
  | none => rfl
  | some x => simpa using h

theorem isRekeyOf_iff {j : Job} {i : WindowIdx} : j.isRekeyOf i = true ↔ j.kind = .rekey ∧ j.window.index = i := by
  simp [Job.isRekeyOf]

/-! ### The fields that the work of a retirement leaves alone -/

@[simp] theorem raiseError_ports (s : State) (c : Capture) :
    (s.raiseError c).emitted = s.emitted ∧ (s.raiseError c).tids = s.tids ∧ (s.raiseError c).lines = s.lines := by
  unfold State.raiseError; (repeat' split) <;> simp

@[simp] theorem dropRequest_ports (s : State) (t : MemTid) :
    (s.dropRequest t).emitted = s.emitted ∧ (s.dropRequest t).tids = s.tids ∧ (s.dropRequest t).lines = s.lines := by
  unfold State.dropRequest; (repeat' split) <;> simp

@[simp] theorem invalidateLine_ports (s : State) (i : Fin 8) :
    (s.invalidateLine i).emitted = s.emitted ∧ (s.invalidateLine i).tids = s.tids := by
  unfold State.invalidateLine; (repeat' split) <;> simp

@[simp] theorem invalidateLines_ports (s : State) (p : Line → Bool) :
    (s.invalidateLines p).emitted = s.emitted ∧ (s.invalidateLines p).tids = s.tids := by
  unfold State.invalidateLines
  exact ⟨State.foldl_frame (·.emitted) _ (fun s x => by split <;> simp) _ s,
    State.foldl_frame (·.tids) _ (fun s x => by split <;> simp) _ s⟩

@[simp] theorem idleChannel_ports (s : State) (c : ChannelId) :
    (s.idleChannel c).emitted = s.emitted ∧ (s.idleChannel c).tids = s.tids ∧ (s.idleChannel c).lines = s.lines :=
  ⟨rfl, rfl, rfl⟩

@[simp] theorem endRekey_ports (s : State) (i : WindowIdx) :
    (s.endRekey i).emitted = s.emitted ∧ (s.endRekey i).tids = s.tids ∧ (s.endRekey i).lines = s.lines := by
  unfold State.endRekey; dsimp only; split <;> simp

@[simp] theorem endDrain_ports (s : State) (i : WindowIdx) :
    (s.endDrain i).emitted = s.emitted ∧ (s.endDrain i).tids = s.tids ∧ (s.endDrain i).lines = s.lines := by
  unfold State.endDrain; dsimp only; (repeat' split) <;> exact ⟨rfl, rfl, rfl⟩

@[simp] theorem endDrainIfDone_ports (s : State) (i : WindowIdx) :
    (s.endDrainIfDone i).emitted = s.emitted ∧ (s.endDrainIfDone i).tids = s.tids
      ∧ (s.endDrainIfDone i).lines = s.lines := by
  unfold State.endDrainIfDone; split <;> simp

/-! ### Held reads answered DENIED -/

@[simp] theorem denyHeld_emitted (s : State) (e : TrackerEntry) :
    (s.denyHeld e).emitted = s.emitted ++ [.response e.source.code e.tid .denied] := by
  simp [State.denyHeld, State.respond, State.emit]

theorem mem_denyHeld_tids {s : State} {e : TrackerEntry} {x : Source × Tid} :
    x ∈ (s.denyHeld e).tids ↔ x ∈ s.tids ∧ x ≠ (e.source, e.tid) := by
  simp [State.denyHeld, State.respond, State.freeTid]

theorem denyHeld_path (s : State) (e : TrackerEntry) :
    (s.denyHeld e).path =
      { flags := withFlag s.path.flags .denied, capture := some (s.path.capture.getD (e.capture .denied)) } := by
  cases captured : s.path.capture <;>
    simp [State.denyHeld, State.respond, State.emit, State.raiseError, captured, State.note, State.freeTid,
      TrackerEntry.capture]

theorem foldl_denyHeld_emitted (l : List TrackerEntry) (s : State) :
    (l.foldl State.denyHeld s).emitted = s.emitted ++ l.map (fun e => .response e.source.code e.tid .denied) := by
  induction l generalizing s with
  | nil => simp
  | cons e l ih => simp [ih]

theorem mem_foldl_denyHeld_tids (l : List TrackerEntry) {s : State} {x : Source × Tid} :
    x ∈ (l.foldl State.denyHeld s).tids ↔ x ∈ s.tids ∧ ∀ e ∈ l, x ≠ (e.source, e.tid) := by
  induction l generalizing s with
  | nil => simp
  | cons e l ih => simp [ih, mem_denyHeld_tids, and_assoc]

/-- An error that is on record, and a capture that is full, stay as they are. -/
theorem foldl_denyHeld_path_of_full (l : List TrackerEntry) {s : State} {flags : BitVec 13} {c : Capture}
    (full : s.path = { flags := withFlag flags .denied, capture := some c }) :
    (l.foldl State.denyHeld s).path = { flags := withFlag flags .denied, capture := some c } := by
  induction l generalizing s with
  | nil => exact full
  | cons e l ih => exact ih (by rw [denyHeld_path, full, withFlag_withFlag]; rfl)

/-- The path error record once reads are answered DENIED, the first of them first (R78, R79). -/
def deniedPath (path : PathRecord) (first : Option TrackerEntry) : PathRecord :=
  match first with
  | some e => { flags := withFlag path.flags .denied, capture := some (path.capture.getD (e.capture .denied)) }
  | none => path

theorem foldl_denyHeld_path (l : List TrackerEntry) (s : State) :
    (l.foldl State.denyHeld s).path = deniedPath s.path l.head? := by
  cases l with
  | nil => rfl
  | cons e l => exact foldl_denyHeld_path_of_full l (denyHeld_path s e)

@[simp] theorem denyHeldReads_lines (s : State) (w : WindowRef) : (s.denyHeldReads w).lines = s.lines :=
  State.foldl_frame (·.lines) State.denyHeld (fun x e => by simp [State.denyHeld]) (s.tracker.filter (·.heldFor w)) s

/-- Where a window has no held read there is none to answer. -/
theorem denyHeldReads_of_none {s : State} {w : WindowRef} (none : s.tracker.all (fun e => !e.heldFor w) = true) :
    s.denyHeldReads w = s := by
  have noneHeld : s.tracker.filter (·.heldFor w) = [] := by simpa [List.filter_eq_nil_iff] using none
  have allKept : s.tracker.filter (fun e => !e.heldFor w) = s.tracker :=
    List.filter_eq_self.mpr (List.all_eq_true.mp none)
  simp only [State.denyHeldReads, noneHeld, allKept, List.foldl_nil]

/-! ### Prefetch lines invalidated -/

/-- What a line becomes that is invalidated (R73): FREE, or marked for discard while it is being delivered. -/
def invalidatedLine (l : Line) : Option Line :=
  match l.state with
  | .filling _ => none
  | .valid filled us deliveries _ data =>
    if deliveries = 0 then none else some { l with state := .valid filled us deliveries true data }

theorem setLine_line (s : State) (i k : Fin 8) (l : Option Line) :
    (s.setLine i l).line k = if k = i then l else s.line k := by
  simp only [State.setLine, State.line, Fin.getElem_fin, Vector.getElem_set, Fin.val_inj, eq_comm]

theorem line_congr {s t : State} (h : t.lines = s.lines) (k : Fin 8) : t.line k = s.line k := by
  simp only [State.line, h]

theorem invalidateLine_line (s : State) (i k : Fin 8) :
    (s.invalidateLine i).line k = if k = i then (s.line i).bind invalidatedLine else s.line k := by
  unfold State.invalidateLine
  cases found : s.line i with
  | none =>
    by_cases same : k = i
    · simp [same, found]
    · simp [same]
  | some l =>
    simp only [Option.bind_some, invalidatedLine]
    cases l.state with
    | filling t =>
      cases t with
      | none => exact setLine_line s i k none
      | some t => rw [setLine_line, line_congr (dropRequest_ports s t).2.2]
    | valid filled us deliveries discard data =>
      dsimp only
      split
      · exact setLine_line s i k none
      · exact setLine_line s i k _

/-- Invalidation takes each line once: those that meet the condition, and no other. -/
theorem foldl_invalidate_line (p : Line → Bool) (k : Fin 8) (l : List (Fin 8)) (once : l.Nodup) (s : State) :
    (l.foldl (fun s i => if (s.line i).any p then s.invalidateLine i else s) s).line k =
      if k ∈ l ∧ (s.line k).any p then (s.line k).bind invalidatedLine else s.line k := by
  induction l generalizing s with
  | nil => simp
  | cons i l ih =>
    obtain ⟨fresh, once⟩ := List.nodup_cons.mp once
    rw [List.foldl_cons, ih once]
    by_cases same : k = i
    · subst same
      by_cases meets : (s.line k).any p = true <;> simp [fresh, meets, invalidateLine_line]
    · have kept : (if (s.line i).any p then s.invalidateLine i else s).line k = s.line k := by
        split <;> simp [invalidateLine_line, same]
      simp [kept, same]

theorem invalidateLines_line (s : State) (p : Line → Bool) (k : Fin 8) :
    (s.invalidateLines p).line k = if (s.line k).any p then (s.line k).bind invalidatedLine else s.line k := by
  have all := foldl_invalidate_line p k (List.finRange 8) (List.nodup_finRange 8) s
  simp only [List.mem_finRange, true_and] at all
  exact all

theorem invalidateLines_of_none {s : State} {p : Line → Bool} (none : ∀ k, (s.line k).any p = false) :
    s.invalidateLines p = s := by
  have kept : ∀ l : List (Fin 8), l.foldl (fun s i => if (s.line i).any p then s.invalidateLine i else s) s = s := by
    intro l
    induction l with
    | nil => rfl
    | cons i l ih => simpa [none i] using ih
  exact kept _

/-! ### A re-key job ended -/

theorem endRekey_keys (s : State) (i : WindowIdx) :
    (s.endRekey i).keys = { s.keys with spares := freeReserved i s.keys.spares } := by
  unfold State.endRekey; dsimp only; split <;> simp

theorem endRekey_queue (s : State) (i : WindowIdx) :
    (s.endRekey i).scrub.queue = s.scrub.queue.filter (fun j => !j.isRekeyOf i) := by
  unfold State.endRekey; dsimp only; split <;> rfl

/-- The one channel that holds a job of a sort is found. -/
theorem channelWith_eq_some {s : State} {p : Job → Bool} {c : ChannelId} (holds : (s.chan c).job.any p = true)
    (only : ∀ d, d ≠ c → (s.chan d).job.any p = false) : s.channelWith p = some c :=
  find?_finRange_eq_some holds (fun d less => only d less.ne)

theorem chan_set_same (s : State) (c : ChannelId) : (s.scrub.chans.set c {})[c] = ({} : Channel) := by
  simp

theorem chan_congr {s t : State} (h : t.scrub = s.scrub) (c : ChannelId) : t.chan c = s.chan c := by
  simp only [State.chan, h]

theorem endRekey_chan {s : State} {i : WindowIdx} {c : ChannelId}
    (holds : (s.chan c).job.any (·.isRekeyOf i) = true)
    (only : ∀ d, d ≠ c → (s.chan d).job.any (·.isRekeyOf i) = false) : (s.endRekey i).chan c = {} := by
  have found : s.channelWith (·.isRekeyOf i) = some c := channelWith_eq_some holds only
  unfold State.endRekey
  dsimp only
  split
  next d other =>
    obtain rfl : d = c := Option.some.inj (other.symm.trans found)
    exact chan_set_same s d
  next none => exact absurd (none.symm.trans found) nofun

/-- Where a window has no re-key job there is only a reservation to free. -/
theorem endRekey_of_no_job {s : State} {i : WindowIdx} (none : s.hasRekey i = false) :
    s.endRekey i = { s with keys := { s.keys with spares := freeReserved i s.keys.spares } } := by
  obtain ⟨notQueued, notHeld⟩ := Bool.or_eq_false_iff.mp none
  have dropped : s.scrub.dropRekey i = s.scrub := by
    have rest : s.scrub.queue.filter (fun j => !j.isRekeyOf i) = s.scrub.queue :=
      List.filter_eq_self.mpr (fun j mem => by simpa using List.any_eq_false.mp notQueued j mem)
    simp only [ScrubEngine.dropRekey, rest, notQueued, Bool.false_and]
    rfl
  unfold State.endRekey
  rw [dropped]
  dsimp only
  split
  next c found => simp [show s.channelWith (·.isRekeyOf i) = some c from found] at notHeld
  next => rfl

/-! ### The end of a drain -/

theorem endDrain_in_reset {s : State} (i : WindowIdx) (reset : s.resetRec.progress ≠ none) :
    s.endDrain i = s.destroyKeys i := by
  simp [State.endDrain, Option.isSome_iff_ne_none, reset]

theorem endDrain_frees {s : State} {i : WindowIdx} (noReset : s.resetRec.progress = none)
    (noPasses : (s.window i).passes = []) : s.endDrain i = (s.destroyKeys i).freeWindow i false := by
  simp [State.endDrain, noReset, noPasses]

theorem endDrain_erases {s : State} {i : WindowIdx} (noReset : s.resetRec.progress = none)
    (toErase : (s.window i).passes ≠ []) :
    s.endDrain i = ((s.destroyKeys i).setWindow i { s.window i with state := .retiring .erasing }).joinQueue
      ⟨.erase (s.window i).passes, (s.window i).ref i⟩ := by
  simp [State.endDrain, noReset, toErase]

theorem endDrainIfDone_of_drained {s : State} {i : WindowIdx} (draining : (s.window i).state = .retiring .draining)
    (drained : s.drained ((s.window i).ref i) = true) : s.endDrainIfDone i = s.endDrain i :=
  if_pos ⟨draining, drained⟩

theorem endDrainIfDone_of_left {s : State} {i : WindowIdx} (left : s.drained ((s.window i).ref i) = false) :
    s.endDrainIfDone i = s :=
  if_neg (by simp [left])

/-- A spare slot that is free stays free at the end of a drain. -/
theorem endDrainIfDone_spare {s : State} {i : WindowIdx} {k : Fin 2} (free : s.keys.spares[k] = .free) :
    (s.endDrainIfDone i).keys.spares[k] = .free := by
  have destroyed : (s.destroyKeys i).keys.spares[k] = .free := by
    simp only [State.destroyKeys, freeSpares, mapVec_getElem, free]
  unfold State.endDrainIfDone
  split
  · unfold State.endDrain
    dsimp only
    (repeat' split) <;> exact destroyed
  · exact free

theorem endDrainIfDone_chan (s : State) (i : WindowIdx) (c : ChannelId) : (s.endDrainIfDone i).chan c = s.chan c := by
  unfold State.endDrainIfDone State.endDrain
  dsimp only
  (repeat' split) <;> rfl

/-- The end of a drain puts no re-key job into the queue. -/
theorem mem_endDrainIfDone_queue {s : State} {i : WindowIdx} {j : Job} (mem : j ∈ (s.endDrainIfDone i).scrub.queue) :
    j ∈ s.scrub.queue ∨ j.kind ≠ .rekey := by
  unfold State.endDrainIfDone State.endDrain at mem
  dsimp only at mem
  split at mem
  · split at mem
    · exact .inl mem
    · split at mem
      · exact .inl mem
      · rcases List.mem_append.mp mem with old | new
        · exact .inl old
        · cases List.mem_singleton.mp new
          exact .inr nofun
  · exact .inl mem

/-! ### An accepted WINDOW_RETIRE, up to the end of the drain -/

/-- What an accepted WINDOW_RETIRE does before it asks whether the drain is done (R31, R32). -/
def windDown (s : State) (i : WindowIdx) (passes : List Pattern) : State :=
  let w := (s.window i).ref i
  let s1 := s.setWindow i { s.window i with state := .retiring .draining, passes := passes }
  ((s1.denyHeldReads w).invalidateLines (fun l => l.window == w)).endRekey i

/-- The state with a window draining and its reservation freed. -/
def idleWindDown (s : State) (i : WindowIdx) (passes : List Pattern) : State :=
  { s with
    windows := s.windows.set i { s.window i with state := .retiring .draining, passes := passes }
    keys := { s.keys with spares := freeReserved i s.keys.spares } }

theorem retire_eq (s : State) (i : WindowIdx) (passes : List Pattern) :
    s.retire i passes = (windDown s i passes).endDrainIfDone i := rfl

section

variable (s : State) (i : WindowIdx) (passes : List Pattern)

@[simp] theorem windDown_windows : (windDown s i passes).windows =
    s.windows.set i { s.window i with state := .retiring .draining, passes := passes } := by
  simp [windDown, State.setWindow]

@[simp] theorem windDown_window : (windDown s i passes).window i =
    { s.window i with state := .retiring .draining, passes := passes } := by
  simp [State.window]

@[simp] theorem windDown_pwq : (windDown s i passes).pwq = s.pwq := by
  simp [windDown]

@[simp] theorem windDown_reset : (windDown s i passes).resetRec = s.resetRec := by
  simp [windDown]

@[simp] theorem windDown_tracker : (windDown s i passes).tracker =
    s.tracker.filter (fun e => !e.heldFor ((s.window i).ref i)) := by
  simp [windDown, State.denyHeldReads]

theorem windDown_emitted : (windDown s i passes).emitted =
    s.emitted ++ (s.tracker.filter (·.heldFor ((s.window i).ref i))).map
      (fun e => .response e.source.code e.tid .denied) := by
  simp [windDown, State.denyHeldReads, foldl_denyHeld_emitted]

theorem mem_windDown_tids {x : Source × Tid} : x ∈ (windDown s i passes).tids ↔
    x ∈ s.tids ∧ ∀ e ∈ s.tracker, e.heldFor ((s.window i).ref i) = true → x ≠ (e.source, e.tid) := by
  simp [windDown, State.denyHeldReads, mem_foldl_denyHeld_tids]

theorem windDown_path : (windDown s i passes).path =
    deniedPath s.path (s.tracker.filter (·.heldFor ((s.window i).ref i))).head? := by
  simp only [windDown, State.denyHeldReads, endRekey_pins_path, invalidateLines_pins_path]
  exact foldl_denyHeld_path _ _

theorem windDown_line (k : Fin 8) : (windDown s i passes).line k =
    if (s.line k).any (fun l => l.window == (s.window i).ref i) then (s.line k).bind invalidatedLine else s.line k := by
  have kept : ((s.setWindow i { s.window i with state := .retiring .draining, passes := passes }).denyHeldReads
      ((s.window i).ref i)).line k = s.line k :=
    line_congr (by simp) k
  unfold windDown
  dsimp only
  rw [line_congr (endRekey_ports _ i).2.2, invalidateLines_line, kept]

theorem windDown_keys : (windDown s i passes).keys = { s.keys with spares := freeReserved i s.keys.spares } := by
  simp [windDown, endRekey_keys]

theorem windDown_queue : (windDown s i passes).scrub.queue = s.scrub.queue.filter (fun j => !j.isRekeyOf i) := by
  simp [windDown, endRekey_queue]

end

section

variable {s : State} {i : WindowIdx} {passes : List Pattern}

theorem windDown_chan {c : ChannelId} (holds : (s.chan c).job.any (·.isRekeyOf i) = true)
    (only : ∀ d, d ≠ c → (s.chan d).job.any (·.isRekeyOf i) = false) : (windDown s i passes).chan c = {} := by
  have kept : (((s.setWindow i { s.window i with state := .retiring .draining, passes := passes }).denyHeldReads
      ((s.window i).ref i)).invalidateLines (fun l => l.window == (s.window i).ref i)).scrub = s.scrub := by
    simp
  unfold windDown
  refine endRekey_chan ?_ (fun d other => ?_) <;> rw [chan_congr kept]
  · exact holds
  · exact only d other

/-- A window with no held read, no line and no re-key job winds down by its state and its reservation alone. -/
theorem windDown_of_idle (noJob : s.hasRekey i = false)
    (noHeld : s.tracker.all (fun e => !e.heldFor ((s.window i).ref i)) = true)
    (noLine : ∀ k, (s.line k).all (fun l => l.window != (s.window i).ref i) = true) :
    windDown s i passes = idleWindDown s i passes := by
  unfold windDown
  dsimp only
  rw [denyHeldReads_of_none (by simpa using noHeld), invalidateLines_of_none, endRekey_of_no_job (by exact noJob)]
  · rfl
  · intro k
    rw [line_congr (t := s.setWindow i _) (State.setWindow_lines s i _) k]
    exact option_any_eq_false (noLine k)

/-- Posted writes, and reads that are not held, keep a window draining. -/
theorem windDown_drained : (windDown s i passes).drained ((s.window i).ref i) = true ↔
    ¬ ((∃ e ∈ s.pwq, e.window = some ((s.window i).ref i))
      ∨ ∃ e ∈ s.tracker, e.window = some ((s.window i).ref i) ∧ e.heldFor ((s.window i).ref i) = false) := by
  simp [State.drained, imp_iff_not_or, or_comm]

theorem retire_of_left (left : (windDown s i passes).drained ((s.window i).ref i) = false) :
    s.retire i passes = windDown s i passes := by
  rw [retire_eq, endDrainIfDone_of_left]
  simpa [Window.ref] using left

theorem retire_of_drained (drained : (windDown s i passes).drained ((s.window i).ref i) = true) :
    s.retire i passes = (windDown s i passes).endDrain i := by
  rw [retire_eq, endDrainIfDone_of_drained]
  · simp
  · simpa [Window.ref] using drained

end

/-! ### The end of a drain that nothing held up -/

/-- The spare slots that the end of a drain frees hold those of a reservation freed before it. -/
theorem freeSpares_freeReserved (i : WindowIdx) (spares : Vector Spare 2) :
    freeSpares i (freeReserved i spares) = freeSpares i spares := by
  refine Vector.ext fun k less => ?_
  simp only [freeSpares, freeReserved, mapVec, Vector.getElem_mk, List.getElem_toArray, List.getElem_map,
    Vector.getElem_toList]
  cases spares[k] with
  | free => rfl
  | reserved j => by_cases same : j = i <;> simp [same]
  | holding j key => rfl

section

variable {s : State} {i : WindowIdx} {passes : List Pattern}

theorem idleWindDown_window : (idleWindDown s i passes).window i =
    { s.window i with state := .retiring .draining, passes := passes } := by
  simp [idleWindDown, State.window]

theorem idleWindDown_reset : (idleWindDown s i passes).resetRec = s.resetRec := rfl

theorem idleWindDown_left (left : s.drained ((s.window i).ref i) = false) :
    (idleWindDown s i passes).endDrainIfDone i = idleWindDown s i passes :=
  endDrainIfDone_of_left (by rw [idleWindDown_window]; exact left)

theorem idleWindDown_endDrain (drained : s.drained ((s.window i).ref i) = true) :
    (idleWindDown s i passes).endDrainIfDone i = (idleWindDown s i passes).endDrain i :=
  endDrainIfDone_of_drained (by rw [idleWindDown_window]) (by rw [idleWindDown_window]; exact drained)

theorem idleWindDown_frees (noReset : s.resetRec.progress = none) (drained : s.drained ((s.window i).ref i) = true)
    (noPasses : passes = []) : (idleWindDown s i passes).endDrainIfDone i =
      State.note { s with
        windows := s.windows.set i { generation := (s.window i).generation }
        keys := { slots := s.keys.slots.set i none, spares := freeSpares i s.keys.spares } }
      (.windowFree ((s.window i).ref i) false) := by
  rw [idleWindDown_endDrain drained,
    endDrain_frees (by rw [idleWindDown_reset]; exact noReset) (by rw [idleWindDown_window]; exact noPasses)]
  simp [idleWindDown, State.freeWindow, State.destroyKeys, State.setWindow, State.window, Window.freed, Window.ref,
    freeSpares_freeReserved]

theorem idleWindDown_erases (noReset : s.resetRec.progress = none) (drained : s.drained ((s.window i).ref i) = true)
    (toErase : passes ≠ []) : (idleWindDown s i passes).endDrainIfDone i = { s with
      windows := s.windows.set i { s.window i with state := .retiring .erasing, passes := passes }
      keys := { slots := s.keys.slots.set i none, spares := freeSpares i s.keys.spares }
      scrub := { s.scrub with queue := s.scrub.queue ++ [⟨.erase passes, (s.window i).ref i⟩] } } := by
  rw [idleWindDown_endDrain drained,
    endDrain_erases (by rw [idleWindDown_reset]; exact noReset) (by rw [idleWindDown_window]; exact toErase),
    idleWindDown_window]
  simp [idleWindDown, State.joinQueue, State.destroyKeys, State.setWindow, Window.ref, freeSpares_freeReserved]

end
/-! ### WINDOW_RETIRE -/

theorem freeReserved_getElem {i : WindowIdx} {spares : Vector Spare 2} {k : Fin 2}
    (reserved : spares[k] = .reserved i) :
    (freeReserved i spares)[k] = .free := by
  rw [freeReserved, mapVec_getElem, if_pos reserved]

theorem exec_windowDrainEnd {s : State} (powered : s.powered = true) (i : WindowIdx) :
    exec (.windowDrainEnd i) s = .next (closeEvent ((openEvent s).endDrainIfDone i)) := by
  change Host.Outcome.next (event (State.endDrainIfDone · i) s) = _
  rw [event, if_pos powered]

section

variable {s : State} {f : Frame} {index count p q r : Byte} {i : WindowIdx} {passes : List Pattern}
  (hs : s.ready) (hf : wholeFrame f 5) (named : index.toNat = i.val) (spelt : passesOf count p q r = some passes)
include hs hf named spelt

theorem exec_windowRetire_free (free : (s.window i).state = .free) :
    exec (.windowRetire f index count p q r) s = .next (s.answered f 0x13 .notFound .empty) :=
  next_answer hs.1 hf rfl (.inr hs.2) (by simp only [indexOf_eq named, spelt, heard_window, free]; rfl)

theorem exec_windowRetire_retiring (retiring : (s.window i).retiring = true) :
    exec (.windowRetire f index count p q r) s = .next (s.answered f 0x13 .state .empty) := by
  obtain ⟨phase, retiring⟩ := retiring_state retiring
  exact next_answer hs.1 hf rfl (.inr hs.2) (by simp only [indexOf_eq named, spelt, heard_window, retiring]; rfl)

variable (live : (s.window i).state = .opened ∨ (s.window i).state = .sealed)
include live

theorem exec_windowRetire_busy
    (busy : ((s.window i).kind = .print ∧ 0 < (s.window i).livePages) ∨ s.rekeyRunning i = true) :
    exec (.windowRetire f index count p q r) s = .next (s.answered f 0x13 .busy .empty) := by
  refine next_answer hs.1 hf rfl (.inr hs.2) ?_
  rcases live with live | live <;>
    (simp only [indexOf_eq named, spelt, heard_window, live]; exact if_pos busy)

theorem exec_windowRetire_accepted
    (free : ¬ (((s.window i).kind = .print ∧ 0 < (s.window i).livePages) ∨ s.rekeyRunning i = true)) :
    exec (.windowRetire f index count p q r) s =
      .next (closeEvent (((heard s f).retire i passes).answerStatus 0x13 .ok)) := by
  refine next_judged hs.1 hf rfl (.inr hs.2) ?_
  rcases live with live | live <;>
    (simp only [indexOf_eq named, spelt, heard_window, live]; exact congrArg closeEvent (if_neg free))

end

/-! ### What an accepted WINDOW_RETIRE leaves -/

section

variable {s : State} {i : WindowIdx} {passes : List Pattern}

theorem retire_responds {e : TrackerEntry} (mem : e ∈ s.tracker) (isHeld : e.heldFor ((s.window i).ref i) = true) :
    .response e.source.code e.tid .denied ∈ (s.retire i passes).emitted := by
  rw [retire_eq, (endDrainIfDone_ports _ i).1, windDown_emitted]
  exact List.mem_append_right _ (List.mem_map.mpr ⟨e, List.mem_filter.mpr ⟨mem, isHeld⟩, rfl⟩)

theorem retire_tracker : (s.retire i passes).tracker = s.tracker.filter (fun e => !e.heldFor ((s.window i).ref i)) := by
  simp [retire_eq]

theorem mem_retire_tids {x : Source × Tid} : x ∈ (s.retire i passes).tids ↔
    x ∈ s.tids ∧ ∀ e ∈ s.tracker, e.heldFor ((s.window i).ref i) = true → x ≠ (e.source, e.tid) := by
  rw [retire_eq, (endDrainIfDone_ports _ i).2.1, mem_windDown_tids]

theorem retire_path : (s.retire i passes).path =
    deniedPath s.path (s.tracker.filter (·.heldFor ((s.window i).ref i))).head? := by
  rw [retire_eq, (endDrainIfDone_pins_path _ i).2, windDown_path]

theorem retire_line (k : Fin 8) : (s.retire i passes).line k =
    if (s.line k).any (fun l => l.window == (s.window i).ref i) then (s.line k).bind invalidatedLine else s.line k := by
  rw [retire_eq, line_congr (endDrainIfDone_ports _ i).2.2, windDown_line]

theorem retire_line_kept {k : Fin 8} {l : Line} (found : s.line k = some l) (away : l.window ≠ (s.window i).ref i) :
    (s.retire i passes).line k = some l := by
  simp [retire_line, found, away]

theorem invalidatedLine_discarding {l l' : Line} (h : invalidatedLine l = some l') :
    ∃ filled us n data, l'.state = .valid filled us (n + 1) true data := by
  unfold invalidatedLine at h
  split at h
  next => cases h
  next filled us deliveries discard data _ =>
    split at h
    next => cases h
    next delivering =>
      obtain ⟨n, rfl⟩ := Nat.exists_eq_succ_of_ne_zero delivering
      cases h
      exact ⟨filled, us, n, data, rfl⟩

theorem retire_line_discarding {k : Fin 8} {l : Line} (found : (s.retire i passes).line k = some l)
    (ofWindow : l.window = (s.window i).ref i) : ∃ filled us n data, l.state = .valid filled us (n + 1) true data := by
  rw [retire_line] at found
  cases before : s.line k with
  | none => simp [before] at found
  | some l' =>
    rw [before] at found
    by_cases same : l'.window = (s.window i).ref i
    · exact invalidatedLine_discarding (by simpa [same] using found)
    · obtain rfl : l' = l := by simpa [same] using found
      exact absurd ofWindow same

theorem retire_queue_no_rekey {j : Job} (mem : j ∈ (s.retire i passes).scrub.queue) :
    ¬ (j.kind = .rekey ∧ j.window.index = i) := by
  rw [retire_eq] at mem
  rcases mem_endDrainIfDone_queue mem with old | erase
  · rw [windDown_queue] at old
    exact fun rekey => by simpa [isRekeyOf_iff.mpr rekey] using (List.mem_filter.mp old).2
  · exact fun ⟨rekey, _⟩ => erase rekey

theorem retire_chan {c : ChannelId} (holds : (s.chan c).job.any (·.isRekeyOf i) = true)
    (only : ∀ d, d ≠ c → (s.chan d).job.any (·.isRekeyOf i) = false) : (s.retire i passes).chan c = {} := by
  rw [retire_eq, endDrainIfDone_chan, windDown_chan holds only]

theorem retire_spare {k : Fin 2} (reserved : s.keys.spares[k] = .reserved i) :
    (s.retire i passes).keys.spares[k] = .free := by
  rw [retire_eq]
  refine endDrainIfDone_spare ?_
  rw [windDown_keys]
  exact freeReserved_getElem reserved

theorem retire_windows_of_left (left : (windDown s i passes).drained ((s.window i).ref i) = false) :
    (s.retire i passes).windows =
      s.windows.set i { s.window i with state := .retiring .draining, passes := passes } := by
  rw [retire_of_left left, windDown_windows]

theorem endDrain_slot (s : State) (i : WindowIdx) : (s.endDrain i).keys.slots[i] = none := by
  have destroyed : (s.destroyKeys i).keys.slots[i] = none := by simp [State.destroyKeys]
  unfold State.endDrain
  dsimp only
  (repeat' split) <;> exact destroyed

theorem retire_slot_of_drained (drained : (windDown s i passes).drained ((s.window i).ref i) = true) :
    (s.retire i passes).keys.slots[i] = none := by
  rw [retire_of_drained drained, endDrain_slot]

theorem retire_window_of_drained (noReset : s.resetRec.progress = none)
    (drained : (windDown s i passes).drained ((s.window i).ref i) = true) :
    (s.retire i passes).window i = if passes = [] then { generation := (s.window i).generation }
      else { s.window i with state := .retiring .erasing, passes := passes } := by
  rw [retire_of_drained drained]
  by_cases noPasses : passes = []
  · rw [endDrain_frees (by simpa using noReset) (by simpa using noPasses), if_pos noPasses]
    simp [State.freeWindow, State.window, State.setWindow, Window.freed, State.note, State.destroyKeys]
  · rw [endDrain_erases (by simpa using noReset) (by simpa using noPasses), if_neg noPasses]
    simp [State.joinQueue, State.window, State.setWindow, State.destroyKeys]

end

/-- What an accepted WINDOW_RETIRE leaves of a state (R31, R32, R33), by the reads, lines and jobs of the window. -/
structure RetireWork (s t : State) (i : WindowIdx) (passes : List Pattern) : Prop where
  responds : ∀ e ∈ s.tracker, e.heldFor ((s.window i).ref i) = true →
    .response e.source.code e.tid .denied ∈ t.emitted
  tracker : t.tracker = s.tracker.filter (fun e => !e.heldFor ((s.window i).ref i))
  tids : ∀ x, x ∈ t.tids ↔
    x ∈ s.tids ∧ ∀ e ∈ s.tracker, e.heldFor ((s.window i).ref i) = true → x ≠ (e.source, e.tid)
  path : t.path = deniedPath s.path (s.tracker.filter (·.heldFor ((s.window i).ref i))).head?
  kept : ∀ k l, s.line k = some l → l.window ≠ (s.window i).ref i → t.line k = some l
  discarding : ∀ k l, t.line k = some l → l.window = (s.window i).ref i →
    ∃ filled us n data, l.state = .valid filled us (n + 1) true data
  queue : ∀ j ∈ t.scrub.queue, ¬ (j.kind = .rekey ∧ j.window.index = i)
  chan : ∀ c, (s.chan c).job.any (·.isRekeyOf i) = true →
    (∀ d, d ≠ c → (s.chan d).job.any (·.isRekeyOf i) = false) → t.chan c = {}
  spare : ∀ k : Fin 2, s.keys.spares[k] = .reserved i → t.keys.spares[k] = .free
  left : (windDown s i passes).drained ((s.window i).ref i) = false →
    t.windows = s.windows.set i { s.window i with state := .retiring .draining, passes := passes }
  slot : (windDown s i passes).drained ((s.window i).ref i) = true → t.keys.slots[i] = none
  window : (windDown s i passes).drained ((s.window i).ref i) = true → t.window i =
    if passes = [] then { generation := (s.window i).generation }
    else { s.window i with state := .retiring .erasing, passes := passes }

theorem retire_work {s : State} (noReset : s.resetRec.progress = none) (i : WindowIdx) (passes : List Pattern) :
    RetireWork s (s.retire i passes) i passes where
  responds _ := retire_responds
  tracker := retire_tracker
  tids _ := mem_retire_tids
  path := retire_path
  kept _ _ := retire_line_kept
  discarding _ _ := retire_line_discarding
  queue _ := retire_queue_no_rekey
  chan _ := retire_chan
  spare _ := retire_spare
  left := retire_windows_of_left
  slot := retire_slot_of_drained
  window := retire_window_of_drained noReset

/-! ### WINDOW_RETIRE and WINDOW_DRAIN_END as events -/

section

variable {s : State} {f : Frame} {index count p q r : Byte} {i : WindowIdx} {passes : List Pattern}
  (hs : s.ready) (hf : wholeFrame f 5) (named : index.toNat = i.val) (spelt : passesOf count p q r = some passes)
  (live : (s.window i).state = .opened ∨ (s.window i).state = .sealed)
  (noPages : ¬ ((s.window i).kind = .print ∧ 0 < (s.window i).livePages)) (noJob : s.hasRekey i = false)
  (noHeld : s.tracker.all (fun e => !e.heldFor ((s.window i).ref i)) = true)
  (noLine : ∀ k, (s.line k).all (fun l => l.window != (s.window i).ref i) = true)

/-- A re-key job that runs on a channel is a re-key job of the window. -/
theorem rekeyRunning_of_no_job (noJob : s.hasRekey i = false) : s.rekeyRunning i = false := by
  obtain ⟨-, notHeld⟩ := Bool.or_eq_false_iff.mp noJob
  have notFound : s.channelWith (·.isRekeyOf i) = none := by simpa using notHeld
  refine List.any_eq_false.mpr fun c mem => ?_
  simp [List.find?_eq_none.mp notFound c mem]

include hs hf named spelt live noPages noJob noHeld noLine

theorem exec_windowRetire_idle : exec (.windowRetire f index count p q r) s = .next (closeEvent
    (((idleWindDown (heard s f) i passes).endDrainIfDone i).answerStatus 0x13 .ok)) := by
  rw [exec_windowRetire_accepted hs hf named spelt live (by simp [noPages, rekeyRunning_of_no_job noJob]), retire_eq,
    windDown_of_idle (s := heard s f) noJob noHeld noLine]

theorem exec_windowRetire_idle_left (left : s.drained ((s.window i).ref i) = false) :
    exec (.windowRetire f index count p q r) s = .next { s.answered f 0x13 .ok .empty with
      windows := s.windows.set i { s.window i with state := .retiring .draining, passes := passes }
      keys := { s.keys with spares := freeReserved i s.keys.spares } } := by
  rw [exec_windowRetire_idle hs hf named spelt live noPages noJob noHeld noLine, idleWindDown_left (s := heard s f) left]
  rfl

theorem exec_windowRetire_idle_frees (drained : s.drained ((s.window i).ref i) = true) (noPasses : passes = []) :
    exec (.windowRetire f index count p q r) s = .next { s.answered f 0x13 .ok .empty with
      windows := s.windows.set i { generation := (s.window i).generation }
      keys := { slots := s.keys.slots.set i none, spares := freeSpares i s.keys.spares }
      notices := pushNotice s.notices (.windowFree ((s.window i).ref i) false) } := by
  rw [exec_windowRetire_idle hs hf named spelt live noPages noJob noHeld noLine,
    idleWindDown_frees (s := heard s f) hs.2 drained noPasses]
  rfl

theorem exec_windowRetire_idle_erases (drained : s.drained ((s.window i).ref i) = true) (toErase : passes ≠ []) :
    exec (.windowRetire f index count p q r) s = .next { s.answered f 0x13 .ok .empty with
      windows := s.windows.set i { s.window i with state := .retiring .erasing, passes := passes }
      keys := { slots := s.keys.slots.set i none, spares := freeSpares i s.keys.spares }
      scrub := { s.scrub with queue := s.scrub.queue ++ [⟨.erase passes, (s.window i).ref i⟩] } } := by
  rw [exec_windowRetire_idle hs hf named spelt live noPages noJob noHeld noLine,
    idleWindDown_erases (s := heard s f) hs.2 drained toErase]
  rfl

end

/-- Settles O25: a retirement of a window that nothing holds up, the work of any accepted one, the refusals, and the
drain's end. -/
theorem windowsRetire : Obligations.WindowsRetire := by
  refine ⟨?_, ?_, ?_, ?_⟩
  · intro s f index count p q r i passes hs hf named spelt w ref live noPages noJob noHeld noLine answered
    exact ⟨exec_windowRetire_idle_left hs hf named spelt live noPages noJob noHeld noLine,
      exec_windowRetire_idle_frees hs hf named spelt live noPages noJob noHeld noLine,
      exec_windowRetire_idle_erases hs hf named spelt live noPages noJob noHeld noLine⟩
  · intro s f index count p q r i passes hs hf named spelt w ref left live noPages notRunning
    have accepted := exec_windowRetire_accepted hs hf named spelt live (by simpa [notRunning] using noPages)
    have work := retire_work (s := heard s f) hs.2 i passes
    have drained := windDown_drained (s := heard s f) (i := i) (passes := passes)
    generalize (heard s f).retire i passes = r at accepted work
    refine ⟨_, accepted, rfl, work.responds, work.tracker, work.tids, ?_, work.kept, work.discarding, work.queue, ?_,
      work.spare, fun left => work.left (Bool.eq_false_iff.mpr fun done => drained.mp done left),
      fun done => ⟨work.slot (drained.mpr done), work.window (drained.mpr done)⟩⟩
    · split
      next e first => exact work.path.trans (congrArg (deniedPath s.path) first)
      next first => exact work.path.trans (congrArg (deniedPath s.path) first)
    · intro c job holds kind index only
      have found : (s.chan c).job.any (·.isRekeyOf i) = true := by simp [holds, isRekeyOf_iff, kind, index]
      exact work.chan c found fun d other => option_any_eq_false (only d other)
  · intro s f index count p q r i hs hf named spelt
    obtain ⟨passes, spelt⟩ := Option.isSome_iff_exists.mp spelt
    exact ⟨exec_windowRetire_free hs hf named spelt, exec_windowRetire_retiring hs hf named spelt,
      exec_windowRetire_busy hs hf named spelt⟩
  · intro s i powered w ref keys draining drained
    rw [exec_windowDrainEnd powered, endDrainIfDone_of_drained (s := openEvent s) draining drained]
    refine ⟨fun reset => ?_, fun noReset noPasses => ?_, fun noReset toErase => ?_⟩
    · rw [endDrain_in_reset (s := openEvent s) i reset]
      rfl
    · rw [endDrain_frees (s := openEvent s) noReset noPasses]
      rfl
    · rw [endDrain_erases (s := openEvent s) noReset toErase]
      rfl

/-! ## The laws right after reset -/

theorem reset_window (i : WindowIdx) : State.reset.window i = {} := by
  simp [State.reset, State.blank, State.window]

theorem reset_page (i : Fin 16) : State.reset.page i = none := by
  simp [State.reset, State.blank, State.page]

theorem reset_slot (k : Colour) : State.reset.slot k = {} := by
  simp [State.reset, State.blank, State.slot]

theorem reset_gauge (k : Colour) : State.reset.gauge k = {} := by
  simp [State.reset, State.blank, State.gauge]

theorem reset_bank (k : BankId) : State.reset.nv.bank k = .blank := by
  cases k <;> rfl

theorem reset_commit : State.reset.commit = {} := rfl

/-- In the factory state account 0 is ACTIVE without a limit, and every other slot is UNUSED. -/
theorem reset_account (a : Fin 128) : State.reset.account a = if a = 0 then walkUpAccount else {} := by
  simp only [State.reset, State.blank, State.account, factoryAccounts, Fin.getElem_fin, Vector.getElem_set,
    Vector.getElem_replicate, Fin.ext_iff, eq_comm]
  rfl

theorem reset_reservedFor (a : Fin 128) : State.reset.reservedFor a = 0 := by
  have none : State.reset.livePages = [] := by simp [State.livePages, State.reset, State.blank]
  simp [State.reservedFor, none]

theorem clampTo_bool (b : Bool) : clampTo 0 1 b.toNat = b.toNat := by
  cases b <;> rfl

/-- R199: each default lies in its range. -/
theorem defaults_inRange : ({} : Settings).inRange := by
  intro n
  cases n with
  | flagAttn bit => exact clampTo_bool _
  | _ => decide

theorem reset_windowsApart : State.reset.windowsApart := by
  intro i j _ live
  simp [reset_window, Window.live] at live

theorem reset_gaugeLaw : State.reset.gaugeLaw := by
  intro k
  rw [reset_slot, reset_gauge]
  rfl

theorem reset_coverageLaw : State.reset.coverageLaw := by
  intro i p live
  simp [reset_page] at live

theorem reset_accountLaw : State.reset.accountLaw where
  within a := by
    rw [reset_account]
    split <;> simp [withinLimit, walkUpAccount]
  reserved a := by
    rw [reset_account, reset_reservedFor]
    split <;> rfl
  sized i p live := by simp [reset_page] at live
  billed i p live := by simp [reset_page] at live
  savedA := trivial
  savedB := trivial
  saving j copying := by simp [reset_commit] at copying

theorem reset_roomLaw : State.reset.roomLaw := by
  constructor <;> decide

theorem reset_meterLaw : State.reset.meterLaw where
  bounded := by simp [Counters.bounded, State.reset, State.blank]
  saved k x holds := by simp [reset_bank] at holds
  ordered x y holds := by cases holds
  committed _ k x holds := by simp [reset_bank] at holds
  target j copying := by simp [reset_commit] at copying
  copied j copying := by simp [reset_commit] at copying
  follows j copying := by simp [reset_commit] at copying

/-- Settles O59: every table is empty or in its factory state, and every setting at its default. -/
theorem lawsHoldAtReset : Obligations.LawsHoldAtReset :=
  ⟨reset_windowsApart, reset_gaugeLaw, reset_coverageLaw, reset_accountLaw, ⟨defaults_inRange, nofun⟩, reset_roomLaw,
    reset_meterLaw⟩

/-! ## Reads taken in plaintext access -/

@[simp] theorem raiseError_hits (s : State) (c : Capture) : (s.raiseError c).hits = s.hits := by
  unfold State.raiseError
  dsimp only
  split <;> rfl

@[simp] theorem startWake_hits (s : State) : s.startWake.hits = s.hits := by
  unfold State.startWake
  split <;> rfl

/-- Every read that a state has taken in plaintext access since another names a window that passes. -/
def takesPlain (passes : WindowRef → Prop) (s t : State) : Prop :=
  (∀ e ∈ t.tracker, e ∉ s.tracker → e.access = .decrypt → ∃ w, e.window = some w ∧ passes w)
    ∧ ∀ h ∈ t.hits, h ∉ s.hits → passes h.window

section

variable {passes : WindowRef → Prop} {s : State} {src : Source} {r : PageRequest}

theorem takesPlain_of_same {t : State} (tracker : t.tracker = s.tracker) (hits : t.hits = s.hits) :
    takesPlain passes s t :=
  ⟨fun e mem fresh => absurd (tracker ▸ mem) fresh, fun h mem fresh => absurd (hits ▸ mem) fresh⟩

theorem refuse_takesPlain (flag : PathFlag) (kind : Option ReqKind) (w : Option WindowRef) :
    takesPlain passes s (s.refuse flag kind r w) :=
  takesPlain_of_same (by simp) (by simp [State.refuse, State.respond])

theorem retry_takesPlain : takesPlain passes s (s.retry r) := takesPlain_of_same rfl rfl

theorem takeTracked_takesPlain {access : ReadAccess} {p : Place} (ref : Option PlaneRef) (state : ReadState)
    (standing : access = .decrypt → ∃ w, p.window = some w ∧ passes w) :
    takesPlain passes s (s.takeTracked src r access p ref state) := by
  unfold State.takeTracked
  split
  · refine ⟨fun e mem fresh => ?_, fun h mem fresh => absurd mem fresh⟩
    rcases List.mem_append.mp mem with old | new
    · exact absurd old fresh
    · rw [List.mem_singleton.mp new]
      exact standing
  · exact retry_takesPlain

theorem takeHit_takesPlain {w : WindowRef} (offset : Nat) (ref : Option PlaneRef) (i : Fin 8) (l : Line)
    (beats : List Beat) (standing : passes w) : takesPlain passes s (s.takeHit src r w offset ref i l beats) := by
  refine ⟨fun e mem fresh => absurd mem fresh, fun h mem fresh => ?_⟩
  rcases List.mem_append.mp mem with old | new
  · exact absurd old fresh
  · rw [List.mem_singleton.mp new]
    exact standing

theorem takeRead_takesPlain {access : ReadAccess} {p : Place} (ref : Option PlaneRef)
    (standing : access = .decrypt → ∃ w, p.window = some w ∧ passes w) :
    takesPlain passes s (s.takeRead src r access p ref) := by
  unfold State.takeRead
  dsimp only
  split
  · exact retry_takesPlain
  · split
    · exact takeTracked_takesPlain ref _ standing
    · split
      next w place =>
        split
        · obtain ⟨w', place', ok⟩ := standing rfl
          obtain rfl : w = w' := Option.some.inj (place.symm.trans place')
          exact takeHit_takesPlain _ ref _ _ _ ok
        · exact takeTracked_takesPlain ref _ standing
      next => exact takeTracked_takesPlain ref _ standing

theorem gateRead_takesPlain {i : WindowIdx} (standing : passes ((s.window i).ref i)) :
    takesPlain passes s (s.gateRead src r i) := by
  have placed : ReadAccess.decrypt = .decrypt → ∃ w, (s.placeIn i r).window = some w ∧ passes w :=
    fun _ => ⟨_, rfl, standing⟩
  unfold State.gateRead
  dsimp only
  split
  · split
    · exact refuse_takesPlain _ _ _
    · split
      · exact retry_takesPlain
      · exact takeRead_takesPlain _ placed
  · exact takeRead_takesPlain _ placed

theorem serveRead_takesPlain (standing : ∀ i, s.judgeAccess src r false = .plain i → passes ((s.window i).ref i)) :
    takesPlain passes s (s.serveRead r src) := by
  unfold State.serveRead
  split
  · exact refuse_takesPlain _ _ _
  · split
    · exact refuse_takesPlain _ _ _
    · split
      next => exact refuse_takesPlain _ _ _
      next => exact takeRead_takesPlain none nofun
      next i _ =>
        split
        · exact refuse_takesPlain _ _ _
        · exact takeRead_takesPlain none nofun
      next i plain => exact gateRead_takesPlain (standing i plain)

theorem intake_takesPlain {kind : ReqKind} {serve : Source → State → State}
    (served : ∀ src, sourceOf r.source = some src → takesPlain passes s (serve src s)) :
    takesPlain passes s (s.intake kind r serve) := by
  unfold State.intake
  split
  · exact takesPlain_of_same (by simp) (by simp)
  · split
    · exact takesPlain_of_same (by simp) (by simp [State.retry, State.respond, State.emit])
    · split
      · exact refuse_takesPlain _ _ _
      · split
        · exact refuse_takesPlain _ _ _
        · exact served _ ‹_›

/-- Steps 2 and 3 give a READ plaintext access in the window that holds its address, by its source's mode there and its
job tag (R20, R23, R24). -/
theorem judgeAccess_plain {i : WindowIdx} (plain : s.judgeAccess src r false = .plain i) :
    s.findWindow r.addr = some i ∧ ((s.window i).owner = 0 ∨ (s.window i).owner = r.jobTag)
      ∧ ((s.window i).modes.of src = .read ∨ (s.window i).modes.of src = .readWrite) := by
  unfold State.judgeAccess at plain
  split at plain
  next =>
    split at plain
    · cases plain
    · split at plain <;> cases plain
  next j found =>
    dsimp only at plain
    split at plain
    · cases plain
    · unfold Window.judgeMode at plain
      split at plain
      next => cases plain
      next => cases plain
      next mode =>
        split at plain
        next => cases plain
        next owner => cases plain; exact ⟨found, (ownerPasses_iff _ _).mp (by simpa using owner), .inl mode⟩
      next mode =>
        split at plain
        next owner => cases plain; exact ⟨found, (ownerPasses_iff _ _).mp owner, .inr mode⟩
        next => cases plain

end

/-- A window in which a read may be taken in plaintext access (R25). -/
def standsFor (r : PageRequest) (w : Window) : Prop :=
  w.live = true ∧ w.holdsSys r.addr = true ∧ (w.owner = 0 ∨ w.owner = r.jobTag)
    ∧ ∃ src, sourceOf r.source = some src ∧ (w.modes.of src = .read ∨ w.modes.of src = .readWrite)

theorem read_takesPlain (r : PageRequest) (s : State) :
    takesPlain (fun w => ∃ i, w = (s.window i).ref i ∧ standsFor r (s.window i)) s
      (s.intake .read r (fun src s => s.serveRead r src)) := by
  refine intake_takesPlain fun src cls => serveRead_takesPlain fun i plain => ?_
  obtain ⟨found, owner, mode⟩ := judgeAccess_plain plain
  obtain ⟨live, holds⟩ := findWindow_holds found
  exact ⟨i, rfl, live, holds, owner, src, cls, mode⟩

/-- Settles O12: of all that a READ can come to, only plaintext access in a window where its source has standing adds a
DECRYPT entry or a delivery from a line. -/
theorem plaintextNeedsStanding : Obligations.PlaintextNeedsStanding := by
  intro s t r run standing
  cases run
  unfold event
  split
  · obtain ⟨tracked, hit⟩ := read_takesPlain r (openEvent s)
    refine ⟨fun e mem fresh access => ?_, fun h mem fresh => hit h mem fresh⟩
    obtain ⟨w, named, i, rfl, stands⟩ := tracked e mem fresh access
    exact ⟨i, named, stands⟩
  · exact ⟨fun _ mem fresh => absurd mem fresh, fun _ mem fresh => absurd mem fresh⟩

end Sys2Proof.Machine.WindowsAndKeys
end

section
/-! SUPPORT. The line cipher and the posted-write queue: the length of each queue and the range of each setting, which
every step keeps; the cipher's units; the arbiter's grants; and the proofs of the statements on them. -/

namespace Sys2Proof.Machine.CipherAndQueue

open Sys2Proof Sys2Proof.Machine Sys2Proof.Machine.WindowsAndKeys

/-! ## Laws on the settings, the store, the queues and the notices -/

/-- A law that only the settings, the nonvolatile store, the posted writes, the tracker, the flushes and the notices
bear on, and that the end of an event keeps. -/
structure BlockLaw (p : State → Prop) : Prop where
  moved : ∀ {s t : State}, p s → t.settings = s.settings → t.nv = s.nv → t.pwq = s.pwq → t.tracker = s.tracker →
    t.flushes = s.flushes → t.notices = s.notices → p t
  closed : ∀ {s : State}, p s → p (closeEvent s)

section

variable {p : State → Prop} {body : State → State} {s : State}

theorem BlockLaw.event (law : BlockLaw p) (h : ∀ x, p x → p (body x)) (start : p s) : p (event body s) := by
  have opened : p (openEvent s) := law.moved start rfl rfl rfl rfl rfl rfl
  unfold Machine.event
  split
  · exact law.closed (h _ opened)
  · exact opened

theorem BlockLaw.receive (law : BlockLaw p) (h : ∀ x, p x → p (body x)) (cmd : Instr) (f : Frame) (start : p s) :
    p (receive cmd f body s) := by
  rcases receive_cases cmd f body s with ⟨-, e⟩ | ⟨-, -, e⟩ | ⟨-, -, -, -, e⟩ | ⟨-, -, -, -, e⟩ <;> rw [e]
  · apply law.moved start <;> simp
  · exact law.moved start rfl rfl rfl rfl rfl rfl
  · exact law.moved start rfl rfl rfl rfl rfl rfl
  · exact h _ (law.moved start rfl rfl rfl rfl rfl rfl)

theorem BlockLaw.answered (law : BlockLaw p) (start : p s) (code : Nat) (st : Status) (d : RespData) :
    p (s.answer code st d) :=
  law.moved start rfl rfl rfl rfl rfl rfl

/-- A judged command is answered without a change, or has its own rule carried out. -/
theorem judged_cases (code : Nat) (f : Frame) (inReset : Bool) (body : State → State) (s : State) :
    (∃ st, judged code f inReset body s = s.answerStatus code st) ∨ judged code f inReset body s = body s := by
  unfold Machine.judged
  split
  · exact .inl ⟨_, rfl⟩
  · split
    · exact .inl ⟨_, rfl⟩
    · exact .inr rfl

theorem BlockLaw.judged (law : BlockLaw p) (h : p s → p (body s)) (code : Nat) (f : Frame) (inReset : Bool)
    (start : p s) : p (judged code f inReset body s) := by
  rcases judged_cases code f inReset body s with ⟨st, e⟩ | e <;> rw [e]
  · exact law.answered start code st .empty
  · exact h start

theorem BlockLaw.judgeAwaiting (law : BlockLaw p) (judge : ∀ c x, p x → p (judge c x)) (start : p s) :
    p s.judgeAwaiting := by
  unfold State.judgeAwaiting
  split
  · exact judge _ _ (law.moved start rfl rfl rfl rfl rfl rfl)
  · exact start

/-- The end of a wake keeps what the judgements and the beginning of the waiting reset keep. -/
theorem BlockLaw.endWake (law : BlockLaw p) (judge : ∀ c x, p x → p (judge c x))
    (reset : ∀ x : State, p x → p x.beginWakeReset) (resetFirst : Bool) (start : p s) : p (s.endWake resetFirst) := by
  have reprobed : p (closeEvent ({ s with power := .run }.reprobeAll .wake)) :=
    law.closed (by apply law.moved start <;> simp)
  unfold State.endWake
  split
  · dsimp only
    split
    · exact law.judgeAwaiting judge (law.closed (reset _ reprobed))
    · exact reset _ (law.closed (law.judgeAwaiting judge reprobed))
  · exact start

/-- Every step keeps a law that the judgements, the events and the beginning of a waiting reset keep. -/
theorem BlockLaw.keptByStep (law : BlockLaw p) (judge : ∀ c x, p x → p (judge c x))
    (reset : ∀ x : State, p x → p x.beginWakeReset)
    (events : ∀ c x t, commandCode c = none → (∀ b, c ≠ .wakeEnd b) → p x → exec c x = .next t → p t) :
    keptByStep p := by
  intro s t start run
  unfold step at run
  split at run
  · cases run
    exact start
  next c rest _ =>
    have start : p { s with pending := rest } := law.moved start rfl rfl rfl rfl rfl rfl
    cases code : commandCode c with
    | some n =>
      obtain ⟨f, run'⟩ := exec_of_commandCode code { s with pending := rest }
      rw [exec_unique run run']
      exact law.event (fun x => law.receive (judge c) c f) start
    | none =>
      by_cases wake : ∃ b, c = .wakeEnd b
      · obtain ⟨b, rfl⟩ := wake
        cases run
        exact law.event (fun x => law.endWake judge reset b) start
      · exact events c _ t code (fun b e => wake ⟨b, e⟩) start run

end

/-! ## The stored settings -/

@[simp] theorem setBank_stored (nv : NvStore) (k : BankId) (x : Bank) : (nv.setBank k x).stored = nv.stored := by
  cases k <;> rfl

@[simp] theorem startCommit_stored (s : State) (c : BitVec 5) : (s.startCommit c).nv.stored = s.nv.stored := by
  simp [State.startCommit]

@[simp] theorem triggerCommit_stored (s : State) (c : Cause) : (s.triggerCommit c).nv.stored = s.nv.stored := by
  unfold State.triggerCommit
  split <;> simp

@[simp] theorem raiseSince_stored (s : State) : s.raiseSince.nv.stored = s.nv.stored := by
  unfold State.raiseSince
  dsimp only
  split <;> simp

@[simp] theorem startRemembered_stored (s : State) : s.startRemembered.nv.stored = s.nv.stored := by
  unfold State.startRemembered
  split <;> simp

@[simp] theorem commitDone_stored (s : State) : s.commitDone.nv.stored = s.nv.stored := by
  unfold State.commitDone
  split <;> simp

@[simp] theorem commitFailed_stored (s : State) : s.commitFailed.nv.stored = s.nv.stored := by
  unfold State.commitFailed
  split <;> simp

@[simp] theorem endCharged_stored (s : State) (i : Fin 16) (p : Page) (c : Option CancelCause) :
    (s.endCharged i p c).nv.stored = s.nv.stored := by
  unfold State.endCharged
  simp

@[simp] theorem cancelPage_stored (s : State) (c : CancelCause) (i : Fin 16) :
    (s.cancelPage c i).nv.stored = s.nv.stored := by
  unfold State.cancelPage
  (repeat' split) <;> simp

@[simp] theorem cancelAll_stored (s : State) : s.cancelAll.nv.stored = s.nv.stored := by
  unfold State.cancelAll
  exact State.foldl_frame (·.nv.stored) _ (fun s i => by simp) _ s

@[simp] theorem countBeat_stored (s : State) (r : Option PlaneRef) (n : Nat) (first : Bool) (b : Beat) :
    (s.countBeat r n first b).nv.stored = s.nv.stored := by
  unfold State.countBeat
  dsimp only
  (repeat' split) <;> simp

@[simp] theorem sendBeat_stored (s : State) (d : Delivery) : (s.sendBeat d).nv.stored = s.nv.stored := by
  simp [State.sendBeat]

@[simp] theorem deliverBeat_stored (s : State) (age : Nat) : (s.deliverBeat age).nv.stored = s.nv.stored := by
  unfold State.deliverBeat State.deliverTracked State.deliverHit
  dsimp only
  (repeat' split) <;> simp

@[simp] theorem writeSetting_stored (s : State) (n : SettingName) (v : Nat) :
    (s.writeSetting n v).nv.stored = s.nv.stored := by
  unfold State.writeSetting State.settingChanged
  (repeat' split) <;> simp

@[simp] theorem enterSleep_stored (s : State) : s.enterSleep.nv.stored = s.nv.stored := by
  simp [State.enterSleep]

@[simp] theorem beginReset_stored (s : State) (kind : ResetKind) : (s.beginReset kind).nv.stored = s.nv.stored := by
  simp [State.beginReset]

@[simp] theorem linkAsserted_stored (s : State) : s.linkAsserted.nv.stored = s.nv.stored := by
  unfold State.linkAsserted
  (repeat' split) <;> simp

@[simp] theorem beginWakeReset_stored (s : State) : s.beginWakeReset.nv.stored = s.nv.stored := by
  unfold State.beginWakeReset
  dsimp only
  (repeat' split) <;> simp

@[simp] theorem reloadSettings_stored (s : State) : s.reloadSettings.nv.stored = s.nv.stored := by
  unfold State.reloadSettings
  dsimp only
  (repeat' split) <;> simp

theorem judged_stored {body : State → State} (h : ∀ x : State, (body x).nv.stored = x.nv.stored) (code : Nat)
    (f : Frame) (inReset : Bool) (s : State) : (judged code f inReset body s).nv.stored = s.nv.stored := by
  rcases judged_cases code f inReset body s with ⟨st, e⟩ | e <;> rw [e]
  · rfl
  · exact h s

theorem judgePageCancel_stored (f : Frame) (n : BitVec 32) (s : State) :
    (judgePageCancel f n s).nv.stored = s.nv.stored :=
  judged_stored (fun s => by (repeat' split) <;> simp) _ _ _ _

theorem judgeCommit_stored (f : Frame) (s : State) : (judgeCommit f s).nv.stored = s.nv.stored :=
  judged_stored (fun s => by split <;> simp) _ _ _ _

theorem judgeConfigWrite_stored (f : Frame) (n : Byte) (v : BitVec 32) (s : State) :
    (judgeConfigWrite f n v s).nv.stored = s.nv.stored :=
  judged_stored (fun s => by split <;> simp) _ _ _ _

theorem judgeSleep_stored (f : Frame) (s : State) : (judgeSleep f s).nv.stored = s.nv.stored :=
  judged_stored (fun s => by (repeat' split) <;> simp) _ _ _ _

theorem judgeReset_stored (f : Frame) (s : State) : (judgeReset f s).nv.stored = s.nv.stored :=
  judged_stored (fun s => by simp) _ _ _ _

theorem judgeProvision_stored (f : Frame) (k : BitVec 256) (n : Serial) (o : StoreOutcome) (s : State) :
    (judgeProvision f k n o s).nv.stored = s.nv.stored :=
  judged_stored (fun s => by (repeat' split) <;> rfl) _ _ _ _

theorem judgeLock_stored (f : Frame) (o : StoreOutcome) (s : State) : (judgeLock f o s).nv.stored = s.nv.stored :=
  judged_stored (fun s => by (repeat' split) <;> rfl) _ _ _ _

/-- CONFIG_STORE leaves the stored settings as they are, or stores the working settings (R201). -/
theorem judgeConfigStore_stored (f : Frame) (o : StoreOutcome) (s : State) :
    (judgeConfigStore f o s).nv.stored = s.nv.stored ∨ (judgeConfigStore f o s).nv.stored = some s.settings := by
  unfold judgeConfigStore
  rcases judged_cases 0x62 f false _ s with ⟨st, e⟩ | e <;> rw [e]
  · exact .inl rfl
  · split
    · exact .inl rfl
    · cases o with
      | verified => exact .inr rfl
      | writeError | notVerified => exact .inl rfl

/-- A judgement leaves the stored settings as they are, or stores the working settings. -/
theorem judge_stored (c : Instr) (s : State) :
    (judge c s).nv.stored = s.nv.stored ∨ (judge c s).nv.stored = some s.settings := by
  cases touches : touchesStore c with
  | false => rw [(judge_keeps c s).store touches]; exact .inl rfl
  | true =>
    cases c with
    | pageCancel f n => exact .inl (judgePageCancel_stored f n s)
    | commit f => exact .inl (judgeCommit_stored f s)
    | configWrite f n v => exact .inl (judgeConfigWrite_stored f n v s)
    | configStore f o => exact judgeConfigStore_stored f o s
    | sleep f => exact .inl (judgeSleep_stored f s)
    | reset f => exact .inl (judgeReset_stored f s)
    | provision f k n o => exact .inl (judgeProvision_stored f k n o s)
    | lock f o => exact .inl (judgeLock_stored f o s)
    | beatDelivery | commitEnd | commitTimeout | pfailAssert | linkReset | resetComplete | wakeEnd => exact .inl rfl
    | _ => cases touches

theorem event_stored {body : State → State} (h : ∀ x : State, (body x).nv.stored = x.nv.stored) (s : State) :
    (event body s).nv.stored = s.nv.stored := by
  unfold event
  split
  · exact h (openEvent s)
  · rfl

/-- An event that loads no settings leaves the stored settings as they are. -/
theorem exec_stored {c : Instr} {s t : State} (code : commandCode c = none) (loads : touchesSettings c = false)
    (run : exec c s = .next t) : t.nv.stored = s.nv.stored := by
  cases touches : touchesStore c with
  | false => rw [(exec_keeps run).store touches]
  | true =>
    cases c with
    | beatDelivery age => cases run; exact event_stored (fun x => by simp) s
    | commitEnd verified => cases run; exact event_stored (fun x => by cases verified <;> simp) s
    | commitTimeout => cases run; exact event_stored (fun x => by simp) s
    | pfailAssert => cases run; exact event_stored (fun x => by split <;> simp) (s.setPfail true)
    | linkReset => cases run; exact event_stored (fun x => by split <;> simp) (s.setLinkrst true)
    | resetComplete | wakeEnd => cases loads
    | pageCancel | commit | configWrite | configStore | sleep | reset | provision | lock => cases code
    | _ => cases touches

/-! ## The ranges of the settings -/

theorem clampTo_idem {low high : Nat} (range : low ≤ high) (v : Nat) :
    clampTo low high (clampTo low high v) = clampTo low high v := by
  unfold clampTo
  split_ifs <;> omega

theorem clampShare_idem (v : Nat) : clampShare (clampShare v) = clampShare v := by
  have shares : clampShare v ∈ [4, 8, 16, 32, 64] := by
    unfold clampShare
    split_ifs <;> simp
  generalize clampShare v = w at shares ⊢
  fin_cases shares <;> rfl

/-- A value brought into a setting's range lies in it. -/
theorem clampSetting_idem (n : SettingName) (v : Nat) : clampSetting n (clampSetting n v) = clampSetting n v := by
  cases n with
  | scrubShare => exact clampShare_idem v
  | _ => exact clampTo_idem (by decide) v

theorem clampTo_flag (v : Nat) : clampTo 0 1 v = if v = 0 then 0 else 1 := by
  unfold clampTo
  split_ifs <;> omega

theorem getLsbD_putBit (x : BitVec 13) (b c : Fin 13) (on : Bool) :
    (putBit x b on).getLsbD c.val = if c = b then on else x.getLsbD c.val := by
  by_cases same : c = b
  · subst same
    cases on <;> simp [putBit]
  · have other : ¬ b.val = c.val := fun e => same (Fin.ext e.symm)
    cases on <;> simp [putBit, BitVec.getElem_twoPow, same, eq_comm, other]

/-- A setting written with a value of its range has that value. -/
theorem get_put_clamped (c : Settings) (n : SettingName) (v : Nat) :
    (c.put n (clampSetting n v)).get n = clampSetting n v := by
  cases n with
  | policy => simp only [clampSetting, clampTo_flag]; split <;> rfl
  | noticeAttn => simp only [clampSetting, clampTo_flag]; split <;> rfl
  | flagAttn b =>
    simp only [clampSetting, clampTo_flag, Settings.get, Settings.put, getLsbD_putBit, if_true]
    split <;> rfl
  | _ => rfl

/-- Writing a setting leaves every other as it is. -/
theorem get_put_ne (c : Settings) {n m : SettingName} (v : Nat) (differ : m ≠ n) : (c.put n v).get m = c.get m := by
  cases n with
  | flagAttn b =>
    cases m with
    | flagAttn b' =>
      have other : b' ≠ b := fun e => differ (by rw [e])
      simp only [Settings.get, Settings.put, getLsbD_putBit, if_neg other]
    | _ => rfl
  | _ => cases m <;> trivial

/-- R199, R200: the settings stay in their ranges where one of them is written with a value of its range. -/
theorem inRange_put {c : Settings} (ranged : c.inRange) (n : SettingName) (v : Nat) :
    (c.put n (clampSetting n v)).inRange := by
  intro m
  by_cases same : m = n
  · rw [same, get_put_clamped, clampSetting_idem]
  · rw [get_put_ne c _ same, ranged m]

theorem settingsLaw_blockLaw : BlockLaw State.settingsLaw where
  moved start settings nv _ _ _ _ := by
    unfold State.settingsLaw
    rw [settings, nv]
    exact start
  closed start := start

section

variable {s t : State}

theorem settingsLaw_of_same (start : s.settingsLaw) (settings : t.settings = s.settings)
    (stored : t.nv.stored = s.nv.stored) : t.settingsLaw := by
  unfold State.settingsLaw
  rw [settings, stored]
  exact start

theorem loadSettings_settingsLaw (start : ∀ c, s.nv.stored = some c → c.inRange) : s.loadSettings.settingsLaw := by
  unfold State.loadSettings
  split
  next c stored => exact ⟨start c stored, start⟩
  next => exact ⟨defaults_inRange, start⟩

theorem reloadSettings_settings (s : State) : s.reloadSettings.settings = s.loadSettings.settings := by
  unfold State.reloadSettings
  dsimp only
  (repeat' split) <;> simp

theorem reloadSettings_settingsLaw (start : s.settingsLaw) : s.reloadSettings.settingsLaw :=
  settingsLaw_of_same (loadSettings_settingsLaw start.2) (reloadSettings_settings s) (by simp)

theorem completeReset_settingsLaw (start : s.settingsLaw) : s.completeReset.settingsLaw := by
  unfold State.completeReset
  split
  · split
    · dsimp only
      split
      · exact settingsLaw_of_same (reloadSettings_settingsLaw start) (by simp) (by simp)
      · exact settingsLaw_of_same start (by simp) (by simp)
    · exact start
  · exact start

theorem writeSetting_settings (s : State) (n : SettingName) (v : Nat) :
    (s.writeSetting n v).settings = if s.settings.get n = v then s.settings else s.settings.put n v := by
  unfold State.writeSetting
  split <;> simp

theorem writeSetting_settingsLaw (start : s.settingsLaw) (n : SettingName) (v : Nat) :
    (s.writeSetting n (clampSetting n v)).settingsLaw := by
  constructor
  · rw [writeSetting_settings]
    split
    · exact start.1
    · exact inRange_put start.1 n v
  · rw [writeSetting_stored]
    exact start.2

theorem judgeConfigWrite_settingsLaw (f : Frame) (n : Byte) (v : BitVec 32) (start : s.settingsLaw) :
    (judgeConfigWrite f n v s).settingsLaw := by
  refine settingsLaw_blockLaw.judged (fun start => ?_) _ f _ start
  split
  · exact start
  · exact writeSetting_settingsLaw start _ _

/-- R199 to R201: CONFIG_WRITE brings its value into the setting's range, and CONFIG_STORE stores the working
settings. -/
theorem judge_settingsLaw (c : Instr) (s : State) (start : s.settingsLaw) : (judge c s).settingsLaw := by
  refine ⟨?_, ?_⟩
  · cases touches : touchesSettings c with
    | false => rw [(judge_keeps c s).settings touches]; exact start.1
    | true =>
      cases c with
      | configWrite f n v => exact (judgeConfigWrite_settingsLaw f n v start).1
      | resetComplete | powerOn | wakeEnd | powerLoss => exact start.1
      | _ => cases touches
  · rcases judge_stored c s with same | written
    · rw [same]; exact start.2
    · rw [written]; intro c e; cases e; exact start.1

theorem beginWakeReset_settingsLaw (start : s.settingsLaw) : s.beginWakeReset.settingsLaw :=
  settingsLaw_of_same start (by simp) (by simp)

@[simp] theorem carryDebts_settings (s : State) (x : Snapshot) : (s.carryDebts x).settings = s.settings := by
  unfold State.carryDebts
  exact State.foldl_frame (·.settings) _ (fun s d => by cases d <;> simp) _ s

@[simp] theorem restore_settings (s : State) : s.restore.settings = s.settings := by
  unfold State.restore
  split <;> simp

@[simp] theorem settleLines_settings (s : State) : s.settleLines.settings = s.settings := by
  unfold State.settleLines
  exact State.foldl_frame (·.settings) _ (fun s k => by split <;> simp) _ s

/-- POWER_ON loads the stored settings, or the defaults. -/
theorem powerUp_settingsLaw (start : s.settingsLaw) : s.powerUp.settingsLaw := by
  have loaded : { s.unpowered with powered := true }.loadSettings.settingsLaw := loadSettings_settingsLaw start.2
  unfold State.powerUp
  dsimp only
  split <;> exact settingsLaw_of_same loaded (by simp) (by simp)

theorem exec_settingsLaw (c : Instr) (s t : State) (code : commandCode c = none) (notWake : ∀ b, c ≠ .wakeEnd b)
    (start : s.settingsLaw) (run : exec c s = .next t) : t.settingsLaw := by
  cases loads : touchesSettings c with
  | false => exact settingsLaw_of_same start ((exec_keeps run).settings loads) (exec_stored code loads run)
  | true =>
    cases c with
    | resetComplete => cases run; exact settingsLaw_blockLaw.event (fun x => completeReset_settingsLaw) start
    | powerOn => cases run; exact settingsLaw_blockLaw.closed (powerUp_settingsLaw start)
    | powerLoss => cases run; exact ⟨defaults_inRange, start.2⟩
    | wakeEnd b => exact absurd rfl (notWake b)
    | configWrite => cases code
    | _ => cases loads

end

theorem stepKeepsSettingsLaw : keptByStep State.settingsLaw :=
  settingsLaw_blockLaw.keptByStep judge_settingsLaw (fun _ => beginWakeReset_settingsLaw) exec_settingsLaw

/-! ## The lengths of the queues -/

/-- No posted write, tracked read, flush or notice has been added. -/
def noLonger (s t : State) : Prop :=
  t.pwq.length ≤ s.pwq.length ∧ t.tracker.length ≤ s.tracker.length ∧ t.flushes.length ≤ s.flushes.length
    ∧ t.notices.length ≤ s.notices.length

section

variable {s t u : State}

theorem noLonger.refl (s : State) : noLonger s s := ⟨le_refl _, le_refl _, le_refl _, le_refl _⟩

theorem noLonger.trans (h : noLonger s t) (k : noLonger t u) : noLonger s u := by
  obtain ⟨queue, tracker, flushes, notices⟩ := h
  obtain ⟨queue', tracker', flushes', notices'⟩ := k
  exact ⟨queue'.trans queue, tracker'.trans tracker, flushes'.trans flushes, notices'.trans notices⟩

theorem roomLaw_of_noLonger (start : s.roomLaw) (h : noLonger s t) : t.roomLaw := by
  obtain ⟨queue, tracker, flushes, notices⟩ := h
  exact ⟨queue.trans start.queue, tracker.trans start.tracker, flushes.trans start.flushes,
    notices.trans start.notices⟩

theorem length_markOverflow (q : List QueuedNotice) : (markOverflow q).length = q.length := by
  fun_induction markOverflow q with
  | case1 => rfl
  | case2 => rfl
  | case3 n rest _ ih => rw [List.length_cons, ih, List.length_cons]

/-- R196: a notice that finds the queue full is dropped into a marking. -/
theorem length_pushNotice_le (q : List QueuedNotice) (n : Notice) (room : q.length ≤ Config.noticeCapacity) :
    (pushNotice q n).length ≤ Config.noticeCapacity := by
  unfold pushNotice
  split
  · rw [List.length_append]
    exact Nat.succ_le_of_lt ‹_›
  · rw [length_markOverflow]
    exact room

theorem length_foldl_pushNotice_le (ns : List Notice) (q : List QueuedNotice)
    (room : q.length ≤ Config.noticeCapacity) : (ns.foldl pushNotice q).length ≤ Config.noticeCapacity := by
  induction ns generalizing q with
  | nil => exact room
  | cons n ns ih => exact ih _ (length_pushNotice_le q n room)

theorem roomLaw_blockLaw : BlockLaw State.roomLaw where
  moved start _ _ pwq tracker flushes notices := by
    constructor
    · rw [pwq]; exact start.queue
    · rw [tracker]; exact start.tracker
    · rw [flushes]; exact start.flushes
    · rw [notices]; exact start.notices
  closed start := { start with notices := length_foldl_pushNotice_le _ _ start.notices }

/-! ### What shortens the posted-write queue and the tracker -/

theorem leaveHead_noLonger (s : State) (lost : Bool) : noLonger s (s.leaveHead lost) := by
  unfold State.leaveHead
  split
  · exact .refl s
  next e rest queue => simp [noLonger, queue]

theorem leaveEmpties_noLonger (n : Nat) (s : State) : noLonger s (s.leaveEmpties n) := by
  induction n generalizing s with
  | zero => exact .refl s
  | succ n ih =>
    unfold State.leaveEmpties
    split
    · split
      · exact (leaveHead_noLonger s false).trans (ih _)
      · exact .refl s
    · exact .refl s

theorem settleHead_noLonger (s : State) : noLonger s s.settleHead := leaveEmpties_noLonger _ s

theorem setHead_noLonger (s : State) (e : PwqEntry) : noLonger s (s.setHead e) := by
  unfold State.setHead
  split
  · exact .refl s
  next rest queue => simp [noLonger, queue]

theorem headWritten_noLonger (s : State) : noLonger s s.headWritten :=
  (leaveHead_noLonger s false).trans (settleHead_noLonger _)

theorem headDropped_noLonger (s : State) (flag : PathFlag) : noLonger s (s.headDropped flag) := by
  unfold State.headDropped
  split
  · exact .refl s
  next e _ _ =>
    have raised : noLonger s (s.raiseError (e.lossCapture flag)) := by simp [noLonger]
    exact (raised.trans (leaveHead_noLonger _ true)).trans (settleHead_noLonger _)

theorem setEntry_noLonger (s : State) (age : Nat) (e : TrackerEntry) : noLonger s (s.setEntry age e) := by
  simp [noLonger, State.setEntry]

theorem dropEntry_noLonger (s : State) (age : Nat) : noLonger s (s.dropEntry age) := by
  simp [noLonger, State.dropEntry, List.length_filter_le]

/-! ### The memory port -/

theorem issue_noLonger (s : State) (t : MemTid) (op : MemOp) (who : Consumer) (src : Source) (tag : JobTag) (a : Addr)
    (n : Nat) (beats : List DrivenBeat) : noLonger s (s.issue t op who src tag a n beats) := by
  simp [noLonger]

theorem grantRmw_noLonger (s : State) (t : MemTid) : noLonger s (s.grantRmw t) := by
  unfold State.grantRmw
  split
  · exact .refl s
  · exact (setHead_noLonger s _).trans (issue_noLonger _ _ _ _ _ _ _ _ _)

theorem grantDrain_noLonger (s : State) (t : MemTid) : noLonger s (s.grantDrain t) := by
  unfold State.grantDrain
  split
  · exact .refl s
  · exact (setHead_noLonger s _).trans (issue_noLonger _ _ _ _ _ _ _ _ _)

theorem grantDemand_noLonger (s : State) (t : MemTid) (age : Nat) : noLonger s (s.grantDemand t age) := by
  unfold State.grantDemand
  split
  · exact .refl s
  · exact (setEntry_noLonger s _ _).trans (issue_noLonger _ _ _ _ _ _ _ _ _)

theorem grant_noLonger (s : State) (t : MemTid) (g : Grantee) : noLonger s (s.grant t g) := by
  let booked : State := { s with mem := s.mem.booked g (anyAsks s.scrub.chans) }
  cases g with
  | rmwRead => exact grantRmw_noLonger booked t
  | drain => exact grantDrain_noLonger booked t
  | demand age => exact grantDemand_noLonger booked t age
  | prefetch i => simp [noLonger, State.grant]
  | scrub c => simp [noLonger, State.grant]

theorem grantNext_noLonger (s : State) : noLonger s s.grantNext := by
  unfold State.grantNext
  split
  · exact grant_noLonger s _ _
  · exact .refl s

theorem demandDone_noLonger (s : State) (age : Nat) (data : List Beat) : noLonger s (s.demandDone age data) := by
  unfold State.demandDone
  split
  · exact .refl s
  · exact setEntry_noLonger s _ _

theorem rmwDone_noLonger (s : State) (data : List Beat) : noLonger s (s.rmwDone data) := by
  unfold State.rmwDone
  split
  · exact .refl s
  · exact setHead_noLonger s _

theorem requestDone_noLonger (s : State) (r : MemRequest) (data : List Beat) : noLonger s (s.requestDone r data) := by
  unfold State.requestDone
  split
  · exact demandDone_noLonger s _ _
  · exact rmwDone_noLonger s _
  · exact headWritten_noLonger s
  · simp [noLonger]
  · split
    · simp [noLonger]
    · exact .refl s
  · exact .refl s

theorem demandFailed_noLonger (s : State) (age : Nat) (cause : FailCause) : noLonger s (s.demandFailed age cause) := by
  unfold State.demandFailed
  split
  · exact .refl s
  next e _ =>
    have told : noLonger s ((s.raiseError (e.failure cause)).respond e.source.code e.tid .fault) := by
      simp [noLonger]
    have freed (x : State) : noLonger x ((x.dropEntry age).freeTid e.source e.tid) := dropEntry_noLonger x age
    exact told.trans (freed _)

theorem requestFailed_noLonger (s : State) (r : MemRequest) (cause : FailCause) :
    noLonger s (s.requestFailed r cause) := by
  unfold State.requestFailed
  split
  · exact demandFailed_noLonger s _ _
  · exact headDropped_noLonger s _
  · exact headDropped_noLonger s _
  · exact .refl s
  · split
    · simp [noLonger]
    · exact .refl s
  · exact .refl s

theorem memoryResponse_noLonger (s : State) (t : MemTid) (error : Bool) (beats : Vector MemBeat 8) :
    noLonger s (s.memoryResponse t error beats) := by
  unfold State.memoryResponse
  split
  · simp [noLonger]
  · simp [noLonger]
  · dsimp only
    split
    · exact requestDone_noLonger (s.setMemTid t .free) _ _
    · exact requestFailed_noLonger (s.setMemTid t .free) _ _

theorem memoryTimeout_noLonger (s : State) (t : MemTid) : noLonger s (s.memoryTimeout t) := by
  unfold State.memoryTimeout
  split
  · exact requestFailed_noLonger (s.setMemTid t _) _ _
  · exact .refl s

/-! ### Reads and flushes on their way to an answer -/

theorem releaseHeld_noLonger (s : State) (age : Nat) : noLonger s (s.releaseHeld age) := by
  unfold State.releaseHeld
  split
  · split
    · exact setEntry_noLonger s _ _
    · exact .refl s
  · exact .refl s

theorem completeFlush_noLonger (s : State) (id : Nat) : noLonger s (s.completeFlush id) := by
  unfold State.completeFlush
  split
  · split
    · simp [noLonger, List.length_filter_le]
    · exact .refl s
  · exact .refl s

theorem endDelivery_noLonger (s : State) (d : Delivery) : noLonger s (s.endDelivery d) := by
  simp [noLonger]

theorem deliverTracked_noLonger (s : State) (e : TrackerEntry) (beats : List Beat) :
    noLonger s (s.deliverTracked e beats) := by
  have sent : noLonger s (s.sendBeat (e.delivery beats)) := by simp [noLonger]
  have ended (x : State) (moved : Bool) : noLonger x (x.abortIfPrinting moved) := by simp [noLonger]
  unfold State.deliverTracked
  dsimp only
  refine .trans ?_ (ended _ _)
  split
  · exact (sent.trans (dropEntry_noLonger _ _)).trans (endDelivery_noLonger _ _)
  · exact sent.trans (setEntry_noLonger _ _ _)

theorem deliverBeat_noLonger (s : State) (age : Nat) : noLonger s (s.deliverBeat age) := by
  unfold State.deliverBeat
  split
  · split
    · exact deliverTracked_noLonger s _ _
    · exact .refl s
  · split
    · simp [noLonger]
    · exact .refl s

theorem denyHeldReads_noLonger (s : State) (w : WindowRef) : noLonger s (s.denyHeldReads w) := by
  have kept (get : State → Nat) (h : ∀ x e, get (State.denyHeld x e) = get x) (l : List TrackerEntry) :
      get (l.foldl State.denyHeld s) = get s := State.foldl_frame get _ h l s
  refine ⟨?_, List.length_filter_le _ _, ?_, ?_⟩
  · exact le_of_eq (kept (·.pwq.length) (fun x e => by simp) _)
  · exact le_of_eq (kept (·.flushes.length) (fun x e => by simp) _)
  · exact le_of_eq (kept (·.notices.length) (fun x e => by simp) _)

theorem retire_noLonger (s : State) (i : WindowIdx) (passes : List Pattern) : noLonger s (s.retire i passes) := by
  have ended (x : State) (p : Line → Bool) : noLonger x (((x.invalidateLines p).endRekey i).endDrainIfDone i) := by
    simp [noLonger]
  exact (denyHeldReads_noLonger (s.setWindow i _) _).trans (ended _ _)

/-! ### Resets -/

theorem dropTraffic_noLonger (s : State) : noLonger s s.dropTraffic := by
  simp [noLonger, State.dropTraffic, List.length_filter_le]

theorem recordReset_noLonger (s : State) (kind : ResetKind) : noLonger s (s.recordReset kind) := by
  cases kind <;> simp [noLonger, State.recordReset]

theorem beginReset_noLonger (s : State) (kind : ResetKind) : noLonger s (s.beginReset kind) := by
  have aborted (x : State) : noLonger x (x.abortEntry .reset) := by simp [noLonger]
  have stopped (x : State) : noLonger x x.cancelAll.stopScrub := by simp [noLonger]
  exact (((recordReset_noLonger s kind).trans (aborted _)).trans (dropTraffic_noLonger _)).trans (stopped _)

theorem linkAsserted_noLonger (s : State) : noLonger s s.linkAsserted := by
  unfold State.linkAsserted
  split
  · simp [noLonger]
  · split
    · exact .refl s
    · exact .refl s
    · exact beginReset_noLonger s .linkReset

theorem beginWakeReset_noLonger (s : State) : noLonger s s.beginWakeReset := by
  unfold State.beginWakeReset
  split
  · dsimp only
    split
    · simp [noLonger]
    · exact beginReset_noLonger { s with wakeReset := false } .linkReset
  · exact .refl s

end

/-! ### Requests -/

section

variable {s : State} {src : Source} {r : PageRequest}

theorem refuse_roomLaw (start : s.roomLaw) (flag : PathFlag) (kind : Option ReqKind) (w : Option WindowRef) :
    (s.refuse flag kind r w).roomLaw :=
  roomLaw_of_noLonger start (by simp [noLonger])

theorem retry_roomLaw (start : s.roomLaw) : (s.retry r).roomLaw := roomLaw_of_noLonger start (by simp [noLonger])

/-- R64, R65: a read takes a tracker entry only where one is free. -/
theorem takeTracked_roomLaw (start : s.roomLaw) (access : ReadAccess) (p : Place) (ref : Option PlaneRef)
    (state : ReadState) : (s.takeTracked src r access p ref state).roomLaw := by
  unfold State.takeTracked
  split
  next room =>
    refine { start with tracker := ?_ }
    rw [State.takeTid_tracker, State.nextSeq_tracker, List.length_append]
    exact room
  next => exact retry_roomLaw start

theorem takeHit_roomLaw (start : s.roomLaw) (w : WindowRef) (offset : Nat) (ref : Option PlaneRef) (i : Fin 8)
    (l : Line) (beats : List Beat) : (s.takeHit src r w offset ref i l beats).roomLaw :=
  roomLaw_of_noLonger start (by simp [noLonger])

theorem takeRead_roomLaw (start : s.roomLaw) (access : ReadAccess) (p : Place) (ref : Option PlaneRef) :
    (s.takeRead src r access p ref).roomLaw := by
  unfold State.takeRead
  dsimp only
  split
  · exact retry_roomLaw start
  · split
    · exact takeTracked_roomLaw start _ _ _ _
    · split
      · split
        · exact takeHit_roomLaw start _ _ _ _ _ _
        · exact takeTracked_roomLaw start _ _ _ _
      · exact takeTracked_roomLaw start _ _ _ _

theorem gateRead_roomLaw (start : s.roomLaw) (i : WindowIdx) : (s.gateRead src r i).roomLaw := by
  unfold State.gateRead
  dsimp only
  split
  · split
    · exact refuse_roomLaw start _ _ _
    · split
      · exact retry_roomLaw start
      · exact takeRead_roomLaw start _ _ _
  · exact takeRead_roomLaw start _ _ _

theorem serveRead_roomLaw (start : s.roomLaw) : (s.serveRead r src).roomLaw := by
  unfold State.serveRead
  split
  · exact refuse_roomLaw start _ _ _
  · split
    · exact refuse_roomLaw start _ _ _
    · split
      · exact refuse_roomLaw start _ _ _
      · exact takeRead_roomLaw start _ _ _
      · split
        · exact refuse_roomLaw start _ _ _
        · exact takeRead_roomLaw start _ _ _
      · exact gateRead_roomLaw start _

/-- R47, R48: a write joins the queue only where a place is free, and the empty entries at its head then leave. -/
theorem acceptWrite_roomLaw (start : s.roomLaw) (room : s.pwq.length < Config.pwqCapacity) (access : WriteAccess)
    (p : Place) (received : List WriteBeat) : (s.acceptWrite src r access p received).roomLaw := by
  have joined {x : State} (kept : noLonger s x) (e : PwqEntry) :
      (({ x with pwq := x.pwq ++ [e] }.nextSeq).respond r.source r.tid .okay).roomLaw := by
    obtain ⟨queue, tracker, flushes, notices⟩ := kept
    refine ⟨?_, tracker.trans start.tracker, flushes.trans start.flushes, notices.trans start.notices⟩
    rw [State.respond_pwq, State.nextSeq_pwq, List.length_append]
    exact Nat.succ_le_of_lt (queue.trans_lt room)
  unfold State.acceptWrite
  dsimp only
  refine roomLaw_of_noLonger (joined ?_ _) (settleHead_noLonger _)
  split <;> split <;> simp [noLonger]

theorem takeWrite_roomLaw (start : s.roomLaw) (access : WriteAccess) (p : Place) (received : List WriteBeat) :
    (s.takeWrite src r access p received).roomLaw := by
  unfold State.takeWrite
  split
  · exact retry_roomLaw start
  · split
    · exact acceptWrite_roomLaw start ‹_› access p received
    · exact retry_roomLaw start

theorem serveWrite_roomLaw (start : s.roomLaw) (beats : Vector WriteBeat 8) : (s.serveWrite r beats src).roomLaw := by
  unfold State.serveWrite
  dsimp only
  split
  · exact refuse_roomLaw start _ _ _
  · split
    · exact refuse_roomLaw start _ _ _
    · split
      · exact refuse_roomLaw start _ _ _
      · exact takeWrite_roomLaw start _ _ _
      · exact takeWrite_roomLaw start _ _ _
      · exact takeWrite_roomLaw start _ _ _

/-- R59: a flush takes a place of the list only where one is free, and marks the posted writes. -/
theorem serveFlush_roomLaw (start : s.roomLaw) : (s.serveFlush r src).roomLaw := by
  unfold State.serveFlush
  split
  · exact refuse_roomLaw start _ _ _
  · split
    · exact roomLaw_of_noLonger start (by simp [noLonger])
    · split
      next room =>
        unfold State.takeFlush
        refine { start with queue := ?_, flushes := ?_ }
        · simpa using start.queue
        · simp only [State.takeTid_flushes, State.nextSeq_flushes, List.length_append]
          exact room
      next => exact retry_roomLaw start

theorem intake_roomLaw {serve : Source → State → State} (start : s.roomLaw) (kind : ReqKind) (r : PageRequest)
    (served : ∀ src, (serve src s).roomLaw) : (s.intake kind r serve).roomLaw := by
  unfold State.intake
  split
  · exact roomLaw_of_noLonger start (by simp [noLonger])
  · split
    · exact roomLaw_of_noLonger start (by simp [noLonger])
    · split
      · exact refuse_roomLaw start _ _ _
      · split
        · exact refuse_roomLaw start _ _ _
        · exact served _

end

/-! ### The judgements -/

theorem answerStatus_noLonger (s : State) (code : Nat) (st : Status) : noLonger s (s.answerStatus code st) := .refl s

theorem judged_noLonger {body : State → State} (h : ∀ x, noLonger x (body x)) (code : Nat) (f : Frame)
    (inReset : Bool) (s : State) : noLonger s (judged code f inReset body s) := by
  rcases judged_cases code f inReset body s with ⟨st, e⟩ | e <;> rw [e]
  · exact .refl s
  · exact h s

theorem judgeWindowRetire_noLonger (f : Frame) (i n p q r : Byte) (s : State) :
    noLonger s (judgeWindowRetire f i n p q r s) := by
  refine judged_noLonger (fun s => ?_) _ f _ s
  split
  · split
    · exact .refl s
    · exact .refl s
    · split
      · exact .refl s
      · exact (retire_noLonger s _ _).trans (answerStatus_noLonger _ _ _)
  · exact .refl s

theorem judgeNoticeRead_noLonger (f : Frame) (s : State) : noLonger s (judgeNoticeRead f s) := by
  refine judged_noLonger (fun s => ?_) _ f _ s
  split
  · exact .refl s
  next notices => simp [noLonger, notices]

theorem judgeReset_noLonger (f : Frame) (s : State) : noLonger s (judgeReset f s) :=
  judged_noLonger (fun s => (answerStatus_noLonger s 0x79 .ok).trans (beginReset_noLonger _ .command)) _ f _ s

theorem judged_notices {body : State → State} (h : ∀ x : State, (body x).notices = x.notices) (code : Nat) (f : Frame)
    (inReset : Bool) (s : State) : (judged code f inReset body s).notices = s.notices := by
  rcases judged_cases code f inReset body s with ⟨st, e⟩ | e <;> rw [e]
  · rfl
  · exact h s

/-- No judgement but those of NOTICE_READ and RESET changes the notice queue. -/
theorem judge_notices {c : Instr} (notRead : ∀ f, c ≠ .noticeRead f) (notReset : ∀ f, c ≠ .reset f) (s : State) :
    (judge c s).notices = s.notices := by
  cases c with
  | noticeRead f => exact absurd rfl (notRead f)
  | reset f => exact absurd rfl (notReset f)
  | windowPolicy | windowSeal | windowRetire | pageCancel | pageQuery | accountCreate | accountSetLimit
  | accountResetUsage | accountClearCounters | accountSuspend | accountResume | accountDelete | accountRead | meterRead
  | commit | cartQuery | cartReprobe | scrubAbandon | scrubQuery | configRead | configWrite | configStore | errorRead
  | sleep | ident | provision | lock =>
    refine judged_notices (fun s => ?_) _ _ _ s
    (repeat' split) <;> simp
  | windowOpen | windowRekey | windowQuery | scrubSuspend | scrubResume =>
    refine judged_notices (fun s => ?_) _ _ _ s
    dsimp only
    (repeat' split) <;> simp
  | pageOpen =>
    refine judged_notices (fun s => ?_) _ _ _ s
    unfold State.openPage
    dsimp only
    (repeat' split) <;> simp
  | _ => rfl

/-- A judgement adds to no queue. -/
theorem judge_noLonger (c : Instr) (s : State) : noLonger s (judge c s) := by
  cases c with
  | windowRetire f i n p q r => exact judgeWindowRetire_noLonger f i n p q r s
  | noticeRead f => exact judgeNoticeRead_noLonger f s
  | reset f => exact judgeReset_noLonger f s
  | read | write | flush | memoryGrant | memoryResponse | memoryTimeout | heldReadRelease | flushComplete | beatDelivery
  | linkReset | powerOn | wakeEnd | powerLoss => exact .refl s
  | _ =>
    refine ⟨?_, ?_, ?_, ?_⟩
    · rw [(judge_keeps _ s).writes rfl]
    · rw [(judge_keeps _ s).reads rfl]
    · rw [(judge_keeps _ s).flushes rfl]
    · rw [judge_notices (by simp) (by simp) s]

/-! ### The events -/

theorem event_roomLaw {body : State → State} (h : ∀ x, noLonger x (body x)) {s : State} (start : s.roomLaw) :
    (event body s).roomLaw :=
  roomLaw_blockLaw.event (fun x room => roomLaw_of_noLonger room (h x)) start

@[simp] theorem carryDebts_queues (s : State) (x : Snapshot) :
    (s.carryDebts x).pwq = s.pwq ∧ (s.carryDebts x).tracker = s.tracker ∧ (s.carryDebts x).flushes = s.flushes
      ∧ (s.carryDebts x).notices = s.notices := by
  unfold State.carryDebts
  exact ⟨State.foldl_frame (·.pwq) _ (fun s d => by cases d <;> simp) _ s,
    State.foldl_frame (·.tracker) _ (fun s d => by cases d <;> simp) _ s,
    State.foldl_frame (·.flushes) _ (fun s d => by cases d <;> simp) _ s,
    State.foldl_frame (·.notices) _ (fun s d => by cases d <;> simp) _ s⟩

@[simp] theorem restore_queues (s : State) :
    s.restore.pwq = s.pwq ∧ s.restore.tracker = s.tracker ∧ s.restore.flushes = s.flushes
      ∧ s.restore.notices = s.notices := by
  unfold State.restore
  split <;> simp

@[simp] theorem settleLines_queues (s : State) :
    s.settleLines.pwq = s.pwq ∧ s.settleLines.tracker = s.tracker ∧ s.settleLines.flushes = s.flushes
      ∧ s.settleLines.notices = s.notices := by
  unfold State.settleLines
  exact ⟨State.foldl_frame (·.pwq) _ (fun s k => by split <;> simp) _ s,
    State.foldl_frame (·.tracker) _ (fun s k => by split <;> simp) _ s,
    State.foldl_frame (·.flushes) _ (fun s k => by split <;> simp) _ s,
    State.foldl_frame (·.notices) _ (fun s k => by split <;> simp) _ s⟩

theorem powerUp_eq (s : State) :
    s.powerUp = if (poweredUp s).pins.linkrst then (poweredUp s).beginReset .linkReset else poweredUp s := rfl

/-- POWER_ON sets the part up with nothing in any queue. -/
theorem powerUp_noLonger (s : State) : noLonger State.blank s.powerUp := by
  have setUp : noLonger State.blank (poweredUp s) := by
    simp [noLonger, poweredUp, State.unpowered]
  rw [powerUp_eq]
  split
  · exact setUp.trans (beginReset_noLonger _ _)
  · exact setUp

theorem blank_roomLaw : State.blank.roomLaw := by
  constructor <;> decide

theorem judge_roomLaw (c : Instr) (s : State) (start : s.roomLaw) : (judge c s).roomLaw :=
  roomLaw_of_noLonger start (judge_noLonger c s)

theorem unknownFrame_roomLaw {s : State} (start : s.roomLaw) (f : Frame) (code : Byte) :
    (s.unknownFrame f code).roomLaw := by
  unfold State.unknownFrame
  split
  · exact roomLaw_of_noLonger start (by simp [noLonger])
  · split
    · exact start
    · exact roomLaw_blockLaw.receive (judge_roomLaw (.unknownCommand f code)) _ f start

theorem exec_roomLaw (c : Instr) (s t : State) (code : commandCode c = none) (notWake : ∀ b, c ≠ .wakeEnd b)
    (start : s.roomLaw) (run : exec c s = .next t) : t.roomLaw := by
  have law := roomLaw_blockLaw
  cases c with
  | read r =>
    cases run
    exact law.event (fun x room => intake_roomLaw room .read r fun _ => serveRead_roomLaw room) start
  | write r beats =>
    cases run
    exact law.event (fun x room => intake_roomLaw room .write r fun _ => serveWrite_roomLaw room beats) start
  | flush r =>
    cases run
    exact law.event (fun x room => intake_roomLaw room .flush r fun _ => serveFlush_roomLaw room) start
  | memoryGrant => cases run; exact event_roomLaw grantNext_noLonger start
  | memoryResponse t error beats =>
    cases run
    exact event_roomLaw (fun x => memoryResponse_noLonger x t error beats) start
  | memoryTimeout t => cases run; exact event_roomLaw (fun x => memoryTimeout_noLonger x t) start
  | heldReadRelease age => cases run; exact event_roomLaw (fun x => releaseHeld_noLonger x age) start
  | flushComplete id => cases run; exact event_roomLaw (fun x => completeFlush_noLonger x id) start
  | beatDelivery age => cases run; exact event_roomLaw (fun x => deliverBeat_noLonger x age) start
  | unknownCommand f n => cases run; exact law.event (fun x room => unknownFrame_roomLaw room f n) start
  | linkReset =>
    cases run
    refine event_roomLaw (s := s.setLinkrst true) (fun x => ?_) (roomLaw_of_noLonger start (.refl s))
    split
    · exact .refl x
    · exact linkAsserted_noLonger x
  | powerOn => cases run; exact law.closed (roomLaw_of_noLonger blank_roomLaw (powerUp_noLonger s))
  | powerLoss => cases run; exact roomLaw_of_noLonger blank_roomLaw (by simp [noLonger, State.unpowered])
  | wakeEnd b => exact absurd rfl (notWake b)
  | tidQuarantineEnd | discardTimerExpiry | windowDrainEnd | commitEnd | commitTimeout | settlingExpiry
  | cartRequestSent | cartRequestRefused | replyWindowExpiry | attemptGapExpiry | helloReply | proveReply | debitReply
  | scrubJobAssign | chunkLock | resetWindowsFreed | resetComplete | sleepEntered =>
    cases run
    exact event_roomLaw (fun x => by (repeat' split) <;> simp [noLonger]) start
  | presenceAssert | presenceDeassert | pfailAssert | pfailDeassert | linkrstDeassert =>
    cases run
    exact event_roomLaw (fun x => by (repeat' split) <;> simp [noLonger])
      (roomLaw_of_noLonger start (by simp [noLonger]))
  | _ => cases code

theorem stepKeepsRoomLaw : keptByStep State.roomLaw :=
  roomLaw_blockLaw.keptByStep judge_roomLaw (fun x room => roomLaw_of_noLonger room (beginWakeReset_noLonger x))
    exec_roomLaw

/-- Settles O58: no judgement, event or reset takes a setting out of its range, and none fills a queue past its
capacity. -/
theorem stepKeepsRangesAndRoom : Obligations.StepKeepsRangesAndRoom := ⟨stepKeepsSettingsLaw, stepKeepsRoomLaw⟩

theorem closeEvent_queues (s : State) :
    (closeEvent s).pwq = s.pwq ∧ (closeEvent s).tracker = s.tracker ∧ (closeEvent s).flushes = s.flushes :=
  ⟨rfl, rfl, rfl⟩

theorem powerUp_queues (s : State) : s.powerUp.pwq = [] ∧ s.powerUp.tracker = [] ∧ s.powerUp.flushes = [] := by
  obtain ⟨queue, tracker, flushes, -⟩ := powerUp_noLonger s
  exact ⟨List.length_eq_zero_iff.mp (Nat.le_zero.mp queue), List.length_eq_zero_iff.mp (Nat.le_zero.mp tracker),
    List.length_eq_zero_iff.mp (Nat.le_zero.mp flushes)⟩

/-- Settles O50: POWER_ON sets the part up with empty queues, and its notices join only the notice queue. -/
theorem powerOnEmptiesQueues : Obligations.PowerOnEmptiesQueues := by
  intro s
  obtain ⟨queue, tracker, flushes⟩ := powerUp_queues s
  obtain ⟨queue', tracker', flushes'⟩ := closeEvent_queues s.powerUp
  refine ⟨_, exec_powerOn s, queue'.trans queue, flushes'.trans flushes, ?_, ?_⟩
  · rw [tracker', tracker]
    exact fun e mem => absurd mem List.not_mem_nil
  · rw [queue', queue]
    exact fun e mem => absurd mem List.not_mem_nil

/-! ## The units of a beat under the cipher -/

theorem decryptUnit_encryptUnit (key : Option KeyRef) (offset : Nat) (u : CipherUnit) :
    decryptUnit key offset (encryptUnit key offset u) = u :=
  Equiv.symm_apply_apply _ _

theorem lowUnit_joinUnits (high low : CipherUnit) : lowUnit (joinUnits high low) = low :=
  BitVec.extractLsb'_append_eq_right

theorem highUnit_joinUnits (high low : CipherUnit) : highUnit (joinUnits high low) = high :=
  BitVec.extractLsb'_append_eq_left

theorem joinUnits_units (b : Beat) : joinUnits (highUnit b) (lowUnit b) = b :=
  BitVec.extractLsb'_append_extractLsb'

/-- One function of offset and unit after another acts as their composition. -/
theorem mapUnits_mapUnits (f g : Nat → CipherUnit → CipherUnit) (offset : Nat) (data : List Beat) :
    mapUnits f offset (mapUnits g offset data) = mapUnits (fun off u => f off (g off u)) offset data := by
  induction data generalizing offset with
  | nil => rfl
  | cons b bs ih => simp only [mapUnits, lowUnit_joinUnits, highUnit_joinUnits, ih]

theorem mapUnits_id (offset : Nat) (data : List Beat) : mapUnits (fun _ u => u) offset data = data := by
  induction data generalizing offset with
  | nil => rfl
  | cons b bs ih => simp only [mapUnits, joinUnits_units, ih]

/-- R49: a full unit is encrypted at acceptance. -/
theorem treatUnit_full (key : Option KeyRef) (offset : Nat) (u : CipherUnit) :
    treatUnit key offset (BitVec.allOnes 16) u = encryptUnit key offset u := rfl

theorem treatBeats_data_of_full (key : Option KeyRef) (offset : Nat) (beats : List QueuedBeat)
    (full : ∀ b ∈ beats, b.mask = BitVec.allOnes 32) :
    (treatBeats key offset beats).map (·.data) = mapUnits (encryptUnit key) offset (beats.map (·.data)) := by
  induction beats generalizing offset with
  | nil => rfl
  | cons b bs ih =>
    obtain ⟨whole, rest⟩ := List.forall_mem_cons.mp full
    have low : lowMask b.mask = BitVec.allOnes 16 := by rw [whole]; decide
    have high : highMask b.mask = BitVec.allOnes 16 := by rw [whole]; decide
    simp only [treatBeats, mapUnits, List.map_cons, low, high, treatUnit_full, ih _ rest]

/-! ## The bytes of a merged unit -/

theorem getLsbD_byte (i : Nat) : (BitVec.ofNat 128 255).getLsbD i = decide (i < 8) := by
  rw [BitVec.getLsbD_ofNat, show 255 = 2 ^ 8 - 1 from rfl, Nat.testBit_two_pow_sub_one, ← Bool.decide_and]
  exact decide_eq_decide.mpr (by omega)

/-- A bit of a byte mask is the mask bit of its byte. -/
theorem getLsbD_byteMask (m : BitVec 16) (n i : Nat) (bound : n ≤ 16) :
    (byteMask m n).getLsbD i = (decide (i < 8 * n) && m.getLsbD (i / 8)) := by
  induction n with
  | zero => simp [byteMask]
  | succ n ih =>
    have byte : ((if m.getLsbD n then BitVec.ofNat 128 255 <<< (8 * n) else 0) : CipherUnit).getLsbD i
        = (decide (i / 8 = n) && m.getLsbD (i / 8)) := by
      by_cases here : i / 8 = n
      · cases set : m.getLsbD n
        · simp [here, set]
        · have low : i < 128 ∧ ¬ i < 8 * n ∧ i - 8 * n < 8 := by omega
          simp [here, set, getLsbD_byte, low]
      · split
        · have off : i < 8 * n ∨ ¬ i - 8 * n < 8 := by omega
          rcases off with off | off <;> simp [here, BitVec.getLsbD_shiftLeft, getLsbD_byte, off]
        · simp [here]
    rw [byteMask, BitVec.getLsbD_or, byte, ih (by omega), ← Bool.and_or_distrib_right, ← Bool.decide_or]
    congr 1
    exact decide_eq_decide.mpr (by omega)

/-- R53: a merged unit holds the new byte where the mask bit is set, and the old byte elsewhere. -/
theorem extractByte_mergeUnit (m : BitVec 16) (new old : CipherUnit) (k : Fin 16) :
    (mergeUnit m new old).extractLsb' (8 * k.val) 8 =
      if m.getLsbD k.val then new.extractLsb' (8 * k.val) 8 else old.extractLsb' (8 * k.val) 8 := by
  have inside (i : Nat) (low : i < 8) : (byteMask m 16).getLsbD (8 * k.val + i) = m.getLsbD k.val := by
    have byte : (8 * k.val + i) / 8 = k.val := by omega
    have bound : 8 * k.val + i < 8 * 16 := by omega
    rw [getLsbD_byteMask m 16 _ le_rfl, byte, decide_eq_true bound, Bool.true_and]
  apply BitVec.eq_of_getLsbD_eq
  intro i low
  have bound : 8 * k.val + i < 128 := by omega
  rw [BitVec.getLsbD_extractLsb', mergeUnit, BitVec.getLsbD_or, BitVec.getLsbD_and, BitVec.getLsbD_and,
    BitVec.getLsbD_not, inside i low]
  cases m.getLsbD k.val <;> simp [low, bound]

/-- R53: what a completed partial unit decrypts to. -/
theorem decryptUnit_completeUnit (key : Option KeyRef) (offset : Nat) {m : BitVec 16} (u stored : CipherUnit)
    (partly : maskPartial m = true) :
    decryptUnit key offset (completeUnit key offset m u stored) = mergeUnit m u (decryptUnit key offset stored) := by
  rw [completeUnit, if_pos partly, decryptUnit_encryptUnit]

/-- Settles O13: decryption undoes encryption unit by unit, and a merge acts byte by byte. -/
theorem cipherKeepsPlaintext : Obligations.CipherKeepsPlaintext := by
  refine ⟨fun key offset beats full => ?_, fun key offset m received stored k partly => ⟨?_, ?_⟩,
    fun s i offset data => ?_⟩
  · rw [treatBeats_data_of_full key offset beats full, mapUnits_mapUnits]
    simp only [decryptUnit_encryptUnit]
    exact mapUnits_id offset _
  · exact if_pos partly
  · rw [decryptUnit_completeUnit key offset received stored partly]
    exact extractByte_mergeUnit m received _ k
  · rw [mapUnits_mapUnits]
    simp only [State.moveUnit, decryptUnit_encryptUnit]

/-! ## The arbiter's choice -/

theorem anyAsks_iff (s : State) :
    anyAsks s.scrub.chans = true ↔ s.scrub.chans[0].asks = true ∨ s.scrub.chans[1].asks = true := by
  simp [anyAsks]

/-- R75, R80: the scrub channel that comes next: one that asks, and where both do the one not granted last. -/
theorem chooseScrub_of_asks {s : State} (asks : s.scrub.chans[0].asks = true ∨ s.scrub.chans[1].asks = true) :
    ∃ c, s.chooseScrub = some (.scrub c) ∧ (s.chan c).asks = true
      ∧ (s.scrub.chans[0].asks = true → s.scrub.chans[1].asks = true → (c = 1 ↔ s.mem.lastScrub = some 0)) := by
  change (s.chan 0).asks = true ∨ (s.chan 1).asks = true at asks
  change ∃ c, _ ∧ _ ∧ ((s.chan 0).asks = true → (s.chan 1).asks = true → _)
  unfold State.chooseScrub
  cases a : (s.chan 0).asks <;> cases b : (s.chan 1).asks
  · simp [a, b] at asks
  · exact ⟨1, rfl, b, nofun⟩
  · exact ⟨0, rfl, a, fun _ => nofun⟩
  · by_cases last : s.mem.lastScrub = some 0
    · exact ⟨1, by simp [last], b, by simp [last]⟩
    · exact ⟨0, by simp [last], a, by simp [last]⟩

theorem chooseScrub_of_none {s : State} (none : ¬ (s.scrub.chans[0].asks = true ∨ s.scrub.chans[1].asks = true)) :
    s.chooseScrub = .none := by
  change ¬ ((s.chan 0).asks = true ∨ (s.chan 1).asks = true) at none
  rw [not_or, Bool.not_eq_true, Bool.not_eq_true] at none
  simp [State.chooseScrub, none]

theorem shareDue_iff (s : State) :
    s.shareDue = true ↔ (s.scrub.chans[0].asks = true ∨ s.scrub.chans[1].asks = true)
      ∧ s.settings.scrubShare - 1 ≤ s.mem.share := by
  simp [State.shareDue, anyAsks_iff]

/-- R75, R80: at precedence 2 the demand reads and the drain alternate while both wait. -/
theorem chooseSecond_of_demand {s : State} {age : Nat} (demand : s.oldestDemand = some age) :
    s.chooseSecond =
      if s.drainWaits = true ∧ s.mem.lastSecond = some .demand then some .drain else some (.demand age) := by
  unfold State.chooseSecond
  cases s.drainWaits <;> simp [demand]

theorem chooseSecond_of_no_demand {s : State} (none : s.oldestDemand = none) :
    s.chooseSecond = if s.drainWaits then some .drain else .none := by
  unfold State.chooseSecond
  cases s.drainWaits <;> simp [none]

section

variable {s : State}

theorem chooseGrant_of_due (due : s.shareDue = true) : s.chooseGrant = s.chooseScrub := if_pos due

theorem chooseGrant_of_rmw (due : s.shareDue ≠ true) (rmw : s.rmwWaits = true) : s.chooseGrant = some .rmwRead := by
  rw [State.chooseGrant, if_neg due, State.chooseByPrecedence, if_pos rmw]

theorem chooseGrant_of_second (due : s.shareDue ≠ true) (rmw : s.rmwWaits = false) {g : Grantee}
    (second : s.chooseSecond = some g) : s.chooseGrant = some g := by
  simp [State.chooseGrant, due, State.chooseByPrecedence, rmw, second]

theorem chooseGrant_of_prefetch (due : s.shareDue ≠ true) (rmw : s.rmwWaits = false) (second : s.chooseSecond = none)
    {i : Fin 8} (prefetch : s.firstPrefetch = some i) : s.chooseGrant = some (.prefetch i) := by
  simp [State.chooseGrant, due, State.chooseByPrecedence, rmw, second, prefetch]

/-- With no other requester waiting a scrub channel is chosen, the share aside. -/
theorem chooseGrant_of_scrub_alone (rmw : s.rmwWaits = false) (second : s.chooseSecond = none)
    (prefetch : s.firstPrefetch = none) : s.chooseGrant = s.chooseScrub := by
  simp [State.chooseGrant, State.chooseByPrecedence, rmw, second, prefetch]

/-! ## The issue of a grant -/

/-- R77: the memory tid that a grant takes is the lowest free one. -/
theorem freeMemTid_eq_some {tid : MemTid} (free : s.memTid tid = .free) (lowest : ∀ u < tid, s.memTid u ≠ .free) :
    s.freeMemTid = some tid := by
  refine List.find?_eq_some_iff_getElem.mpr ⟨by simp [free], tid.val, by simp, by simp, fun j below => ?_⟩
  have taken := lowest ⟨j, by omega⟩ below
  simpa using taken

theorem freeMemTid_eq_none (none : ∀ u, s.memTid u ≠ .free) : s.freeMemTid = .none := by
  refine List.find?_eq_none.mpr (fun u _ => ?_)
  simpa using none u

theorem closeEvent_of_no_notice (quiet : s.outbox = []) : closeEvent s = s := by
  unfold closeEvent
  rw [quiet]
  cases s
  cases quiet
  rfl

theorem exec_memoryGrant_powered (powered : s.powered = true) :
    exec .memoryGrant s = .next (closeEvent (s.driving []).grantNext) := by
  change Host.Outcome.next (event State.grantNext s) = _
  rw [event, if_pos powered]
  rfl

/-- A grant as the state it leads to, where it notes nothing. -/
theorem exec_memoryGrant_of_grant {tid : MemTid} {g : Grantee} {t : State} (powered : s.powered = true)
    (free : s.memTid tid = .free) (lowest : ∀ u < tid, s.memTid u ≠ .free) (chosen : s.chooseGrant = some g)
    (granted : (s.driving []).grant tid g = t) (quiet : t.outbox = []) : exec .memoryGrant s = .next t := by
  have tidFree : (s.driving []).freeMemTid = some tid := freeMemTid_eq_some free lowest
  have choice : (s.driving []).chooseGrant = some g := chosen
  rw [exec_memoryGrant_powered powered, State.grantNext, tidFree, choice]
  dsimp only
  rw [granted, closeEvent_of_no_notice quiet]

/-- R75, R77: with no requester waiting, or no tid free, nothing is granted. -/
theorem grantNext_of_nothing (nothing : s.chooseGrant = none ∨ ∀ u, s.memTid u ≠ .free) : s.grantNext = s := by
  unfold State.grantNext
  rcases nothing with none | taken
  · rw [none]
    cases s.freeMemTid <;> rfl
  · rw [freeMemTid_eq_none taken]

end

/-! ## What each grant does -/

/-- The state with the share count and the alternation state as a grant leaves them. -/
def bookedFor (s : State) (g : Grantee) : State := { s with mem := s.mem.booked g (anyAsks s.scrub.chans) }

section

variable {s : State} {tid : MemTid}

theorem grant_demand (s : State) (tid : MemTid) (age : Nat) :
    s.grant tid (.demand age) = (bookedFor s (.demand age)).grantDemand tid age := rfl

theorem grant_drain (s : State) (tid : MemTid) : s.grant tid .drain = (bookedFor s .drain).grantDrain tid := rfl

theorem grant_rmwRead (s : State) (tid : MemTid) : s.grant tid .rmwRead = (bookedFor s .rmwRead).grantRmw tid := rfl

theorem grant_prefetch (s : State) (tid : MemTid) (i : Fin 8) :
    s.grant tid (.prefetch i) = (bookedFor s (.prefetch i)).grantPrefetch tid i := rfl

theorem grant_scrub (s : State) (tid : MemTid) (c : ChannelId) :
    s.grant tid (.scrub c) = (bookedFor s (.scrub c)).grantScrub tid c := rfl

theorem setHead_of_cons {x : PwqEntry} {rest : List PwqEntry} (queue : s.pwq = x :: rest) (e : PwqEntry) :
    s.setHead e = { s with pwq := e :: rest } := by
  rw [State.setHead, queue]

theorem grantDemand_of_entry {age : Nat} {e : TrackerEntry} (found : s.tracker.find? (fun x => x.age == age) = some e) :
    s.grantDemand tid age = (s.setEntry age { e with state := .issued (some tid) }).issue tid .read (.demand age)
      e.source e.jobTag e.memAddr e.length [] := by
  rw [State.grantDemand, State.entryOf, found]

theorem grantDrain_of_head {e : PwqEntry} {rest : List PwqEntry} (queue : s.pwq = e :: rest) :
    s.grantDrain tid = { s with pwq := { e with state := .writing } :: rest }.issue tid .write (.drain e.id) e.source
      e.jobTag e.memAddr e.length (e.beats.map driveBeat) := by
  rw [State.grantDrain, queue]
  dsimp only
  rw [setHead_of_cons queue]

theorem rmwBeats_eq {e : PwqEntry} {first last : Nat} (head : e.units.head? = some first)
    (tail : e.units.getLast? = some last) : e.rmwBeats = ((first - e.offset) / 32, (last - e.offset) / 32) := by
  rw [PwqEntry.rmwBeats, List.headD_eq_head?_getD, List.getLastD_eq_getLast?, head, tail]
  rfl

theorem grantRmw_of_head {e : PwqEntry} {rest : List PwqEntry} (queue : s.pwq = e :: rest) :
    s.grantRmw tid = { s with pwq := { e with state := .rmwRead } :: rest }.issue tid .read (.rmwRead e.id) e.source
      e.jobTag (e.memAddr + BitVec.ofNat 36 (32 * e.rmwBeats.1)) (e.rmwBeats.2 + 1 - e.rmwBeats.1) [] := by
  rw [State.grantRmw, queue]
  dsimp only
  rw [setHead_of_cons queue]

theorem grantPrefetch_of_line {i : Fin 8} {l : Line} (line : s.line i = some l) :
    s.grantPrefetch tid i = (s.setLine i (some { l with state := .filling (some tid) })).issue tid .read (.prefetch i)
      .print l.jobTag ((s.window l.window.index).memAt l.chunk) l.beats [] := by
  rw [State.grantPrefetch, line]
  dsimp only
  rw [State.lineAddr, BitVec.ofNat_toNat, BitVec.setWidth_eq]

/-- A grant to a scrub channel takes the share count to 0, whichever channel waits after it (R76). -/
theorem setChan_bookedFor_scrub (s : State) (c : ChannelId) (x : Channel) :
    (bookedFor s (.scrub c)).setChan c x = { s with
      scrub := { s.scrub with chans := s.scrub.chans.set c x }
      mem := { s.mem with share := 0, lastScrub := some c } } := by
  have share (asks : Bool) : (if asks then (bookedFor s (.scrub c)).mem.share else 0) = 0 := ite_self 0
  unfold State.setChan
  dsimp only
  rw [share]
  rfl

theorem eraseData_zero_driven (draw : Nat) :
    (eraseData .zero draw).map driveWhole = List.replicate 8 ⟨0, BitVec.allOnes 32, dataParityOf 0⟩ :=
  List.map_replicate

theorem eraseData_ones_driven (draw : Nat) : (eraseData .ones draw).map driveWhole
    = List.replicate 8 ⟨BitVec.allOnes 256, BitVec.allOnes 32, dataParityOf (BitVec.allOnes 256)⟩ :=
  List.map_replicate

theorem eraseData_random_driven (draw : Nat) : (eraseData .random draw).map driveWhole
    = (List.range 8).map (fun n => ⟨Config.randomBeat draw n, BitVec.allOnes 32,
        dataParityOf (Config.randomBeat draw n)⟩) :=
  List.map_map

/-- The grant to a channel that erases: the pattern of its pass, at the chunk its progress names (R179, R180). -/
theorem grantScrub_of_erase {c : ChannelId} {j : Job} {passes : List Pattern} {p : Pattern}
    (job : (s.chan c).job = some j) (kind : j.kind = .erase passes)
    (pattern : passes.getD ((s.chan c).pass - 1) .zero = p) :
    s.grantScrub tid c = ((s.setChan c { s.chan c with step := .writing }).issue tid .write (.scrub c) .service 0
      ((s.window j.window.index).memAt (s.chan c).offset) 8 ((eraseData p s.draws).map driveWhole)).drawFor p := by
  subst pattern
  simp only [State.grantScrub, State.chunkOf, job, kind]
  rfl

/-- The grant to a channel that moves a window to its new key, and holds no chunk: the chunk at the cursor is read
(R185). -/
theorem grantScrub_of_rekey_read {c : ChannelId} {j : Job} (job : (s.chan c).job = some j) (kind : j.kind = .rekey)
    (buffer : (s.chan c).buffer = none) :
    s.grantScrub tid c = (s.setChan c { s.chan c with step := .reading }).issue tid .read (.scrub c) .service 0
      ((s.window j.window.index).memAt (s.window j.window.index).cursor) 8 [] := by
  simp only [State.grantScrub, State.chunkOf, job, kind, buffer]

/-- The grant to a channel that holds a chunk under the new key: the chunk is written (R185). -/
theorem grantScrub_of_rekey_write {c : ChannelId} {j : Job} {moved : List Beat} (job : (s.chan c).job = some j)
    (kind : j.kind = .rekey) (buffer : (s.chan c).buffer = some moved) :
    s.grantScrub tid c = (s.setChan c { s.chan c with step := .writing }).issue tid .write (.scrub c) .service 0
      ((s.window j.window.index).memAt (s.window j.window.index).cursor) 8 (moved.map driveWhole) := by
  simp only [State.grantScrub, State.chunkOf, job, kind, buffer]

end

/-- Settles O18: the choice by the requesters that wait, and each grant as the grantee's own part of it. -/
theorem grantsFollowPrecedence : Obligations.GrantsFollowPrecedence := by
  refine ⟨fun s => ?_, ?_, ?_, ?_, ?_, ?_, ?_, ?_, ?_⟩
  · intro scrub due toScrub
    have granted (asks : scrub) (choice : s.chooseGrant = s.chooseScrub) : toScrub := by
      simpa only [toScrub, choice] using chooseScrub_of_asks asks
    have notDue (h : ¬ due) : s.shareDue ≠ true := fun h' => h ((shareDue_iff s).mp h')
    refine ⟨fun h => granted h.1 (chooseGrant_of_due ((shareDue_iff s).mpr h)), fun h => chooseGrant_of_rmw (notDue h),
      fun h rmw age demand => ?_, fun h rmw none drain => ?_, fun h rmw none drain i prefetch => ?_,
      fun rmw none drain prefetch => ?_⟩
    · split
      next drain => exact chooseGrant_of_second (notDue h) rmw (by rw [chooseSecond_of_demand demand, if_pos drain])
      next drain => exact chooseGrant_of_second (notDue h) rmw (by rw [chooseSecond_of_demand demand, if_neg drain])
    · exact chooseGrant_of_second (notDue h) rmw (by rw [chooseSecond_of_no_demand none, if_pos drain])
    · exact chooseGrant_of_prefetch (notDue h) rmw (by simp [chooseSecond_of_no_demand none, drain]) prefetch
    · have choice : s.chooseGrant = s.chooseScrub :=
        chooseGrant_of_scrub_alone rmw (by simp [chooseSecond_of_no_demand none, drain]) prefetch
      refine ⟨⟨fun nothing asks => ?_, fun idle => choice.trans (chooseScrub_of_none idle)⟩,
        fun asks => granted asks choice⟩
      obtain ⟨c, chosen, -⟩ := granted asks choice
      rw [nothing] at chosen
      cases chosen
  · intro s tid age e powered free lowest chosen found
    refine exec_memoryGrant_of_grant powered free lowest chosen ?_ rfl
    rw [grant_demand, grantDemand_of_entry (s := bookedFor (s.driving []) _) found]
    rfl
  · intro s tid e rest powered free lowest chosen queue
    refine exec_memoryGrant_of_grant powered free lowest chosen ?_ rfl
    rw [grant_drain, grantDrain_of_head (s := bookedFor (s.driving []) _) queue]
    rfl
  · intro s tid c j passes byte powered free lowest chosen job kind fixed
    refine exec_memoryGrant_of_grant powered free lowest chosen ?_ rfl
    rcases fixed with ⟨pattern, rfl⟩ | ⟨pattern, rfl⟩
    · rw [grant_scrub, grantScrub_of_erase (s := bookedFor (s.driving []) _) job kind pattern,
        setChan_bookedFor_scrub, eraseData_zero_driven]
      rfl
    · rw [grant_scrub, grantScrub_of_erase (s := bookedFor (s.driving []) _) job kind pattern,
        setChan_bookedFor_scrub, eraseData_ones_driven]
      rfl
  · intro s tid c j passes powered free lowest chosen job kind pattern
    refine exec_memoryGrant_of_grant powered free lowest chosen ?_ rfl
    rw [grant_scrub, grantScrub_of_erase (s := bookedFor (s.driving []) _) job kind pattern, setChan_bookedFor_scrub,
      eraseData_random_driven]
    rfl
  · intro s tid c j powered free lowest chosen job kind
    refine ⟨fun buffer => ?_, fun moved buffer => ?_⟩
    · refine exec_memoryGrant_of_grant powered free lowest chosen ?_ rfl
      rw [grant_scrub, grantScrub_of_rekey_read (s := bookedFor (s.driving []) _) job kind buffer,
        setChan_bookedFor_scrub]
      rfl
    · refine exec_memoryGrant_of_grant powered free lowest chosen ?_ rfl
      rw [grant_scrub, grantScrub_of_rekey_write (s := bookedFor (s.driving []) _) job kind buffer,
        setChan_bookedFor_scrub]
      rfl
  · intro s tid e rest first last powered free lowest chosen queue head tail
    refine exec_memoryGrant_of_grant powered free lowest chosen ?_ rfl
    rw [grant_rmwRead, grantRmw_of_head (s := bookedFor (s.driving []) _) queue, rmwBeats_eq head tail]
    rfl
  · intro s tid i l powered free lowest chosen line
    refine exec_memoryGrant_of_grant powered free lowest chosen ?_ rfl
    rw [grant_prefetch, grantPrefetch_of_line (s := bookedFor (s.driving []) _) line]
    rfl
  · intro s powered nothing
    rw [exec_memoryGrant_powered powered, grantNext_of_nothing (s := s.driving []) nothing, closeEvent_of_no_notice rfl]

end Sys2Proof.Machine.CipherAndQueue
end

section
/-! SUPPORT. Reads, prefetch and the memory port: what the part answers to a frame that is empty, comes while a command
is judged, or fails its own checks; what a beat counts on its page; and the proofs of the statements on them. -/

namespace Sys2Proof.Machine.ReadsAndPorts

open Sys2Proof Sys2Proof.Machine Sys2Proof.Machine.WindowsAndKeys Sys2Proof.Machine.CipherAndQueue

/-- An event of a powered part, by what its body leaves. -/
theorem next_event {body : State → State} {s t : State} (powered : s.powered = true)
    (h : closeEvent (body (openEvent s)) = t) :
    (.next (event body s) : Host.Outcome State Fault Refusal) = .next t := by
  rw [event, if_pos powered, h]

/-! ## Frames of the management port -/

section

variable {f : Frame}

theorem emptyFrame_of_early (early : f.early = true) (s : State) : s.emptyFrame f = s.sendNotReady f := by
  simp [State.emptyFrame, early]

theorem emptyFrame_of_judges {s : State} (hs : s.judges) (late : f.early = false) : s.emptyFrame f = s.sendHeld f := by
  obtain ⟨-, awaiting, -⟩ := hs
  simp [State.emptyFrame, late, awaiting]

theorem receive_early (early : f.early = true) (cmd : Instr) (judge : State → State) (s : State) :
    receive cmd f judge s = s.sendNotReady f := by
  rcases receive_cases cmd f judge s with ⟨-, e⟩ | ⟨-, -, e⟩ | ⟨-, late, -⟩ | ⟨-, late, -⟩
  · exact e.trans (emptyFrame_of_early early s)
  · exact e
  all_goals simp [late] at early

theorem receive_empty {s : State} (hs : s.judges) (late : f.early = false) (short : f.bytes < 2) (cmd : Instr)
    (judge : State → State) : receive cmd f judge s = s.sendHeld f :=
  (if_pos short).trans (emptyFrame_of_judges hs late)

/-- A port that judges at once judges the command of any frame of 2 bytes or more, whole or truncated. -/
theorem receive_long {s : State} (hs : s.judges) (late : f.early = false) (long : 2 ≤ f.bytes) (cmd : Instr)
    (judge : State → State) : receive cmd f judge s = judge (s.sendHeld f) := by
  obtain ⟨-, awaiting, power⟩ := hs
  rcases receive_cases cmd f judge s with ⟨short, -⟩ | ⟨-, busy, -⟩ | ⟨-, -, -, asleep, -⟩ | ⟨-, -, -, -, e⟩
  · omega
  · simp [late, awaiting] at busy
  · rcases power with run | run <;> simp [run] at asleep
  · exact e

theorem frameFits_eq_false {n : Nat} (misfit : f.announced.toNat ≠ n ∨ f.bytes < n + 2) : frameFits f n = false := by
  simp only [frameFits, Bool.and_eq_false_iff, decide_eq_false_iff_not]
  omega

section

variable {code n : Nat} {body : State → State}

theorem judged_of_misfit (length : commandLength code = some n) (misfit : f.announced.toNat ≠ n ∨ f.bytes < n + 2)
    (inReset : Bool) (s : State) : judged code f inReset body s = s.answerStatus code .badArgument := by
  rw [judged, length, Option.getD_some, frameFits_eq_false misfit]
  rfl

/-- In a reset a command that is no query is answered BUSY. -/
theorem judged_in_reset {s : State} (length : commandLength code = some n) (hf : wholeFrame f n)
    (reset : s.resetRec.progress ≠ none) : judged code f false body s = s.answerStatus code .busy := by
  have inProgress : s.resetRec.progress.isSome = true := Option.isSome_iff_ne_none.mpr reset
  rw [judged, length, Option.getD_some, hf.fits, inProgress]
  rfl

end

/-! ### What a command comes to by its frame -/

/-- The state after a frame that is not judged: what it sends is the held response, and none is held after it. -/
def polled (s : State) (f : Frame) : State :=
  { s.driving [.spi (clockedBytes f.bytes (responseBytes s.held))] with held := none }

theorem closeEvent_heard (s : State) (f : Frame) : closeEvent (heard s f) = polled s f := rfl

theorem closeEvent_sendNotReady (s : State) (f : Frame) :
    closeEvent ((openEvent s).sendNotReady f) = s.driving [.spi (clockedBytes f.bytes [])] := rfl

theorem next_early {s : State} (powered : s.powered = true) (early : f.early = true) (cmd : Instr)
    (judge : State → State) : (.next (event (receive cmd f judge) s) : Host.Outcome State Fault Refusal) =
      .next (s.driving [.spi (clockedBytes f.bytes [])]) :=
  next_event powered (by rw [receive_early early, closeEvent_sendNotReady])

variable {s : State} (hs : s.judges) (late : f.early = false)
include hs late

theorem next_empty (short : f.bytes < 2) (cmd : Instr) (judge : State → State) :
    (.next (event (receive cmd f judge) s) : Host.Outcome State Fault Refusal) = .next (polled s f) :=
  next_event hs.1 (by rw [receive_empty (s := openEvent s) hs late short]; exact closeEvent_heard s f)

theorem next_long (long : 2 ≤ f.bytes) (cmd : Instr) (judge : State → State) :
    (.next (event (receive cmd f judge) s) : Host.Outcome State Fault Refusal) =
      .next (closeEvent (judge (heard s f))) :=
  next_event hs.1 (congrArg closeEvent (receive_long (s := openEvent s) hs late long cmd judge))

theorem next_misfit {cmd : Instr} {code n : Nat} {inReset : Bool} {body : State → State} (long : 2 ≤ f.bytes)
    (length : commandLength code = some n) (misfit : f.announced.toNat ≠ n ∨ f.bytes < n + 2) :
    (.next (event (receive cmd f (judged code f inReset body)) s) : Host.Outcome State Fault Refusal) =
      .next (s.answered f (.ofNat 8 code) .badArgument .empty) := by
  rw [next_long hs late long, judged_of_misfit length misfit, closeEvent_answerStatus_heard]

end

theorem next_in_reset {s : State} {f : Frame} {cmd : Instr} {code n : Nat} {body : State → State} (hs : s.judges)
    (hf : wholeFrame f n) (length : commandLength code = some n) (reset : s.resetRec.progress ≠ none) :
    (.next (event (receive cmd f (judged code f false body)) s) : Host.Outcome State Fault Refusal) =
      .next (s.answered f (.ofNat 8 code) .busy .empty) := by
  have during : (heard s f).resetRec.progress ≠ none := reset
  have ⟨late, _, fits⟩ := hf
  rw [next_long hs late (by omega), judged_in_reset length hf during, closeEvent_answerStatus_heard]

/-! ### NOTICE_READ and ERROR_READ -/

section

variable {s : State} {f : Frame}

theorem exec_noticeRead_none (hs : s.judges) (hf : wholeFrame f 0) (queue : s.notices = []) :
    exec (.noticeRead f) s = .next (s.answered f 0x70 .ok .empty) := by
  have waiting : (heard s f).notices = [] := queue
  exact next_answer hs hf rfl (.inl rfl) (by rw [waiting]; rfl)

theorem exec_noticeRead_oldest {n : QueuedNotice} {rest : List QueuedNotice} (hs : s.judges) (hf : wholeFrame f 0)
    (queue : s.notices = n :: rest) :
    exec (.noticeRead f) s = .next { s.answered f 0x70 .ok (.notice rest.length n) with notices := rest } := by
  have waiting : (heard s f).notices = n :: rest := queue
  exact next_judged hs hf rfl (.inl rfl) (by rw [waiting]; rfl)

theorem exec_errorRead (hs : s.judges) (hf : wholeFrame f 0) :
    exec (.errorRead f) s = .next { s.answered f 0x71 .ok (.errors s.path.flags s.path.capture) with
      path := { flags := 0, capture := none } } :=
  next_judged hs hf rfl (.inl rfl) rfl

/-! ### Codes that name no command -/

variable {code : Byte}

theorem unknownFrame_of_empty (empty : code = 0 ∨ f.bytes < 2) : s.unknownFrame f code = s.emptyFrame f :=
  if_pos empty

theorem unknownFrame_of_named (named : code ≠ 0) (long : 2 ≤ f.bytes)
    (known : (commandLength code.toNat).isSome = true) :
    s.unknownFrame f code = s := by
  rw [State.unknownFrame, if_neg (not_or.mpr ⟨named, Nat.not_lt.mpr long⟩), if_pos known]

theorem unknownFrame_of_unnamed (named : code ≠ 0) (long : 2 ≤ f.bytes) (unknown : commandLength code.toNat = none) :
    s.unknownFrame f code = receive (.unknownCommand f code) f (judgeUnknown code) s := by
  rw [State.unknownFrame, if_neg (not_or.mpr ⟨named, Nat.not_lt.mpr long⟩), if_neg (by simp [unknown])]

theorem exec_unknownCommand_empty (hs : s.judges) (late : f.early = false) (empty : code = 0 ∨ f.bytes < 2) :
    exec (.unknownCommand f code) s = .next (polled s f) :=
  next_event hs.1 (by
    rw [unknownFrame_of_empty empty, emptyFrame_of_judges (s := openEvent s) hs late]
    exact closeEvent_heard s f)

theorem exec_unknownCommand_unnamed (hs : s.judges) (late : f.early = false) (named : code ≠ 0) (long : 2 ≤ f.bytes)
    (unknown : commandLength code.toNat = none) :
    exec (.unknownCommand f code) s = .next (s.answered f code .badCommand .empty) := by
  refine next_event hs.1 ?_
  rw [unknownFrame_of_unnamed named long unknown, receive_long (s := openEvent s) hs late long]
  change closeEvent ((heard s f).answerStatus code.toNat .badCommand) = _
  rw [closeEvent_answerStatus_heard, BitVec.ofNat_toNat, BitVec.setWidth_eq]

theorem exec_unknownCommand_early (powered : s.powered = true) (early : f.early = true) :
    exec (.unknownCommand f code) s =
      if code ≠ 0 ∧ 2 ≤ f.bytes ∧ (commandLength code.toNat).isSome then .next (s.driving [])
      else .next (s.driving [.spi (clockedBytes f.bytes [])]) := by
  split
  next named =>
    obtain ⟨named, long, known⟩ := named
    exact next_event powered (by rw [unknownFrame_of_named named long known]; rfl)
  next unnamed =>
    have notReady : (openEvent s).unknownFrame f code = (openEvent s).sendNotReady f := by
      by_cases empty : code = 0 ∨ f.bytes < 2
      · rw [unknownFrame_of_empty empty, emptyFrame_of_early early]
      · obtain ⟨named, short⟩ := not_or.mp empty
        have long : 2 ≤ f.bytes := Nat.not_lt.mp short
        have unknown : commandLength code.toNat = none :=
          Option.not_isSome_iff_eq_none.mp fun known => unnamed ⟨named, long, known⟩
        rw [unknownFrame_of_unnamed named long unknown, receive_early early]
    exact next_event powered (by rw [notReady, closeEvent_sendNotReady])

end

/-- Settles O47: each frame is judged, sends the held response, or finds the part not ready, by its own checks. -/
theorem managementAnswers : Obligations.ManagementAnswers := by
  refine ⟨fun s f hs hf => ⟨exec_noticeRead_none hs hf, fun _ _ => exec_noticeRead_oldest hs hf⟩,
    fun s f hs hf => exec_errorRead hs hf, fun s f code hs late => ?_⟩
  refine ⟨exec_unknownCommand_unnamed hs late, exec_unknownCommand_empty hs late (.inl rfl), fun short => ?_,
    fun lengthened long => ?_, fun announced bytes => ?_, fun announced long reset => ?_, ?_, ?_⟩
  · exact ⟨exec_unknownCommand_empty hs late (.inr short), next_empty hs late short _ _, next_empty hs late short _ _⟩
  · have misfit : f.announced.toNat ≠ 0 ∨ f.bytes < 0 + 2 := .inl fun none => lengthened (BitVec.eq_of_toNat_eq none)
    exact ⟨next_misfit hs late long rfl misfit, next_misfit hs late long rfl misfit⟩
  · exact next_misfit hs late bytes.ge rfl (n := 1) (.inr (by omega))
  · have whole : wholeFrame f 0 := ⟨late, by rw [announced]; rfl, long⟩
    exact ⟨next_in_reset hs whole rfl reset, next_in_reset hs whole rfl reset⟩
  · exact next_early hs.1 rfl _ _
  · exact exec_unknownCommand_early hs.1 rfl

/-! ## A beat counted on its page -/

theorem printedBeat_incomplete {p : Page} {colour : Colour} {offset : Nat} {b : Beat}
    (left : ∃ pl ∈ (p.printedBeat colour offset b).planes, pl.mark ≠ p.planeSize) :
    (p.printedBeat colour offset b).complete = false := by
  obtain ⟨pl, mem, short⟩ := left
  exact List.all_eq_false.mpr ⟨pl, mem, fun full => short (eq_of_beq full)⟩

section

variable {s : State} {r : PlaneRef} {i : Fin 16} {p : Page} {first : Bool}

/-- R92, R93: a beat of a live page that is PRINTING, or that the beat moves there, is counted on the page. -/
theorem countBeat_of_printing {offset : Nat} {b : Beat} (found : s.findPage r.page = some i) (live : s.page i = some p)
    (prints : p.state = .printing ∨ first = true)
    (left : ∃ pl ∈ (p.printedBeat r.plane offset b).planes, pl.mark ≠ p.planeSize) :
    s.countBeat (some r) offset first b = s.setPage i (some (p.printedBeat r.plane offset b)) := by
  have moved : (if first then { p with state := .printing } else p) = { p with state := .printing } := by
    rcases prints with printing | rfl
    · cases p
      cases printing
      exact ite_self _
    · rfl
  simp only [State.countBeat, found, live, moved, Page.count_eq_printedBeat, printedBeat_incomplete left]
  rfl

theorem entersPrinting_of_printing (found : s.findPage r.page = some i) (live : s.page i = some p)
    (printing : p.state = .printing) : s.entersPrinting (some r) first = false := by
  simp [State.entersPrinting, found, live, printing]

end

theorem abortEntry_outside {s : State} (outside : s.power ≠ .entering) (c : AbortCause) : s.abortEntry c = s := by
  simp [State.abortEntry, outside]

section

variable {s : State} {d : Delivery} {r : PlaneRef} {i : Fin 16} {p : Page}

theorem isLast_eq_false (more : d.sent + 1 < d.beats.length) : d.isLast = false :=
  decide_eq_false (Nat.not_le.mpr more)

/-- The state after a beat that is counted on a page and ends neither page nor read, its read aside. -/
def printedOn (s : State) (d : Delivery) (r : PlaneRef) (i : Fin 16) (p : Page) : State :=
  { s.driving [.beat d.source d.tid d.sent (d.beats.getD d.sent 0) false] with
    pages := s.pages.set i (some (p.printedBeat r.plane (d.offset + 32 * d.sent) (d.beats.getD d.sent 0))) }

theorem sendBeat_of_printing (more : d.sent + 1 < d.beats.length) (named : d.ref = some r)
    (found : s.findPage r.page = some i) (live : s.page i = some p) (prints : p.state = .printing ∨ d.sent = 0)
    (left : ∃ pl ∈ (p.printedBeat r.plane (d.offset + 32 * d.sent) (d.beats.getD d.sent 0)).planes,
      pl.mark ≠ p.planeSize) :
    (openEvent s).sendBeat d = printedOn s d r i p := by
  rw [State.sendBeat, named, isLast_eq_false more]
  exact countBeat_of_printing (s := (openEvent s).emit _) found live (prints.imp_right (by simp)) left

/-- R205: a beat of a page in PRINTING ends no sleep entry, and outside a sleep entry no beat does. -/
theorem abortIfPrinting_of_printing {t : State} (named : d.ref = some r) (found : s.findPage r.page = some i)
    (live : s.page i = some p) (prints : p.state = .printing ∨ (d.sent = 0 ∧ s.power ≠ .entering))
    (power : t.power = s.power) : t.abortIfPrinting (s.entersPrinting d.ref (d.sent == 0)) = t := by
  rcases prints with printing | ⟨-, outside⟩
  · rw [named, entersPrinting_of_printing found live printing]
    rfl
  · rw [State.abortIfPrinting, abortEntry_outside (by rwa [power]), ite_self]

end

section

variable {s : State} {age : Nat}

theorem deliverBeat_of_entry {e : TrackerEntry} {beats : List Beat}
    (entry : s.tracker.find? (fun x => x.age == age) = some e) (delivering : e.state = .delivering beats) :
    s.deliverBeat age = s.deliverTracked e beats := by
  rw [State.deliverBeat, State.entryOf, entry]
  dsimp only
  rw [delivering]

theorem deliverBeat_of_hit {h : Hit} (none : s.tracker.find? (fun x => x.age == age) = .none)
    (hit : s.hits.find? (fun x => x.age == age) = some h) : s.deliverBeat age = s.deliverHit h := by
  rw [State.deliverBeat, State.entryOf, none, hit]

theorem deliverTracked_of_more {e : TrackerEntry} {beats : List Beat} (more : e.sent + 1 < beats.length) :
    s.deliverTracked e beats =
      ((s.sendBeat (e.delivery beats)).setEntry e.age { e with sent := e.sent + 1 }).abortIfPrinting
        (s.entersPrinting e.ref (e.sent == 0)) := by
  simp only [State.deliverTracked, isLast_eq_false (d := e.delivery beats) more]
  rfl

/-- The hit of an age replaced. -/
def setHit (s : State) (age : Nat) (h : Hit) : State :=
  { s with hits := s.hits.map (fun x => if x.age == age then h else x) }

theorem deliverHit_of_more {h : Hit} (more : h.sent + 1 < h.beats.length) :
    s.deliverHit h =
      (setHit (s.sendBeat h.delivery) h.age { h with sent := h.sent + 1 }).abortIfPrinting
        (s.entersPrinting h.ref (h.sent == 0)) := by
  simp only [State.deliverHit, isLast_eq_false (d := h.delivery) more]
  rfl

/-- A beat delivered, as the state it leads to, where it notes nothing. -/
theorem exec_beatDelivery_of_quiet {t : State} (powered : s.powered = true)
    (delivered : (openEvent s).deliverBeat age = t) (quiet : t.outbox = []) :
    exec (.beatDelivery age) s = .next t :=
  next_event powered (by rw [delivered, closeEvent_of_no_notice quiet])

end

/-- Settles O22: the beat is counted on the page's planes, and neither its read nor a sleep entry ends with it. -/
theorem printedBeatIsCounted : Obligations.PrintedBeatIsCounted := by
  refine ⟨fun s age e beats r i p powered entry delivering named more found live prints left => ?_,
    fun s age h r i p powered none hit named more found live prints left => ?_⟩
  · obtain rfl : e.age = age := by simpa using List.find?_some entry
    refine exec_beatDelivery_of_quiet powered ?_ rfl
    rw [deliverBeat_of_entry (s := openEvent s) entry delivering, deliverTracked_of_more more,
      sendBeat_of_printing (d := e.delivery beats) more named found live (prints.imp_right And.left) left]
    exact abortIfPrinting_of_printing (d := e.delivery beats) named found live prints rfl
  · obtain rfl : h.age = age := by simpa using List.find?_some hit
    refine exec_beatDelivery_of_quiet powered ?_ rfl
    rw [deliverBeat_of_hit (s := openEvent s) none hit, deliverHit_of_more more,
      sendBeat_of_printing (d := h.delivery) more named found live (prints.imp_right And.left) left]
    exact abortIfPrinting_of_printing (d := h.delivery) named found live prints rfl

end Sys2Proof.Machine.ReadsAndPorts
end

section
/-! SUPPORT. Print pages and scan slots: what a re-judgement leaves of a page, the coverage law, which every step keeps, and
the proofs of the statements on opening, printing, charging and cancelling pages, on scan slots and on presence. -/

namespace Sys2Proof.Machine.PrintPages

open Sys2Proof Sys2Proof.Machine Sys2Proof.Machine.WindowsAndKeys Sys2Proof.Machine.CipherAndQueue
  Sys2Proof.Machine.ReadsAndPorts

/-! ## Coverage and charge -/

theorem coverageOf_le {p : Page} {pl : Plane} (mark : pl.mark ≤ p.planeSize) (dots : pl.dots ≤ 12 * pl.mark) :
    coverageOf p.area pl.dots ≤ 10000 := by
  have area : 3 * p.area = 12 * p.planeSize := by
    simp only [Page.area, areaOf, Page.planeSize]
    ring
  have dotsMost : pl.dots ≤ 12 * p.planeSize := by omega
  rw [coverageOf, area]
  exact Nat.div_le_of_le_mul (Nat.mul_le_mul_right _ dotsMost)

theorem excessOf_le (sum cFree : Nat) : excessOf sum cFree ≤ 30000 := Nat.min_le_left _ _

/-- R113: the charge adds at most 3 times the base to the base. -/
theorem chargeOf_bounds {base excess : Nat} (clamped : excess ≤ 30000) :
    base ≤ chargeOf base excess ∧ chargeOf base excess ≤ 4 * base := by
  have added : base * excess / 10000 ≤ 3 * base :=
    Nat.div_le_of_le_mul (by calc
      base * excess ≤ base * 30000 := Nat.mul_le_mul_left _ clamped
      _ = 10000 * (3 * base) := by ring)
  unfold chargeOf
  omega

/-- The base units that a page is charged on (R109, R116). -/
def chargeBase (p : Page) (c : Settings) : Nat := if p.isColor c.tColor then p.baseColor.getD 0 else p.baseMono

theorem charge_eq (p : Page) (c : Settings) :
    (p.charge c).charge = chargeOf (chargeBase p c) (excessOf p.coverageSum c.cFree) := rfl

theorem chargeBase_le_worstBase (p : Page) (c : Settings) : chargeBase p c ≤ worstBase p.baseMono p.baseColor := by
  unfold chargeBase
  split <;> cases p.baseColor <;> simp [worstBase]

theorem isColor_iff (p : Page) (t : Nat) : p.isColor t = true ↔
    p.planes.length = 4 ∧ ∃ pl ∈ p.planes, pl.colour ≠ 3 ∧ t ≤ coverageOf p.area pl.dots := by
  simp [Page.isColor, Page.coverages]

theorem coverage_le_of_coverageLaw {s : State} {i : Fin 16} {p : Page} (law : s.coverageLaw)
    (live : s.page i = some p) : ∀ x ∈ p.coverages, x.2 ≤ 10000 := by
  intro x mem
  obtain ⟨pl, used, rfl⟩ := List.mem_map.mp mem
  obtain ⟨mark, dots⟩ := law i p live pl used
  exact coverageOf_le mark dots

/-- R114: the draw is the least number of toner units that covers dots times factor. -/
theorem drawOf_bounds (dots factor : Nat) :
    dots * factor ≤ 65536 * drawOf dots factor ∧ 65536 * drawOf dots factor < dots * factor + 65536 := by
  unfold drawOf
  omega

theorem drawOf_eq_zero_iff (dots factor : Nat) : drawOf dots factor = 0 ↔ dots = 0 ∨ factor = 0 := by
  rw [← Nat.mul_eq_zero]
  unfold drawOf
  omega

/-- Settles O31: bounds of the charge, class by class, the coverage law, and the rounding of the draw. -/
theorem chargeArithmetic : Obligations.ChargeArithmetic := by
  refine ⟨fun p c => ?_, fun p c => ?_, fun s i p law live => coverage_le_of_coverageLaw law live,
    fun dots factor => ?_⟩
  · obtain ⟨low, high⟩ := chargeOf_bounds (base := chargeBase p c) (excessOf_le p.coverageSum c.cFree)
    have worst := chargeBase_le_worstBase p c
    rw [← charge_eq] at low high
    refine ⟨rfl, low, high, fun small => ?_, fun reserved => ?_⟩
    · exact high.trans (Nat.mul_le_mul_left 4 small)
    · rw [reserved, reservationOf]
      omega
  · simp only [← isColor_iff]
    have cls : (p.charge c).cls = classOf p.size (p.isColor c.tColor) := rfl
    rw [cls]
    cases p.size <;> cases p.isColor c.tColor <;> simp [classOf]
  · obtain ⟨covers, least⟩ := drawOf_bounds dots factor
    exact ⟨covers, least, drawOf_eq_zero_iff dots factor⟩

/-! ## Re-judgement -/

theorem rejudge_page (s : State) (i : Fin 16) : s.rejudge.page i = (s.page i).map s.rejudgePage := by
  simp [State.rejudge, State.page, mapVec]

theorem pageAdmissible_iff (s : State) (p : Page) :
    s.pageAdmissible p = true ↔ ∀ pl ∈ p.planes, s.slotAdmitting pl.colour = true := List.all_eq_true

/-- Settles O29: a WAITING page is admitted, and an ADMITTED page kept so, exactly where its slots are admitting. -/
theorem rejudgementAdmitsByToner : Obligations.RejudgementAdmitsByToner := by
  intro s i p live unprinted run
  refine ⟨s.rejudgePage p, by rw [rejudge_page, live, Option.map_some], ?_⟩
  have open_ : s.holdsAdmission = false := by simp [State.holdsAdmission, run]
  rw [← pageAdmissible_iff]
  cases state : p.state with
  | printing => exact absurd state unprinted
  | waiting =>
    cases toner : s.pageAdmissible p with
    | true => simp [State.rejudgePage, state, toner, open_, State.enterAdmitted]
    | false => simp [State.rejudgePage, state, toner]
  | admitted => cases toner : s.pageAdmissible p <;> simp [State.rejudgePage, state, toner]

/-! ## Pages with their state and their draw bases aside -/

/-- The page without what a re-judgement may change: its state and the draw bases of its planes (R88, R89). -/
def bare (p : Page) : Page :=
  { p with state := .waiting, planes := p.planes.map (fun pl => { pl with basis := none }) }

/-- The page table with each page bare. -/
def barePages (v : Vector (Option Page) 16) : Vector (Option Page) 16 := mapVec (Option.map bare) v

theorem barePages_getElem (s : State) (i : Fin 16) : (barePages s.pages)[i] = (s.page i).map bare := by
  simp [barePages, State.page, mapVec]

theorem page_bare {s t : State} (same : barePages t.pages = barePages s.pages) (i : Fin 16) :
    (t.page i).map bare = (s.page i).map bare := by
  rw [← barePages_getElem, ← barePages_getElem, same]

@[simp] theorem bare_enterAdmitted (s : State) (p : Page) : bare (s.enterAdmitted p) = bare p := by
  simp [bare, State.enterAdmitted]

@[simp] theorem bare_rejudgePage (s : State) (p : Page) : bare (s.rejudgePage p) = bare p := by
  unfold State.rejudgePage
  split
  · split
    · simp
    · rfl
  · split <;> rfl
  · rfl

@[simp] theorem rejudge_bare (s : State) : barePages s.rejudge.pages = barePages s.pages := by
  ext1 i less
  have bareOf := barePages_getElem s.rejudge ⟨i, less⟩
  rw [rejudge_page, Option.map_map] at bareOf
  have same : bare ∘ s.rejudgePage = bare := funext (bare_rejudgePage s)
  rw [same, ← barePages_getElem] at bareOf
  exact bareOf

@[simp] theorem abortEntry_bare (s : State) (c : AbortCause) :
    barePages (s.abortEntry c).pages = barePages s.pages := by
  unfold State.abortEntry
  split <;> simp

@[simp] theorem setRemaining_bare (s : State) (k : Colour) (n : Nat) :
    barePages (s.setRemaining k n).pages = barePages s.pages := by
  unfold State.setRemaining
  dsimp only
  (repeat' split) <;> simp

@[simp] theorem changeSlot_bare (s : State) (k : Colour) (x : SlotState) (r : Reason) (m : Option Message) :
    barePages (s.changeSlot k x r m).pages = barePages s.pages := by
  simp [State.changeSlot]

@[simp] theorem takeDraw_bare (s : State) (k : Colour) (b : Option DrawBasis) (n : Nat) :
    barePages (s.takeDraw k b n).pages = barePages s.pages := by
  unfold State.takeDraw
  dsimp only
  (repeat' split) <;> simp

@[simp] theorem takeDraws_bare (s : State) (l : List Plane) :
    barePages (s.takeDraws l).pages = barePages s.pages :=
  State.foldl_frame (fun s => barePages s.pages) _ (fun s _ => takeDraw_bare s _ _ _) l s

@[simp] theorem failAttempt_bare (s : State) (k : Colour) :
    barePages (s.failAttempt k).pages = barePages s.pages := by
  unfold State.failAttempt
  (repeat' split) <;> simp

@[simp] theorem reprobeSlot_bare (s : State) (k : Colour) (r : Reason) :
    barePages (s.reprobeSlot k r).pages = barePages s.pages := by
  unfold State.reprobeSlot
  (repeat' split) <;> simp

@[simp] theorem reprobeAll_bare (s : State) (r : Reason) :
    barePages (s.reprobeAll r).pages = barePages s.pages :=
  State.foldl_frame (fun s => barePages s.pages) _ (fun s k => reprobeSlot_bare s k r) _ s

@[simp] theorem judgeHello_bare (s : State) (k : Colour) (r : Record) :
    barePages (s.judgeHello k r).pages = barePages s.pages := by
  unfold State.judgeHello
  (repeat' split) <;> simp

@[simp] theorem judgeProve_bare (s : State) (k : Colour) (r : Record) (n : BitVec 128) (tag : BitVec 64) :
    barePages (s.judgeProve k r n tag).pages = barePages s.pages := by
  unfold State.judgeProve State.abortIfOwed
  (repeat' split) <;> simp

@[simp] theorem recompute_bare (s : State) (k : Colour) :
    barePages (s.recompute k).pages = barePages s.pages := by
  simp [State.recompute]

@[simp] theorem judgeDebit_bare (s : State) (k : Colour) (r : Record) (p : Posting) (reply : DebitReply) :
    barePages (s.judgeDebit k r p reply).pages = barePages s.pages := by
  unfold State.judgeDebit State.ackDebit State.seqError
  dsimp only
  (repeat' split) <;> simp

@[simp] theorem judgeResync_bare (s : State) (k : Colour) (r : Record) (p : Posting) (x : Record) :
    barePages (s.judgeResync k r p x).pages = barePages s.pages := by
  unfold State.judgeResync
  dsimp only
  (repeat' split) <;> simp

@[simp] theorem takeReply_bare (s : State) (k : Colour) (bytes : List Byte) :
    barePages (s.takeReply k bytes).pages = barePages s.pages := by
  unfold State.takeReply State.judgeReply
  dsimp only
  (repeat' split) <;> simp

@[simp] theorem lineDrops_bare (s : State) (k : Colour) : barePages (s.lineDrops k).pages = barePages s.pages := by
  unfold State.lineDrops
  dsimp only
  (repeat' split) <;> simp

@[simp] theorem settled_bare (s : State) (k : Colour) : barePages (s.settled k).pages = barePages s.pages := by
  unfold State.settled
  dsimp only
  (repeat' split) <;> simp

@[simp] theorem policyChanged_bare (s : State) : barePages s.policyChanged.pages = barePages s.pages := by
  simp [State.policyChanged]

@[simp] theorem writeSetting_bare (s : State) (n : SettingName) (v : Nat) :
    barePages (s.writeSetting n v).pages = barePages s.pages := by
  unfold State.writeSetting State.settingChanged
  (repeat' split) <;> simp

@[simp] theorem completeReset_bare (s : State) : barePages s.completeReset.pages = barePages s.pages := by
  unfold State.completeReset State.reloadSettings
  dsimp only
  (repeat' split) <;> simp

@[simp] theorem abortIfPrinting_bare (s : State) (moved : Bool) :
    barePages (s.abortIfPrinting moved).pages = barePages s.pages := by
  unfold State.abortIfPrinting
  split <;> simp

/-! ## The end of a charged page, in parts -/

/-- The state in which the account and the meter of a charged page are settled (R127 to R129). -/
def bookedPage (s : State) (p : Page) (cancel : Option CancelCause) : State :=
  let r := p.charge s.settings
  { s.setAccount p.account ((s.account p.account).settle p.reservation r.charge r.cls p.foreignFlag cancel.isSome) with
    meter := s.meter.raisePage r.cls p.foreignFlag cancel.isSome }

/-- The state in which the draws of a charged page are taken too, and its prefetch lines invalidated (R96). -/
def settledPage (s : State) (p : Page) (cancel : Option CancelCause) : State :=
  ((bookedPage s p cancel).takeDraws p.planes).invalidateLines (fun l => l.page == p.number)

/-- The notice of a charged page's end (R97, R99). -/
def endNotice (s : State) (p : Page) (cancel : Option CancelCause) : Notice :=
  let r := p.charge s.settings
  let report : PageReport := ⟨p.number, p.account, p.window, r.cls, p.coverages, r.charge, p.foreignFlag⟩
  match cancel with
  | none => .pageDone report
  | some c => .pageCancelled report .printing c

theorem endCharged_eq (s : State) (i : Fin 16) (p : Page) (cancel : Option CancelCause) :
    s.endCharged i p cancel =
      ((((settledPage s p cancel).note (endNotice s p cancel)).setPage i none).lowerLive p.window.index).raiseSince :=
  rfl

theorem endUncharged_pages (s : State) (i : Fin 16) (p : Page) (c : CancelCause) :
    (s.endUncharged i p c).pages = s.pages.set i none := rfl

@[simp] theorem settledPage_bare (s : State) (p : Page) (cancel : Option CancelCause) :
    barePages (settledPage s p cancel).pages = barePages s.pages := by
  simp [settledPage, bookedPage]

/-! ## The coverage law -/

/-- No plane of the page has counted past its end, nor more than 12 dots a byte counted (R93). -/
def withinPlanes (p : Page) : Prop := ∀ pl ∈ p.planes, pl.mark ≤ p.planeSize ∧ pl.dots ≤ 12 * pl.mark

theorem withinPlanes_bare (p : Page) : withinPlanes (bare p) ↔ withinPlanes p := by
  simp [withinPlanes, bare, Page.planeSize]

theorem coverageLaw_of_bare {s t : State} (law : s.coverageLaw) (same : barePages t.pages = barePages s.pages) :
    t.coverageLaw := by
  intro i p live
  have bareOf := page_bare same i
  rw [live, Option.map_some, eq_comm, Option.map_eq_some_iff] at bareOf
  obtain ⟨q, before, agree⟩ := bareOf
  exact (withinPlanes_bare p).mp (agree ▸ (withinPlanes_bare q).mpr (law i q before))

theorem coverageLaw_of_pages {s t : State} (law : s.coverageLaw) (same : t.pages = s.pages) : t.coverageLaw :=
  coverageLaw_of_bare law (by rw [same])

theorem coverageLaw_setPage {s : State} (law : s.coverageLaw) (i : Fin 16) (p : Option Page)
    (within : ∀ q, p = some q → withinPlanes q) : (s.setPage i p).coverageLaw := by
  intro j q live
  rw [State.page_setPage_eq] at live
  split at live
  · exact within q live
  · exact law j q live

theorem setPage_keeps_coverage {s : State} (law : s.coverageLaw) (i : Fin 16) {p : Page} (within : withinPlanes p) :
    (s.setPage i (some p)).coverageLaw :=
  coverageLaw_setPage law i (some p) (fun _ e => Option.some_inj.mp e ▸ within)

theorem coverageLaw_of_freed {s t : State} (law : s.coverageLaw) (i : Fin 16) (freed : t.pages = s.pages.set i none) :
    t.coverageLaw :=
  coverageLaw_of_pages (coverageLaw_setPage law i none (fun _ e => nomatch e)) freed

theorem levelSumTo_le (b : Beat) (n : Nat) : levelSumTo b n ≤ 3 * n := by
  induction n with
  | zero => rfl
  | succ n ih =>
    have level := (b.extractLsb' (2 * n) 2).isLt
    rw [levelSumTo]
    omega

/-- R93: a beat adds at most 384 dots, 12 for each of its 32 bytes, and moves the mark past itself inside the plane. -/
theorem Plane.count_within {pl : Plane} {size offset : Nat} {b : Beat} (mark : pl.mark ≤ size)
    (dots : pl.dots ≤ 12 * pl.mark) :
    (pl.count size offset (levelSum b)).mark ≤ size
      ∧ (pl.count size offset (levelSum b)).dots ≤ 12 * (pl.count size offset (levelSum b)).mark := by
  have levels : levelSum b ≤ 3 * 128 := levelSumTo_le b 128
  unfold Plane.count
  split
  · dsimp only
    omega
  · exact ⟨mark, dots⟩

theorem Page.count_within {p : Page} (within : withinPlanes p) (colour : Colour) (offset : Nat) (b : Beat) :
    withinPlanes (p.count colour offset b) := by
  intro pl mem
  obtain ⟨pl', mem', rfl⟩ := List.mem_map.mp mem
  obtain ⟨mark, dots⟩ := within pl' mem'
  split
  · exact Plane.count_within mark dots
  · exact ⟨mark, dots⟩

/-- A page begins with nothing counted (R87). -/
theorem withinPlanes_newPage (s : State) (o : OpenPage) : withinPlanes (s.newPage o) := by
  intro pl mem
  obtain ⟨x, -, rfl⟩ := List.mem_map.mp mem
  exact ⟨Nat.zero_le _, Nat.zero_le _⟩

theorem withinPlanes_firstState (s : State) (p : Page) (within : withinPlanes p) : withinPlanes (s.firstState p) := by
  unfold State.firstState
  split
  · rwa [← withinPlanes_bare, bare_enterAdmitted, withinPlanes_bare]
  · exact within

section

variable {s : State} (law : s.coverageLaw)
include law

theorem endCharged_keeps_coverage (i : Fin 16) (p : Page) (c : Option CancelCause) :
    (s.endCharged i p c).coverageLaw := by
  have settled : ((settledPage s p c).note (endNotice s p c)).coverageLaw := coverageLaw_of_bare law (by simp)
  rw [endCharged_eq]
  exact coverageLaw_of_freed settled i (by simp [State.setPage])

theorem cancelPage_keeps_coverage (c : CancelCause) (i : Fin 16) : (s.cancelPage c i).coverageLaw := by
  unfold State.cancelPage
  split
  · exact law
  · split
    · exact endCharged_keeps_coverage law i _ _
    · exact coverageLaw_of_freed law i (endUncharged_pages s i _ c)

theorem cancelAll_keeps_coverage : s.cancelAll.coverageLaw := by
  unfold State.cancelAll
  induction List.finRange 16 generalizing s with
  | nil => exact law
  | cons i rest ih => exact ih (cancelPage_keeps_coverage law .reset i)

theorem countedPage_keeps_coverage (i : Fin 16) {p : Page} (within : withinPlanes p) :
    (if p.complete then (s.setPage i (some p)).endCharged i p none else s.setPage i (some p)).coverageLaw := by
  have counted := setPage_keeps_coverage law i within
  split
  · exact endCharged_keeps_coverage counted i p none
  · exact counted

theorem countBeat_keeps_coverage (ref : Option PlaneRef) (offset : Nat) (first : Bool) (b : Beat) :
    (s.countBeat ref offset first b).coverageLaw := by
  unfold State.countBeat
  split
  · exact law
  next r =>
  split
  · exact law
  next i _ =>
  split
  · exact law
  next p live =>
  have moved : withinPlanes (if first then { p with state := .printing } else p) := by
    split <;> exact law i p live
  exact countedPage_keeps_coverage law i (Page.count_within moved r.plane offset b)

theorem sendBeat_keeps_coverage (d : Delivery) : (s.sendBeat d).coverageLaw :=
  countBeat_keeps_coverage (s := s.emit _) law _ _ _ _

theorem deliverTracked_keeps_coverage (e : TrackerEntry) (beats : List Beat) :
    (s.deliverTracked e beats).coverageLaw := by
  refine coverageLaw_of_bare (sendBeat_keeps_coverage law (e.delivery beats)) ?_
  unfold State.deliverTracked
  dsimp only
  split <;> simp

theorem deliverHit_keeps_coverage (h : Hit) : (s.deliverHit h).coverageLaw := by
  refine coverageLaw_of_bare (sendBeat_keeps_coverage law h.delivery) ?_
  unfold State.deliverHit
  dsimp only
  split <;> simp

theorem deliverBeat_keeps_coverage (age : Nat) : (s.deliverBeat age).coverageLaw := by
  unfold State.deliverBeat
  (repeat' split)
  · exact deliverTracked_keeps_coverage law _ _
  · exact law
  · exact deliverHit_keeps_coverage law _
  · exact law

theorem openPage_keeps_coverage (o : OpenPage) : (s.openPage o).coverageLaw := by
  unfold State.openPage
  split
  · exact law
  next i _ =>
  (repeat' split)
  · exact law
  · exact law
  · dsimp only
    split
    · exact setPage_keeps_coverage law i (withinPlanes_firstState s (s.newPage o) (withinPlanes_newPage s o))
    · exact law

theorem beginReset_keeps_coverage (kind : ResetKind) : (s.beginReset kind).coverageLaw := by
  have dropped : (((s.recordReset kind).abortEntry .reset).dropTraffic).coverageLaw :=
    coverageLaw_of_bare law (by simp)
  unfold State.beginReset
  exact coverageLaw_of_pages (cancelAll_keeps_coverage dropped) (by simp)

theorem linkAsserted_keeps_coverage : s.linkAsserted.coverageLaw := by
  unfold State.linkAsserted
  (repeat' split)
  · exact law
  · exact law
  · exact law
  · exact beginReset_keeps_coverage law .linkReset

theorem beginWakeReset_keeps_coverage : s.beginWakeReset.coverageLaw := by
  unfold State.beginWakeReset
  dsimp only
  (repeat' split)
  · exact law
  · exact beginReset_keeps_coverage (s := { s with wakeReset := false }) law .linkReset
  · exact law

theorem judged_keeps_coverage {body : State → State} (h : (body s).coverageLaw) (code : Nat) (f : Frame)
    (inReset : Bool) : (judged code f inReset body s).coverageLaw := by
  rcases judged_cases code f inReset body s with ⟨st, e⟩ | e <;> rw [e]
  · exact law
  · exact h

theorem judge_keeps_coverage (c : Instr) : (judge c s).coverageLaw := by
  cases touches : touchesPages c with
  | false => exact coverageLaw_of_pages law ((judge_keeps c s).pages touches)
  | true =>
    cases c with
    | pageOpen f a =>
      refine judged_keeps_coverage law ?_ _ f _
      split
      · exact law
      · exact openPage_keeps_coverage law _
    | pageCancel f n =>
      refine judged_keeps_coverage law ?_ _ f _
      split
      · exact law
      · exact cancelPage_keeps_coverage law .command _
    | cartReprobe f x =>
      refine judged_keeps_coverage law (coverageLaw_of_bare law ?_) _ f _
      (repeat' split) <;> simp
    | configWrite f n v =>
      refine judged_keeps_coverage law (coverageLaw_of_bare law ?_) _ f _
      split <;> simp
    | reset f =>
      exact judged_keeps_coverage law (body := fun s => (s.answerStatus 0x79 .ok).beginReset .command)
        (beginReset_keeps_coverage (s := s.answerStatus 0x79 .ok) law .command) _ f _
    | beatDelivery | presenceDeassert | settlingExpiry | cartRequestRefused | replyWindowExpiry | helloReply
    | proveReply | debitReply | linkReset | resetComplete | powerOn | wakeEnd | powerLoss => exact law
    | _ => cases touches

theorem receive_keeps_coverage {body : State → State} (h : ∀ x : State, x.coverageLaw → (body x).coverageLaw)
    (cmd : Instr) (f : Frame) : (receive cmd f body s).coverageLaw := by
  rcases receive_cases cmd f body s with ⟨-, e⟩ | ⟨-, -, e⟩ | ⟨-, -, -, -, e⟩ | ⟨-, -, -, -, e⟩ <;> rw [e]
  · exact coverageLaw_of_pages law (by simp)
  · exact law
  · exact law
  · exact h (s.sendHeld f) law

theorem event_keeps_coverage {body : State → State} (h : ∀ x : State, x.coverageLaw → (body x).coverageLaw) :
    (event body s).coverageLaw := by
  unfold event
  split
  · exact h (openEvent s) law
  · exact law

/-- An event keeps the law whose body leaves every page as it is but for its state and its draw bases. -/
theorem event_keeps_coverage_of_bare {body : State → State}
    (h : ∀ x : State, barePages (body x).pages = barePages x.pages) : (event body s).coverageLaw :=
  event_keeps_coverage law (fun x law => coverageLaw_of_bare law (h x))

theorem closeEvent_keeps_coverage : (closeEvent s).coverageLaw := law

theorem judgeAwaiting_keeps_coverage : s.judgeAwaiting.coverageLaw := by
  unfold State.judgeAwaiting
  split
  · exact judge_keeps_coverage (s := { s with awaiting := none }) law _
  · exact law

theorem endWake_keeps_coverage (resetFirst : Bool) : (s.endWake resetFirst).coverageLaw := by
  have reprobed : (closeEvent ({ s with power := .run }.reprobeAll .wake)).coverageLaw :=
    coverageLaw_of_bare law (by simp [closeEvent])
  unfold State.endWake
  split
  · dsimp only
    split
    · exact judgeAwaiting_keeps_coverage (closeEvent_keeps_coverage (beginWakeReset_keeps_coverage reprobed))
    · exact beginWakeReset_keeps_coverage (closeEvent_keeps_coverage (judgeAwaiting_keeps_coverage reprobed))
  · exact law

end

theorem coverageLaw_of_no_pages {s : State} (none : s.pages = Vector.replicate 16 none) : s.coverageLaw := by
  intro i p live
  simp [State.page, none] at live

/-- POWER_ON keeps no page. -/
theorem powerUp_coverageLaw (s : State) : s.powerUp.coverageLaw := by
  obtain ⟨-, -, pages, -, -⟩ := poweredUp_frame s
  have empty := coverageLaw_of_no_pages pages
  have shape : s.powerUp = if (poweredUp s).pins.linkrst then (poweredUp s).beginReset .linkReset
    else poweredUp s := rfl
  rw [shape]
  split
  · exact beginReset_keeps_coverage empty .linkReset
  · exact empty

theorem exec_powerLoss (s : State) : exec .powerLoss s = .next s.unpowered := rfl

/-- Every event keeps the law: a beat counts inside its plane, POWER_ON and POWER_LOSS leave no page, and the others
change of a page at most its state and its draw bases. -/
theorem exec_keeps_coverage {c : Instr} {s t : State} (law : s.coverageLaw) (code : commandCode c = none)
    (run : exec c s = .next t) : t.coverageLaw := by
  cases touches : touchesPages c with
  | false => exact coverageLaw_of_pages law ((exec_keeps run).pages touches)
  | true =>
    cases c with
    | beatDelivery age => cases run; exact event_keeps_coverage law (fun x law => deliverBeat_keeps_coverage law age)
    | presenceDeassert k =>
      cases run
      exact event_keeps_coverage_of_bare (s := s.setPresenceLine k false) law (fun x => lineDrops_bare x k)
    | settlingExpiry k => cases run; exact event_keeps_coverage_of_bare law (fun x => settled_bare x k)
    | cartRequestRefused k => cases run; exact event_keeps_coverage_of_bare law (fun x => by split <;> simp)
    | replyWindowExpiry k => cases run; exact event_keeps_coverage_of_bare law (fun x => by split <;> simp)
    | helloReply k bytes => cases run; exact event_keeps_coverage_of_bare law (fun x => takeReply_bare x k bytes)
    | proveReply k bytes => cases run; exact event_keeps_coverage_of_bare law (fun x => takeReply_bare x k bytes)
    | debitReply k bytes => cases run; exact event_keeps_coverage_of_bare law (fun x => takeReply_bare x k bytes)
    | linkReset =>
      cases run
      exact event_keeps_coverage (s := s.setLinkrst true) law
        (fun x law => by split; exacts [law, linkAsserted_keeps_coverage law])
    | resetComplete => cases run; exact event_keeps_coverage_of_bare law completeReset_bare
    | powerOn => rw [exec_unique run (exec_powerOn s)]; exact closeEvent_keeps_coverage (powerUp_coverageLaw s)
    | wakeEnd b => cases run; exact event_keeps_coverage law (fun x law => endWake_keeps_coverage law b)
    | powerLoss => rw [exec_unique run (exec_powerLoss s)]; exact coverageLaw_of_no_pages rfl
    | pageOpen | pageCancel | cartReprobe | configWrite | reset => cases code
    | _ => cases touches

/-- Settles O55: a step judges the front command or carries out the front event, each of which keeps the law, or
idles. -/
theorem stepKeepsCoverageLaw : Obligations.StepKeepsCoverageLaw := by
  intro s t law run
  unfold step at run
  split at run
  · cases run
    exact law
  next c rest _ =>
    have law : { s with pending := rest }.coverageLaw := law
    cases code : commandCode c with
    | some n =>
      obtain ⟨f, run'⟩ := exec_of_commandCode code { s with pending := rest }
      rw [exec_unique run run']
      exact event_keeps_coverage law fun x law =>
        receive_keeps_coverage law (fun y law => judge_keeps_coverage law c) c f
    | none => exact exec_keeps_coverage law code run

/-! ## What the toner gauge drives and notes -/

section

variable (s : State) (k : Colour)

@[simp] theorem lowMarkCheck_emitted : (s.lowMarkCheck k).emitted = s.emitted := by
  unfold State.lowMarkCheck
  (repeat' split) <;> rfl

@[simp] theorem setRemaining_emitted (n : Nat) : (s.setRemaining k n).emitted = s.emitted := by
  unfold State.setRemaining State.noteDepletion State.rejudge
  dsimp only
  (repeat' split) <;> simp

@[simp] theorem postIfDue_ports : (s.postIfDue k).emitted = s.emitted ∧ (s.postIfDue k).outbox = s.outbox := by
  unfold State.postIfDue State.sendDebit
  (repeat' split) <;> simp

@[simp] theorem carryAdd_emitted (serial : Serial) (n : Nat) : (s.carryAdd serial n).emitted = s.emitted := by
  unfold State.carryAdd
  (repeat' split) <;> simp

@[simp] theorem takeDraw_emitted (b : Option DrawBasis) (n : Nat) : (s.takeDraw k b n).emitted = s.emitted := by
  unfold State.takeDraw
  dsimp only
  (repeat' split) <;> simp

@[simp] theorem takeDraws_emitted (l : List Plane) : (s.takeDraws l).emitted = s.emitted :=
  State.foldl_frame (·.emitted) _ (fun s _ => takeDraw_emitted s _ _ _) l s

/-- Every notice of one state is one of another, or one that a toner draw may bring about. -/
def notesToner (s t : State) : Prop := ∀ n ∈ t.outbox, n ∈ s.outbox ∨ n.ofToner

variable {s}

theorem notesToner_of_eq {t : State} (same : t.outbox = s.outbox) : notesToner s t := fun _ mem => .inl (same ▸ mem)

theorem notesToner_trans {t u : State} (h : notesToner s t) (h' : notesToner t u) : notesToner s u :=
  fun n mem => (h' n mem).elim (h n) .inr

theorem notesToner_note {n : Notice} (toner : n.ofToner) : notesToner s (s.note n) := by
  intro m mem
  rcases List.mem_append.mp mem with old | new
  · exact .inl old
  · obtain rfl := List.mem_singleton.mp new
    exact .inr toner

theorem mem_placeBeforeCartState {n m : Notice} {l : List Notice} (mem : m ∈ placeBeforeCartState n l) :
    m ∈ l ∨ m = n := by
  induction l with
  | nil => exact .inr (List.mem_singleton.mp mem)
  | cons x rest ih =>
    rw [placeBeforeCartState] at mem
    split at mem
    · exact (List.mem_cons.mp mem).symm
    · rcases List.mem_cons.mp mem with rfl | later
      · exact .inl List.mem_cons_self
      · exact (ih later).imp_left (List.mem_cons_of_mem _)

variable (s)

theorem lowMarkCheck_notesToner : notesToner s (s.lowMarkCheck k) := by
  unfold State.lowMarkCheck
  (repeat' split)
  · exact notesToner_note (s := s.setGauge k _) (.inr (.inl ⟨_, _, _, _, rfl⟩))
  all_goals exact notesToner_of_eq rfl

theorem noteDepletion_notesToner (reason : Reason) : notesToner s (s.noteDepletion k reason) :=
  notesToner_note (.inl ⟨_, _, _, _, _, rfl⟩)

theorem setRemaining_notesToner (n : Nat) : notesToner s (s.setRemaining k n) := by
  unfold State.setRemaining
  dsimp only
  have same : notesToner s ((s.setGauge k { s.gauge k with remaining := n }).rejudge) := notesToner_of_eq rfl
  (repeat' split)
  · exact notesToner_of_eq rfl
  · exact notesToner_trans (notesToner_trans same (noteDepletion_notesToner _ k _)) (lowMarkCheck_notesToner _ k)
  · exact notesToner_trans (notesToner_trans same (noteDepletion_notesToner _ k _)) (lowMarkCheck_notesToner _ k)
  · exact notesToner_trans same (lowMarkCheck_notesToner _ k)

theorem carryAdd_notesToner (serial : Serial) (n : Nat) : notesToner s (s.carryAdd serial n) := by
  unfold State.carryAdd
  (repeat' split)
  case isFalse oldest rest _ _ =>
    intro m mem
    rcases mem_placeBeforeCartState mem with old | rfl
    · exact .inl old
    · exact .inr (.inr (.inr ⟨_, rfl⟩))
  all_goals exact notesToner_of_eq rfl

end

/-! ## One plane's draw, case by case -/

section

variable {s : State} {k : Colour} {draw : Nat}

theorem takeDraw_zero (b : Option DrawBasis) : s.takeDraw k b 0 = s := if_pos rfl

/-- R164: the draw of a cartridge that its slot still holds raises P and lowers remaining, and a posting may begin. -/
theorem takeDraw_held {r : Record} {factor : Nat} (drawn : 0 < draw) (slot : (s.slot k).state = .genuine r) :
    s.takeDraw k (some (.genuine r.serial factor)) draw =
      ((s.setGauge k { s.gauge k with pending := min Config.counterMax ((s.gauge k).pending + draw) }).setRemaining k
        ((s.gauge k).remaining - draw)).postIfDue k := by
  unfold State.takeDraw
  rw [if_neg drawn.ne', slot]
  exact if_pos rfl

/-- R164: the draw of a cartridge that its slot no longer holds joins the carry list. -/
theorem takeDraw_gone {serial : Serial} {factor : Nat} (drawn : 0 < draw)
    (gone : ∀ r, (s.slot k).state = .genuine r → r.serial ≠ serial) :
    s.takeDraw k (some (.genuine serial factor)) draw = s.carryAdd serial draw := by
  unfold State.takeDraw
  rw [if_neg drawn.ne']
  cases slot : (s.slot k).state with
  | genuine r => exact if_neg (gone r slot)
  | _ => rfl

theorem takeDraw_foreign {r : Record} {factor : Nat} (drawn : 0 < draw) (slot : (s.slot k).state = .foreign r) :
    s.takeDraw k (some (.foreign factor)) draw = s.setRemaining k ((s.gauge k).remaining - draw) := by
  unfold State.takeDraw
  rw [if_neg drawn.ne', slot]

theorem takeDraw_foreign_gone {factor : Nat} (gone : ∀ r, (s.slot k).state ≠ .foreign r) :
    s.takeDraw k (some (.foreign factor)) draw = s := by
  unfold State.takeDraw
  split
  · rfl
  · cases slot : (s.slot k).state with
    | foreign r => exact absurd slot (gone r)
    | _ => rfl

theorem takeDraw_none : s.takeDraw k none draw = s := by
  unfold State.takeDraw
  split <;> rfl

/-- A draw leaves the state alone, draws on the cartridge in its slot, or joins the carry list. -/
theorem takeDraw_cases (s : State) (k : Colour) (b : Option DrawBasis) (draw : Nat) :
    s.takeDraw k b draw = s
      ∨ (∃ r factor, 0 < draw ∧ b = some (.genuine r.serial factor) ∧ (s.slot k).state = .genuine r)
      ∨ (∃ serial factor, 0 < draw ∧ b = some (.genuine serial factor)
        ∧ ∀ r, (s.slot k).state = .genuine r → r.serial ≠ serial)
      ∨ ∃ r factor, 0 < draw ∧ b = some (.foreign factor) ∧ (s.slot k).state = .foreign r := by
  rcases Nat.eq_zero_or_pos draw with rfl | drawn
  · exact .inl (takeDraw_zero b)
  cases b with
  | none => exact .inl takeDraw_none
  | some b =>
    cases b with
    | genuine serial factor =>
      by_cases held : ∃ r, (s.slot k).state = .genuine r ∧ r.serial = serial
      · obtain ⟨r, slot, rfl⟩ := held
        exact .inr (.inl ⟨r, factor, drawn, rfl, slot⟩)
      · exact .inr (.inr (.inl ⟨serial, factor, drawn, rfl, fun r slot same => held ⟨r, slot, same⟩⟩))
    | foreign factor =>
      by_cases held : ∃ r, (s.slot k).state = .foreign r
      · obtain ⟨r, slot⟩ := held
        exact .inr (.inr (.inr ⟨r, factor, drawn, rfl, slot⟩))
      · exact .inl (takeDraw_foreign_gone fun r slot => held ⟨r, slot⟩)

end

/-! ## Slots and gauges after a draw -/

theorem gauge_congr {s t : State} (same : t.gauges = s.gauges) (k : Colour) : t.gauge k = s.gauge k := by
  simp only [State.gauge, same]

theorem slot_congr {s t : State} (same : t.slots = s.slots) (k : Colour) : t.slot k = s.slot k := by
  simp only [State.slot, same]

/-- Slot and gauge of a colour are the same in both states. -/
def sameAt (k : Colour) (s t : State) : Prop := t.gauge k = s.gauge k ∧ t.slot k = s.slot k

theorem sameAt_trans {k : Colour} {s t u : State} (h : sameAt k s t) (h' : sameAt k t u) : sameAt k s u :=
  ⟨h'.1.trans h.1, h'.2.trans h.2⟩

/-- Two gauges that agree but for the low-mark serial and the posting. -/
def Gauge.agrees (g g' : Gauge) : Prop :=
  g'.remaining = g.remaining ∧ g'.pending = g.pending ∧ g'.acked = g.acked ∧ g'.sequence = g.sequence

theorem Gauge.agrees_trans {g g' g'' : Gauge} (h : Gauge.agrees g g') (h' : Gauge.agrees g' g'') :
    Gauge.agrees g g'' := by
  obtain ⟨remaining, pending, acked, sequence⟩ := h
  obtain ⟨remaining', pending', acked', sequence'⟩ := h'
  exact ⟨remaining'.trans remaining, pending'.trans pending, acked'.trans acked, sequence'.trans sequence⟩

section

variable (s : State) {j k : Colour}

theorem lowMarkCheck_gauge_ne (other : j ≠ k) : (s.lowMarkCheck k).gauge j = s.gauge j := by
  unfold State.lowMarkCheck
  (repeat' split)
  · rw [State.gauge_note, State.gauge_setGauge_ne s _ other.symm]
  all_goals rfl

theorem lowMarkCheck_gauge : Gauge.agrees (s.gauge k) ((s.lowMarkCheck k).gauge k) := by
  unfold State.lowMarkCheck
  (repeat' split)
  · simp [Gauge.agrees]
  all_goals exact ⟨rfl, rfl, rfl, rfl⟩

theorem setRemaining_sameAt (n : Nat) (other : j ≠ k) : sameAt j s (s.setRemaining k n) := by
  refine ⟨?_, slot_congr (by simp) j⟩
  unfold State.setRemaining
  dsimp only
  split
  · rfl
  · rw [lowMarkCheck_gauge_ne _ other, ← State.gauge_setGauge_ne s { s.gauge k with remaining := n } other.symm]
    (repeat' split) <;> rfl

/-- Remaining is written, and of the gauge's other fields only the low-mark serial may change. -/
theorem setRemaining_gauge (n : Nat) :
    Gauge.agrees { s.gauge k with remaining := n } ((s.setRemaining k n).gauge k) := by
  unfold State.setRemaining
  dsimp only
  split
  · next same => exact ⟨same.symm, rfl, rfl, rfl⟩
  · refine Gauge.agrees_trans ?_ (lowMarkCheck_gauge _)
    have written (t : State) (same : t.gauges = (s.setGauge k { s.gauge k with remaining := n }).gauges) :
        Gauge.agrees { s.gauge k with remaining := n } (t.gauge k) := by
      rw [gauge_congr same, State.gauge_setGauge]
      exact ⟨rfl, rfl, rfl, rfl⟩
    (repeat' split) <;> exact written _ (by simp)

theorem postIfDue_sameAt (other : j ≠ k) : sameAt j s (s.postIfDue k) := by
  unfold State.postIfDue State.sendDebit
  (repeat' split)
  · exact ⟨by simp [State.gauge_setGauge_ne s _ other.symm],
      by simp [State.slot_setSlot_ne _ _ other.symm]⟩
  all_goals exact ⟨rfl, rfl⟩

theorem postIfDue_gauge : Gauge.agrees (s.gauge k) ((s.postIfDue k).gauge k) := by
  unfold State.postIfDue State.sendDebit
  (repeat' split)
  · simp [Gauge.agrees]
  all_goals exact ⟨rfl, rfl, rfl, rfl⟩

/-- R165: with the link free and a pending debit, a DEBIT of the whole of it is sent. -/
theorem postIfDue_message {r : Record} (slot : (s.slot k).state = .genuine r) (free : (s.slot k).message = none)
    (owed : 0 < (s.gauge k).pending) (awake : s.power ≠ .sleep) :
    ∃ tag, ((s.postIfDue k).slot k).message =
      some ⟨.debit (s.gauge k).pending ((s.gauge k).sequence + 1) tag, 1, .sending⟩ := by
  have due : s.postIfDue k = s.sendDebit k r 0 := by
    rw [State.postIfDue, slot, free]
    exact if_pos ⟨owed, awake⟩
  exact ⟨_, by rw [due, State.sendDebit, State.slot_setSlot]⟩

theorem takeDraw_sameAt (b : Option DrawBasis) (draw : Nat) (other : j ≠ k) : sameAt j s (s.takeDraw k b draw) := by
  rcases takeDraw_cases s k b draw with idle | ⟨r, factor, drawn, rfl, slot⟩ | ⟨serial, factor, drawn, rfl, gone⟩ |
    ⟨r, factor, drawn, rfl, slot⟩
  · rw [idle]
    exact ⟨rfl, rfl⟩
  · rw [takeDraw_held drawn slot]
    exact sameAt_trans (sameAt_trans ⟨State.gauge_setGauge_ne s _ other.symm, rfl⟩ (setRemaining_sameAt _ _ other))
      (postIfDue_sameAt _ other)
  · rw [takeDraw_gone drawn gone]
    exact ⟨gauge_congr (by simp) j, slot_congr (by simp) j⟩
  · rw [takeDraw_foreign drawn slot]
    exact setRemaining_sameAt s _ other

theorem takeDraws_sameAt {l : List Plane} (unused : ∀ pl ∈ l, pl.colour ≠ k) : sameAt k s (s.takeDraws l) := by
  induction l generalizing s with
  | nil => exact ⟨rfl, rfl⟩
  | cons pl rest ih =>
    obtain ⟨other, unused⟩ := List.forall_mem_cons.mp unused
    exact sameAt_trans (takeDraw_sameAt s pl.basis pl.draw other.symm)
      (ih (s.takeDraw pl.colour pl.basis pl.draw) unused)

theorem takeDraw_notesToner (b : Option DrawBasis) (draw : Nat) : notesToner s (s.takeDraw k b draw) := by
  rcases takeDraw_cases s k b draw with idle | ⟨r, factor, drawn, rfl, slot⟩ | ⟨serial, factor, drawn, rfl, gone⟩ |
    ⟨r, factor, drawn, rfl, slot⟩
  · rw [idle]
    exact notesToner_of_eq rfl
  · rw [takeDraw_held drawn slot]
    exact notesToner_trans (setRemaining_notesToner (s.setGauge k _) k _) (notesToner_of_eq (postIfDue_ports _ k).2)
  · rw [takeDraw_gone drawn gone]
    exact carryAdd_notesToner s serial draw
  · rw [takeDraw_foreign drawn slot]
    exact setRemaining_notesToner s k _

theorem takeDraws_notesToner (l : List Plane) : notesToner s (s.takeDraws l) := by
  induction l generalizing s with
  | nil => exact notesToner_of_eq rfl
  | cons pl rest ih => exact notesToner_trans (takeDraw_notesToner s _ _) (ih (s.takeDraw pl.colour pl.basis pl.draw))

end

/-! ## The carry list after a draw -/

/-- The carry list with an amount added that drops no entry (R170). -/
def carriedList (serial : Serial) (amount : Nat) (l : List CarryEntry) : List CarryEntry :=
  if amount = 0 then l
  else if l.any (fun e => e.serial == serial) then addToEntry serial amount l else l ++ [⟨serial, amount⟩]

section

variable {s : State} {serial : Serial} {amount : Nat}

/-- R170: nothing is dropped where nothing is added, or the serial has its entry, or the list has room. -/
theorem carryAdd_of_room
    (room : amount = 0 ∨ s.carry.any (fun e => e.serial == serial) = true ∨ s.carry.length < Config.carryCapacity) :
    s.carryAdd serial amount = { s with carry := carriedList serial amount s.carry } := by
  unfold State.carryAdd carriedList
  split
  · rfl
  next added =>
  split
  · rfl
  next unknown =>
  have short := (room.resolve_left added).resolve_left unknown
  split
  · exact if_pos short
  next none => rw [none]; rfl

theorem addToEntry_length (l : List CarryEntry) : (addToEntry serial amount l).length = l.length := by
  induction l with
  | nil => rfl
  | cons e rest ih =>
    rw [addToEntry]
    split <;> simp [ih]

theorem carriedList_length_le (l : List CarryEntry) : (carriedList serial amount l).length ≤ l.length + 1 := by
  unfold carriedList
  (repeat' split) <;> simp [addToEntry_length]

theorem carryAmount_cons (e : CarryEntry) (rest : List CarryEntry) (x : Serial) :
    carryAmount (e :: rest) x = if e.serial = x then e.amount else carryAmount rest x := by
  by_cases same : e.serial = x <;> simp [carryAmount, same]

theorem carryAmount_addToEntry (l : List CarryEntry) (known : l.any (fun e => e.serial == serial) = true) :
    carryAmount (addToEntry serial amount l) serial = min Config.counterMax (carryAmount l serial + amount) := by
  induction l with
  | nil => cases known
  | cons e rest ih =>
    rw [addToEntry]
    by_cases same : e.serial = serial
    · simp [same, carryAmount_cons]
    · have later : rest.any (fun e => e.serial == serial) = true := by simpa [same] using known
      simp [same, carryAmount_cons, ih later]

theorem carryAmount_addToEntry_ne {x : Serial} (other : x ≠ serial) (l : List CarryEntry) :
    carryAmount (addToEntry serial amount l) x = carryAmount l x := by
  induction l with
  | nil => rfl
  | cons e rest ih =>
    rw [addToEntry]
    split
    · next same => simp [carryAmount_cons, same, other.symm]
    · rw [carryAmount_cons, carryAmount_cons, ih]

theorem carryAmount_append_new (l : List CarryEntry) (x : Serial)
    (unknown : l.any (fun e => e.serial == serial) = false) :
    carryAmount (l ++ [⟨serial, amount⟩]) x = if x = serial then amount else carryAmount l x := by
  induction l with
  | nil =>
    rw [List.nil_append, carryAmount_cons]
    by_cases same : x = serial
    · simp [same]
    · simp [same, Ne.symm same]
  | cons e rest ih =>
    simp only [List.any_cons, Bool.or_eq_false_iff, beq_eq_false_iff_ne] at unknown
    rw [List.cons_append, carryAmount_cons, carryAmount_cons, ih unknown.2]
    by_cases same : x = serial
    · subst same
      simp [unknown.1]
    · simp [same]

theorem carryAmount_of_unknown {l : List CarryEntry} (unknown : l.any (fun e => e.serial == serial) = false) :
    carryAmount l serial = 0 := by
  have none : l.find? (fun e => e.serial == serial) = none := by simpa using unknown
  rw [carryAmount, none]

/-- R162, R170: an amount joins what the list holds under the serial, saturating. -/
theorem carryAmount_carriedList (l : List CarryEntry) (added : 0 < amount) (fits : amount ≤ Config.counterMax) :
    carryAmount (carriedList serial amount l) serial = min Config.counterMax (carryAmount l serial + amount) := by
  rw [carriedList, if_neg added.ne']
  cases known : l.any (fun e => e.serial == serial) with
  | true => exact carryAmount_addToEntry l known
  | false =>
    rw [if_neg (by simp), carryAmount_append_new l serial known, if_pos rfl, carryAmount_of_unknown known]
    omega

theorem carryAmount_carriedList_ne {x : Serial} (other : x ≠ serial) (l : List CarryEntry) :
    carryAmount (carriedList serial amount l) x = carryAmount l x := by
  unfold carriedList
  split
  · rfl
  split
  · exact carryAmount_addToEntry_ne other l
  next unknown => rw [carryAmount_append_new l x (by simpa using unknown), if_neg other]

end

section

variable {s : State} {k : Colour} {b : Option DrawBasis} {draw : Nat}

/-- With room a draw adds one entry at most, and changes the list under the serial of its basis alone. -/
theorem takeDraw_carry (room : s.carry.length < Config.carryCapacity) :
    (s.takeDraw k b draw).carry.length ≤ s.carry.length + 1
      ∧ ∀ x, (∀ factor, b ≠ some (.genuine x factor)) →
        carryAmount (s.takeDraw k b draw).carry x = carryAmount s.carry x := by
  rcases takeDraw_cases s k b draw with idle | ⟨r, factor, drawn, rfl, slot⟩ | ⟨serial, factor, drawn, rfl, gone⟩ |
    ⟨r, factor, drawn, rfl, slot⟩
  · simp [idle]
  · simp [takeDraw_held drawn slot]
  · rw [takeDraw_gone drawn gone, carryAdd_of_room (.inr (.inr room))]
    exact ⟨carriedList_length_le _, fun x other => carryAmount_carriedList_ne (fun e => other factor (by rw [e])) _⟩
  · simp [takeDraw_foreign drawn slot]

theorem takeDraws_carry {l : List Plane} {n : Nat} (room : s.carry.length + (l.length + n) ≤ Config.carryCapacity) :
    (s.takeDraws l).carry.length + n ≤ Config.carryCapacity
      ∧ ∀ x, (∀ pl ∈ l, ∀ factor, pl.basis ≠ some (.genuine x factor)) →
        carryAmount (s.takeDraws l).carry x = carryAmount s.carry x := by
  induction l generalizing s with
  | nil => exact ⟨by simpa [State.takeDraws] using room, fun _ _ => rfl⟩
  | cons pl rest ih =>
    rw [List.length_cons] at room
    obtain ⟨longer, kept⟩ := takeDraw_carry (s := s) (k := pl.colour) (b := pl.basis) (draw := pl.draw) (by omega)
    obtain ⟨within, others⟩ := ih (s := s.takeDraw pl.colour pl.basis pl.draw) (by omega)
    refine ⟨within, fun x other => ?_⟩
    obtain ⟨first, later⟩ := List.forall_mem_cons.mp other
    exact (others x later).trans (kept x first)

end

/-! ## The notices of a draw -/

section

variable {s : State} {k : Colour} {capacity : Nat} {r : Record}

theorem lowMarkCheck_outbox (known : s.capacity k = some capacity) (record : (s.slot k).state.record = some r) :
    (s.lowMarkCheck k).outbox = s.outbox ++
      (if (s.gauge k).remaining ≤ capacity * s.settings.lowMark / 100 ∧ (s.gauge k).lowSerial = none then
        [.cartLow k r.serial (s.gauge k).remaining capacity] else []) := by
  have mark : s.lowMarkOf k = capacity * s.settings.lowMark / 100 := by rw [State.lowMarkOf, known]
  unfold State.lowMarkCheck
  rw [known, record]
  dsimp only
  rw [mark]
  split
  · rfl
  · exact (List.append_nil _).symm

theorem depleted_of_capacity (known : s.capacity k = some capacity) :
    s.depleted k = decide ((s.gauge k).remaining = 0) := by
  unfold State.capacity at known
  unfold State.depleted
  cases slot : (s.slot k).state with
  | genuine r => rfl
  | foreign r => rfl
  | _ => rw [slot] at known; cases known

/-- The state in which remaining is written and the pages are re-judged (R161). -/
def writeRemaining (s : State) (k : Colour) (value : Nat) : State :=
  (s.setGauge k { s.gauge k with remaining := value }).rejudge

theorem setRemaining_of_changed {value : Nat} (changed : value ≠ (s.gauge k).remaining) :
    s.setRemaining k value =
      (if value = 0 then (writeRemaining s k value).noteDepletion k .depleted
        else if (s.gauge k).remaining = 0 then (writeRemaining s k value).noteDepletion k .restocked
        else writeRemaining s k value).lowMarkCheck k :=
  if_neg changed

theorem writeRemaining_gauge (value : Nat) :
    (writeRemaining s k value).gauge k = { s.gauge k with remaining := value } :=
  State.gauge_setGauge s k _

theorem noteDepletion_outbox (known : s.capacity k = some capacity) (record : (s.slot k).state.record = some r)
    (reason : Reason) : (s.noteDepletion k reason).outbox = s.outbox ++
      [.cartState k (s.slot k).state.code (s.slot k).state.code reason (some r.serial)
        (decide ((s.gauge k).remaining = 0))] := by
  rw [State.noteDepletion, State.note_outbox, depleted_of_capacity known, record]
  rfl

/-- R172, R173: a change of remaining is noted where it depletes or restocks the slot, or reaches the low mark. -/
theorem setRemaining_outbox (known : s.capacity k = some capacity) (record : (s.slot k).state.record = some r)
    (value : Nat) : (s.setRemaining k value).outbox = s.outbox ++ s.tonerNotices k capacity r.serial value := by
  unfold State.tonerNotices
  by_cases same : value = (s.gauge k).remaining
  · rw [State.setRemaining, if_pos same, if_pos same, List.append_nil]
  rw [setRemaining_of_changed same, if_neg same]
  have gauge := writeRemaining_gauge (s := s) (k := k) value
  have noted (reason : Reason) := noteDepletion_outbox (s := writeRemaining s k value) known record reason
  have checked (reason : Reason) :=
    lowMarkCheck_outbox (s := (writeRemaining s k value).noteDepletion k reason) known record
  have unnoted := lowMarkCheck_outbox (s := writeRemaining s k value) known record
  have sameGauge (reason : Reason) :
      ((writeRemaining s k value).noteDepletion k reason).gauge k = (writeRemaining s k value).gauge k := rfl
  split
  · next empty =>
    rw [checked, noted, sameGauge, gauge, List.append_assoc]
    simp only [empty]
    rfl
  · next left =>
    split
    · rw [checked, noted, sameGauge, gauge, List.append_assoc, decide_eq_false left]
      rfl
    · rw [unnoted, gauge]
      rfl

end

section

variable {s : State} {pl : Plane}

theorem draw_of_no_basis (none : pl.basis = none) : pl.draw = 0 := by rw [Plane.draw, none]

/-- With room in the carry list a draw adds its own notices and no other. -/
theorem takeDraw_outbox (room : s.carry.length < Config.carryCapacity) :
    (s.takeDraw pl.colour pl.basis pl.draw).outbox = s.outbox ++ s.drawNotices pl := by
  unfold State.drawNotices
  rcases Nat.eq_zero_or_pos pl.draw with none | drawn
  · rw [none, takeDraw_zero, if_pos rfl, List.append_nil]
  rw [if_neg drawn.ne']
  cases basis : pl.basis with
  | none => exact absurd (draw_of_no_basis basis) drawn.ne'
  | some b =>
  cases b with
  | genuine serial factor =>
    by_cases held : ∃ r, (s.slot pl.colour).state = .genuine r ∧ r.serial = serial
    · obtain ⟨r, slot, rfl⟩ := held
      have known : s.capacity pl.colour = some r.rated.toNat := by rw [State.capacity, slot]
      have record : (s.slot pl.colour).state.record = some r := by rw [slot]; rfl
      rw [takeDraw_held drawn slot, (postIfDue_ports _ _).2,
        setRemaining_outbox (s := s.setGauge pl.colour _) known record, slot]
      simp [State.tonerNotices]
    · rw [takeDraw_gone drawn (fun r slot same => held ⟨r, slot, same⟩), carryAdd_of_room (.inr (.inr room))]
      cases slot : (s.slot pl.colour).state with
      | genuine r => simp [show r.serial ≠ serial from fun same => held ⟨r, slot, same⟩]
      | _ => simp
  | foreign factor =>
    cases slot : (s.slot pl.colour).state with
    | foreign r =>
      have known : s.capacity pl.colour = some s.settings.foreignCapacity := by rw [State.capacity, slot]
      have record : (s.slot pl.colour).state.record = some r := by rw [slot]; rfl
      rw [takeDraw_foreign drawn slot, setRemaining_outbox known record]
    | _ => rw [takeDraw_foreign_gone (by simp [slot]), List.append_nil]

theorem drawNotices_congr {t : State} (same : sameAt pl.colour s t) (settings : t.settings = s.settings) :
    t.drawNotices pl = s.drawNotices pl := by
  simp only [State.drawNotices, State.tonerNotices, same.1, same.2, settings]

end

/-- With room for every plane, the draws of planes of different colours add their notices in the order of the planes. -/
theorem takeDraws_outbox {s : State} {l : List Plane} (apart : (l.map (·.colour)).Nodup)
    (room : s.carry.length + l.length ≤ Config.carryCapacity) :
    (s.takeDraws l).outbox = s.outbox ++ l.flatMap s.drawNotices := by
  induction l generalizing s with
  | nil => exact (List.append_nil _).symm
  | cons pl rest ih =>
    rw [List.map_cons, List.nodup_cons] at apart
    rw [List.length_cons] at room
    have longer := (takeDraw_carry (s := s) (k := pl.colour) (b := pl.basis) (draw := pl.draw) (by omega)).1
    have others : rest.flatMap (s.takeDraw pl.colour pl.basis pl.draw).drawNotices = rest.flatMap s.drawNotices := by
      refine List.flatMap_congr fun q mem => drawNotices_congr (takeDraw_sameAt s _ _ fun same => ?_) (by simp)
      exact apart.1 (List.mem_map.mpr ⟨q, mem, same⟩)
    change ((s.takeDraw pl.colour pl.basis pl.draw).takeDraws rest).outbox = _
    rw [ih apart.2 (by omega), takeDraw_outbox (by omega), others, List.append_assoc, List.flatMap_cons]

/-! ## What the draws of a page leave -/

/-- A plane of a page stands apart by its colour from those before it and those after it. -/
theorem exists_split_of_colours {l : List Plane} (apart : (l.map (·.colour)).Nodup) {pl : Plane} (mem : pl ∈ l) :
    ∃ before after, l = before ++ pl :: after ∧ (∀ q ∈ before, q.colour ≠ pl.colour)
      ∧ ∀ q ∈ after, q.colour ≠ pl.colour := by
  obtain ⟨before, after, rfl⟩ := List.append_of_mem mem
  rw [List.map_append, List.map_cons, List.nodup_append, List.nodup_cons] at apart
  obtain ⟨-, ⟨fresh, -⟩, disjoint⟩ := apart
  refine ⟨before, after, rfl, fun q used same => ?_, fun q used same => ?_⟩
  · exact disjoint _ (List.mem_map.mpr ⟨q, used, rfl⟩) _ List.mem_cons_self same
  · exact fresh (List.mem_map.mpr ⟨q, used, same⟩)

section

variable {s : State} {k : Colour} {draw : Nat} {r : Record} {factor : Nat}

/-- R164: P rises by the draw, saturating, and remaining falls by it. -/
theorem takeDraw_held_gauge (drawn : 0 < draw) (slot : (s.slot k).state = .genuine r) :
    Gauge.agrees { s.gauge k with
        pending := min Config.counterMax ((s.gauge k).pending + draw), remaining := (s.gauge k).remaining - draw }
      ((s.takeDraw k (some (.genuine r.serial factor)) draw).gauge k) := by
  rw [takeDraw_held drawn slot]
  refine Gauge.agrees_trans ?_ (postIfDue_gauge _)
  simpa using setRemaining_gauge (s.setGauge k { s.gauge k with
    pending := min Config.counterMax ((s.gauge k).pending + draw) }) (k := k) ((s.gauge k).remaining - draw)

/-- R165: where the link is free the draw begins a posting of the whole pending debit. -/
theorem takeDraw_held_message (drawn : 0 < draw) (slot : (s.slot k).state = .genuine r)
    (free : (s.slot k).message = none) (awake : s.power ≠ .sleep) :
    ∃ tag, ((s.takeDraw k (some (.genuine r.serial factor)) draw).slot k).message =
      some ⟨.debit ((s.takeDraw k (some (.genuine r.serial factor)) draw).gauge k).pending
        ((s.gauge k).sequence + 1) tag, 1, .sending⟩ := by
  obtain ⟨-, pending, -, -⟩ := takeDraw_held_gauge (factor := factor) drawn slot
  rw [pending, takeDraw_held drawn slot]
  obtain ⟨-, written, -, sequence⟩ := setRemaining_gauge (s.setGauge k { s.gauge k with
    pending := min Config.counterMax ((s.gauge k).pending + draw) }) (k := k) ((s.gauge k).remaining - draw)
  simp only [State.gauge_setGauge] at written sequence
  have kept : ((s.setGauge k { s.gauge k with
      pending := min Config.counterMax ((s.gauge k).pending + draw) }).setRemaining k
        ((s.gauge k).remaining - draw)).slot k = s.slot k :=
    slot_congr (by simp) k
  have owed : 0 < min Config.counterMax ((s.gauge k).pending + draw) := by
    have : 0 < Config.counterMax := by decide
    omega
  obtain ⟨tag, message⟩ := postIfDue_message _ (kept ▸ slot) (kept ▸ free) (by rwa [written]) (by simpa using awake)
  exact ⟨tag, by rw [message, written, sequence]⟩

end

/-- The draws of a page reach the gauges and the carry list as R164 has it. -/
theorem takeDraws_drawnFrom (s : State) (p : Page) : (s.takeDraws p.planes).drawnFrom s p := by
  intro apart
  refine ⟨fun k unused => takeDraws_sameAt s unused, fun pl mem => ?_⟩
  obtain ⟨before, after, planes, earlier, later⟩ := exists_split_of_colours apart mem
  have parts : s.takeDraws p.planes =
      (((s.takeDraws before).takeDraw pl.colour pl.basis pl.draw).takeDraws after) := by
    simp only [State.takeDraws, planes, List.foldl_append, List.foldl_cons]
  obtain ⟨gaugeBefore, slotBefore⟩ := takeDraws_sameAt s earlier
  obtain ⟨gaugeAfter, slotAfter⟩ := takeDraws_sameAt ((s.takeDraws before).takeDraw pl.colour pl.basis pl.draw) later
  have power : (s.takeDraws before).power = s.power := by simp
  rw [parts]
  dsimp only
  rw [gaugeAfter, slotAfter, ← gaugeBefore, ← slotBefore, ← power]
  refine ⟨fun none => by rw [none, takeDraw_zero], fun drawn serial factor basis => ⟨?_, ?_⟩,
    fun drawn factor basis => ⟨?_, ?_⟩⟩
  · rintro r slot rfl
    rw [basis]
    obtain ⟨remaining, pending, acked, sequence⟩ := takeDraw_held_gauge (factor := factor) drawn slot
    exact ⟨pending, remaining, acked, sequence, takeDraw_held_message drawn slot⟩
  · intro gone
    have joined : (s.takeDraws before).takeDraw pl.colour pl.basis pl.draw =
        (s.takeDraws before).carryAdd serial pl.draw := by
      rw [basis, takeDraw_gone drawn gone]
    refine ⟨by rw [joined]; exact gauge_congr (by simp) _, fun ⟨_, room⟩ fits others => ?_⟩
    have length : p.planes.length = before.length + (after.length + 1) := by simp [planes]
    have foreignTo (q : Plane) (used : q ∈ p.planes) (other : q.colour ≠ pl.colour) (f : Nat) :
        q.basis ≠ some (.genuine serial f) := others q used other f
    obtain ⟨roomAfter, keptBefore⟩ := takeDraws_carry (s := s) (l := before) (n := after.length + 1) (by
      rw [← length]
      exact room)
    have roomNow : (s.takeDraws before).carry.length < Config.carryCapacity := by omega
    obtain ⟨longer, -⟩ := takeDraw_carry (s := s.takeDraws before) (k := pl.colour) (b := pl.basis)
      (draw := pl.draw) roomNow
    obtain ⟨-, keptAfter⟩ := takeDraws_carry
      (s := (s.takeDraws before).takeDraw pl.colour pl.basis pl.draw) (l := after) (n := 0) (by omega)
    rw [keptAfter serial (fun q used => foreignTo q (by simp [planes, used]) (later q used)), joined,
      carryAdd_of_room (.inr (.inr roomNow)), carryAmount_carriedList _ drawn fits,
      keptBefore serial (fun q used => foreignTo q (by simp [planes, used]) (earlier q used))]
    rfl
  · intro r slot
    rw [basis, takeDraw_foreign drawn slot]
    obtain ⟨remaining, pending, -, -⟩ := setRemaining_gauge (s.takeDraws before) (k := pl.colour)
      (((s.takeDraws before).gauge pl.colour).remaining - pl.draw)
    exact ⟨remaining, pending⟩
  · intro gone
    rw [basis, takeDraw_foreign_gone gone]

/-! ## The pages-since-commit count -/

section

variable (s : State)

/-- The count as the end of a charged page raises it (R132). -/
def raisedSince (s : State) : Nat := min Config.sinceMax (s.commit.since + 1)

/-- The state in which the count is raised and no commit triggered yet. -/
def countedPage (s : State) : State := { s with commit := { s.commit with since := raisedSince s } }

theorem raiseSince_eq : s.raiseSince =
    if s.settings.commitInterval ≤ raisedSince s then (countedPage s).triggerCommit .interval else countedPage s := rfl

theorem triggerCommit_ports (c : Cause) :
    (s.triggerCommit c).emitted = s.emitted ∧ (s.triggerCommit c).outbox = s.outbox
    ∧ (s.triggerCommit c).lines = s.lines := by
  unfold State.triggerCommit State.startCommit
  split <;> exact ⟨rfl, rfl, rfl⟩

@[simp] theorem raiseSince_ports :
    s.raiseSince.emitted = s.emitted ∧ s.raiseSince.outbox = s.outbox ∧ s.raiseSince.lines = s.lines := by
  rw [raiseSince_eq]
  split
  · exact triggerCommit_ports (countedPage s) .interval
  · exact ⟨rfl, rfl, rfl⟩

/-- R132: below the commit interval the count rises and nothing else of the commit state changes. -/
theorem raiseSince_commit_below (below : raisedSince s < s.settings.commitInterval) :
    s.raiseSince.commit = { s.commit with since := raisedSince s } := by
  rw [raiseSince_eq, if_neg (Nat.not_le.mpr below)]
  rfl

/-- R132, R133: at the interval an INTERVAL commit starts, whose copy holds the meter as it stands. -/
theorem raiseSince_commit_starts (reached : s.settings.commitInterval ≤ raisedSince s)
    (idle : s.commit.inFlight = none) :
    ∃ job, s.raiseSince.commit.inFlight = some job ∧ job.causes = 2 ∧ job.foundSince = raisedSince s
      ∧ job.snapshot.meter = s.meter ∧ s.raiseSince.commit.since = 0 := by
  have starts : s.raiseSince = (countedPage s).startCommit 2 := by
    rw [raiseSince_eq, if_pos reached]
    unfold State.triggerCommit
    rw [show (countedPage s).commit.inFlight = none from idle]
    rfl
  rw [starts]
  exact ⟨_, rfl, rfl, rfl, rfl, rfl⟩

/-- R133: with a commit in flight the trigger is remembered. -/
theorem raiseSince_commit_remembers (reached : s.settings.commitInterval ≤ raisedSince s)
    (busy : s.commit.inFlight ≠ none) :
    s.raiseSince.commit =
      { s.commit with since := raisedSince s, remembered := some (s.commit.remembered.getD 0 ||| 2) } := by
  obtain ⟨job, busy⟩ := Option.ne_none_iff_exists'.mp busy
  rw [raiseSince_eq, if_pos reached]
  unfold State.triggerCommit
  rw [show (countedPage s).commit.inFlight = some job from busy]
  rfl

end

/-! ## The end of a charged page -/

section

variable (s : State)

@[simp] theorem dropRequest_outbox (t : MemTid) : (s.dropRequest t).outbox = s.outbox := by
  unfold State.dropRequest
  split <;> rfl

@[simp] theorem invalidateLine_outbox (i : Fin 8) : (s.invalidateLine i).outbox = s.outbox := by
  unfold State.invalidateLine
  (repeat' split) <;> simp

@[simp] theorem invalidateLines_outbox (p : Line → Bool) : (s.invalidateLines p).outbox = s.outbox :=
  State.foldl_frame (·.outbox) _ (fun s i => by split <;> simp) _ s

/-- R73: no line that meets the condition can be hit once it is invalidated. -/
theorem invalidateLines_discards (p : Line → Bool) (k : Fin 8) :
    ((s.invalidateLines p).line k).all (fun l => !p l || l.discarding) = true := by
  rw [invalidateLines_line]
  cases found : s.line k with
  | none => rfl
  | some l =>
    by_cases meets : p l = true
    · rw [if_pos (by simpa using meets), Option.bind_some, invalidatedLine]
      cases l.state with
      | filling t => rfl
      | valid filled us n d data =>
        dsimp only
        split
        · rfl
        · simp [Line.discarding]
    · rw [if_neg (by simpa using meets)]
      simp [meets]

variable (i : Fin 16) (p : Page) (cancel : Option CancelCause)

theorem endCharged_accounts : (s.endCharged i p cancel).accounts = s.accounts.set p.account
    ((s.account p.account).settle p.reservation (p.charge s.settings).charge (p.charge s.settings).cls p.foreignFlag
      cancel.isSome) := by
  simp only [endCharged_eq, settledPage, bookedPage, State.raiseSince_frame, State.lowerLive_frame,
    State.setPage_accounts, State.note_accounts, State.invalidateLines_frame, State.takeDraws_frame]
  rfl

theorem endCharged_meter : (s.endCharged i p cancel).meter =
    s.meter.raisePage (p.charge s.settings).cls p.foreignFlag cancel.isSome := by
  simp [endCharged_eq, settledPage, bookedPage]

theorem endCharged_page : (s.endCharged i p cancel).page i = none := by
  simp [endCharged_eq, State.page, State.setPage]

theorem endCharged_windows : (s.endCharged i p cancel).windows =
    s.windows.set p.window.index { s.window p.window.index with
      livePages := (s.window p.window.index).livePages - 1 } := by
  have kept : (settledPage s p cancel).windows = s.windows := by simp [settledPage, bookedPage]
  simp only [endCharged_eq, State.raiseSince_frame, State.lowerLive, State.setWindow, State.setPage, State.note,
    State.window, kept]

/-- The draws of a charged page are those that its planes take once account and meter are settled. -/
theorem endCharged_toner :
    (s.endCharged i p cancel).gauges = ((bookedPage s p cancel).takeDraws p.planes).gauges
      ∧ (s.endCharged i p cancel).slots = ((bookedPage s p cancel).takeDraws p.planes).slots
      ∧ (s.endCharged i p cancel).carry = ((bookedPage s p cancel).takeDraws p.planes).carry := by
  simp [endCharged_eq, settledPage]

theorem endCharged_outbox : (s.endCharged i p cancel).outbox =
    ((bookedPage s p cancel).takeDraws p.planes).outbox ++ [endNotice s p cancel] := by
  simp [endCharged_eq, settledPage, State.lowerLive]

@[simp] theorem endCharged_emitted : (s.endCharged i p cancel).emitted = s.emitted := by
  simp [endCharged_eq, settledPage, bookedPage, State.lowerLive]

/-- No line of a charged page can be hit any more (R96). -/
theorem endCharged_lines (k : Fin 8) :
    ((s.endCharged i p cancel).line k).all (fun l => l.page != p.number || l.discarding) = true := by
  have discarded := invalidateLines_discards ((bookedPage s p cancel).takeDraws p.planes)
    (fun l => l.page == p.number) k
  have lines : (s.endCharged i p cancel).lines = (settledPage s p cancel).lines := by
    simp [endCharged_eq, State.lowerLive]
  rw [line_congr lines]
  exact discarded

/-- What the raised count finds of the commit state, the settings and the meter at the end of a charged page. -/
theorem endCharged_commit : ∃ u : State, (s.endCharged i p cancel) = u.raiseSince ∧ u.commit = s.commit
    ∧ u.settings = s.settings ∧ u.meter = (s.endCharged i p cancel).meter := by
  refine ⟨_, endCharged_eq s i p cancel, ?_, ?_, ?_⟩
  · simp [settledPage, bookedPage]
  · simp [settledPage, bookedPage]
  · simp [endCharged_eq]

theorem drawnFrom_congr {t t' s : State} {p : Page} (gauges : t.gauges = t'.gauges) (slots : t.slots = t'.slots)
    (carry : t.carry = t'.carry) (h : t'.drawnFrom s p) : t.drawnFrom s p := by
  simpa only [State.drawnFrom, State.gauge, State.slot, gauges, slots, carry] using h

/-- R96, R97, R164: the notices of a page's end are those of its draws, then its own. -/
theorem endCharged_notices (quiet : s.outbox = []) :
    ∃ ns : List Notice, (∀ n ∈ ns, n.ofToner)
      ∧ (closeEvent (s.endCharged i p cancel)).notices = (ns ++ [endNotice s p cancel]).foldl pushNotice s.notices
      ∧ (s.roomForDraws p → ns = p.planes.flatMap s.drawNotices) := by
  refine ⟨((bookedPage s p cancel).takeDraws p.planes).outbox, fun n mem => ?_, ?_, fun ⟨apart, room⟩ => ?_⟩
  · refine (takeDraws_notesToner (bookedPage s p cancel) p.planes n mem).resolve_left fun old => ?_
    have none : (bookedPage s p cancel).outbox = [] := quiet
    simp [none] at old
  · simp only [closeEvent, endCharged_outbox, State.endCharged_frame]
  · rw [takeDraws_outbox (s := bookedPage s p cancel) apart room, show (bookedPage s p cancel).outbox = [] from quiet]
    rfl

/-- What the end of a charged page leaves in its account, the meter, its window, the page table, the prefetch lines, the
gauges, the carry list, the notices and the commit state, whatever the state `t` holds elsewhere. -/
theorem chargedFrom_of_endCharged {t u : State} (quiet : s.outbox = []) (ended : s.endCharged i p cancel = u)
    (accounts : t.accounts = u.accounts) (meter : t.meter = u.meter) (pages : t.pages = u.pages)
    (windows : t.windows = u.windows)
    (lines : ∀ k, (t.line k).all (fun l => l.page != p.number || l.discarding) = true)
    (gauges : t.gauges = u.gauges) (slots : t.slots = u.slots) (carry : t.carry = u.carry)
    (notices : t.notices = (closeEvent u).notices) (commit : t.commit = u.commit) :
    t.chargedFrom s i p cancel s.notices := by
  subst ended
  have account (a : Fin 128) : t.account a = (s.setAccount p.account ((s.account p.account).settle p.reservation
      (p.charge s.settings).charge (p.charge s.settings).cls p.foreignFlag cancel.isSome)).account a := by
    rw [State.account, accounts, endCharged_accounts]
    rfl
  have page : t.page i = none := by
    rw [State.page, pages]
    exact endCharged_page s i p cancel
  have window : (t.window p.window.index).livePages = (s.window p.window.index).livePages - 1 := by
    simp [State.window, windows, endCharged_windows]
  have drawn : t.drawnFrom s p := by
    obtain ⟨gauges', slots', carry'⟩ := endCharged_toner s i p cancel
    exact drawnFrom_congr (gauges.trans gauges') (slots.trans slots') (carry.trans carry')
      (takeDraws_drawnFrom (bookedPage s p cancel) p)
  obtain ⟨ns, toner, queued, listed⟩ := endCharged_notices s i p cancel quiet
  obtain ⟨u, raised, commit', settings, meter'⟩ := endCharged_commit s i p cancel
  have since : raisedSince u = min 1024 (s.commit.since + 1) := by rw [raisedSince, commit']; rfl
  rw [raised] at commit
  unfold State.chargedFrom
  dsimp only
  refine ⟨?_, fun a other => ?_, ?_, page, window, lines, drawn, ⟨ns, toner, ?_, listed⟩, fun below => ?_,
    fun reached idle => ?_, fun reached busy => ?_⟩
  · rw [account, State.account_setAccount]
    rfl
  · rw [account, State.account_setAccount_ne _ _ other.symm]
  · rw [meter, endCharged_meter]
  · rw [notices, queued]
    rfl
  · rw [commit, raiseSince_commit_below u (by rwa [since, settings]), commit', since]
  · rw [commit, meter, ← meter', ← since]
    exact raiseSince_commit_starts u (by rwa [since, settings]) (by rwa [commit'])
  · rw [commit, raiseSince_commit_remembers u (by rwa [since, settings]) (by rwa [commit']), commit', since]

end

/-! ## PAGE_CANCEL -/

theorem findPage_eq_none {s : State} {n : BitVec 32}
    (unknown : n = 0 ∨ ∀ i, (s.page i).all (fun p => p.number != n) = true) : s.findPage n = none := by
  unfold State.findPage
  split
  · rfl
  next named =>
  refine List.find?_eq_none.mpr fun i _ => ?_
  have other := unknown.resolve_left named i
  cases found : s.page i with
  | none => simp
  | some p => simpa [found] using other

theorem findPage_number {s : State} {n : BitVec 32} {i : Fin 16} {p : Page} (found : s.findPage n = some i)
    (live : s.page i = some p) : p.number = n := by
  unfold State.findPage at found
  split at found
  · cases found
  · simpa [live] using List.find?_some found

/-- R98: what the end of an uncharged page changes. -/
theorem endUncharged_eq (s : State) (i : Fin 16) (p : Page) (c : CancelCause) : s.endUncharged i p c = { s with
    pages := s.pages.set i none
    accounts := s.accounts.set p.account
      { s.account p.account with reserved := (s.account p.account).reserved - p.reservation }
    windows := s.windows.set p.window.index
      { s.window p.window.index with livePages := (s.window p.window.index).livePages - 1 }
    outbox := s.outbox ++ [.pageCancelled
      { number := p.number, account := p.account, window := p.window, cls := classOf p.size false
        coverage := p.planes.map (fun pl => (pl.colour, 0)), charge := 0, foreign := false } p.state c] } := rfl

section

variable {s : State} {f : Frame} {n : BitVec 32} {i : Fin 16} {p : Page}

theorem cancelPage_of_unprinted (live : s.page i = some p) (unprinted : p.state ≠ .printing) (c : CancelCause) :
    s.cancelPage c i = s.endUncharged i p c := by
  rw [State.cancelPage, live]
  cases state : p.state with
  | printing => exact absurd state unprinted
  | waiting | admitted => simp only [state]

theorem cancelPage_of_printing (live : s.page i = some p) (printing : p.state = .printing) (c : CancelCause) :
    s.cancelPage c i = s.endCharged i p (some c) := by
  rw [State.cancelPage, live]
  simp only [printing]

variable (hs : s.ready) (hf : wholeFrame f 4)
include hs hf

theorem exec_pageCancel_unknown (unknown : s.findPage n = none) :
    exec (.pageCancel f n) s = .next (s.answered f 0x21 .notFound .empty) :=
  next_answer hs.1 hf rfl (.inr hs.2) (by simp only [heard_findPage, unknown]; rfl)

variable (found : s.findPage n = some i) (live : s.page i = some p)
include found live

/-- R98: the reservation is released and nothing is charged. -/
theorem exec_pageCancel_unprinted (unprinted : p.state ≠ .printing) :
    exec (.pageCancel f n) s = .next { s.answered f 0x21 .ok .empty with
      pages := s.pages.set i none
      accounts := s.accounts.set p.account
        { s.account p.account with reserved := (s.account p.account).reserved - p.reservation }
      windows := s.windows.set p.window.index
        { s.window p.window.index with livePages := (s.window p.window.index).livePages - 1 }
      notices := pushNotice s.notices (.pageCancelled
        { number := p.number, account := p.account, window := p.window, cls := classOf p.size false
          coverage := p.planes.map (fun pl => (pl.colour, 0)), charge := 0, foreign := false } p.state .command) } := by
  refine next_judged hs.1 hf rfl (.inr hs.2) ?_
  simp only [heard_findPage, found]
  rw [cancelPage_of_unprinted (s := heard s f) live unprinted, endUncharged_eq]
  rfl

/-- R99: the page is charged on what it has delivered. -/
theorem exec_pageCancel_printing (printing : p.state = .printing) :
    exec (.pageCancel f n) s =
      .next (closeEvent (((heard s f).endCharged i p (some .command)).answerStatus 0x21 .ok)) := by
  refine next_judged hs.1 hf rfl (.inr hs.2) ?_
  simp only [heard_findPage, found]
  rw [cancelPage_of_printing (s := heard s f) live printing]

end

/-- Settles O27: no live page has the number, or its entry ends as its state asks. -/
theorem pagesAreCancelled : Obligations.PagesAreCancelled := by
  refine ⟨fun s f n hs hf => ⟨fun unknown => exec_pageCancel_unknown hs hf (findPage_eq_none unknown),
    fun i p found live unprinted => ?_⟩, fun s f n i p hs hf found live printing => ?_⟩
  · have mono : classOf p.size false = if p.size = .small then PageClass.monoSmall else .monoLarge := by
      cases p.size <;> rfl
    rw [exec_pageCancel_unprinted hs hf found live unprinted, mono]
  · have lines := endCharged_lines (heard s f) i p (some .command)
    have run := exec_pageCancel_printing hs hf found live printing
    generalize ended : (heard s f).endCharged i p (some .command) = u at lines run
    exact ⟨_, run, rfl,
      chargedFrom_of_endCharged (heard s f) i p (some .command) rfl ended rfl rfl rfl rfl lines rfl rfl rfl rfl rfl⟩

/-! ## The beat that completes a page -/

section

variable {s : State} {r : PlaneRef} {i : Fin 16} {p : Page}

theorem printedBeat_complete {colour : Colour} {offset : Nat} {b : Beat}
    (full : ∀ pl ∈ (p.printedBeat colour offset b).planes, pl.mark = p.planeSize) :
    (p.printedBeat colour offset b).complete = true :=
  List.all_eq_true.mpr fun pl mem => beq_iff_eq.mpr (full pl mem)

/-- R95, R96: the beat that makes every plane complete ends the page in the same event. -/
theorem countBeat_of_completing {offset : Nat} {first : Bool} {b : Beat} (found : s.findPage r.page = some i)
    (live : s.page i = some p) (prints : p.state = .printing ∨ first = true)
    (full : ∀ pl ∈ (p.printedBeat r.plane offset b).planes, pl.mark = p.planeSize) :
    s.countBeat (some r) offset first b =
      (s.setPage i (some (p.printedBeat r.plane offset b))).endCharged i (p.printedBeat r.plane offset b) none := by
  have moved : (if first then { p with state := .printing } else p) = { p with state := .printing } := by
    rcases prints with printing | rfl
    · cases p
      cases printing
      exact ite_self _
    · rfl
  simp only [State.countBeat, found, live, moved, Page.count_eq_printedBeat, printedBeat_complete full, if_true]

/-- No live page has a number. -/
def noPage (s : State) (n : BitVec 32) : Prop := ∀ j, (s.page j).all (fun q => q.number != n) = true

theorem all_numbers_of_bare {s t : State} (same : barePages t.pages = barePages s.pages) (j : Fin 16) (n : BitVec 32) :
    (t.page j).all (fun q => q.number != n) = (s.page j).all (fun q => q.number != n) := by
  have unread (o : Option Page) : o.all (fun q => q.number != n) = (o.map bare).all (fun q => q.number != n) := by
    cases o <;> rfl
  rw [unread (t.page j), unread (s.page j), page_bare same]

theorem endCharged_page_ne {j : Fin 16} {cancel : Option CancelCause} (other : j ≠ i) :
    (s.endCharged i p cancel).page j = (settledPage s p cancel).page j := by
  have pages : (s.endCharged i p cancel).pages = ((settledPage s p cancel).setPage i none).pages := by
    simp [endCharged_eq, State.setPage]
  rw [State.page, pages]
  exact State.page_setPage_ne _ none (Ne.symm other)

/-- R83: the page that ends was the only live one of its number. -/
theorem endCharged_noPage {n : BitVec 32} {cancel : Option CancelCause}
    (others : ∀ j, j ≠ i → (s.page j).all (fun q => q.number != n) = true) : noPage (s.endCharged i p cancel) n := by
  intro j
  by_cases same : j = i
  · rw [same, endCharged_page]
    rfl
  · rw [endCharged_page_ne same, all_numbers_of_bare (settledPage_bare s p cancel)]
    exact others j same

/-- R70, R94: a delivery whose page has ended starts no prefetch. -/
theorem startPrefetch_of_noPage (gone : noPage s r.page) (w : WindowRef) (offset : Nat) (tag : JobTag) :
    s.startPrefetch w r offset tag = s := by
  rw [State.startPrefetch, findPage_eq_none (.inr gone)]
  rfl

theorem endDelivery_of_noPage {d : Delivery} (named : d.ref = some r) (gone : noPage s r.page) :
    s.endDelivery d = if d.ownsTid then s.freeTid d.source d.tid else s := by
  have gone' : noPage (if d.ownsTid then s.freeTid d.source d.tid else s) r.page := by split <;> exact gone
  unfold State.endDelivery
  rw [named]
  cases d.window with
  | none => rfl
  | some w => exact startPrefetch_of_noPage gone' w d.offset d.jobTag

end

/-- No prefetch line of the page of a number can be hit (R73, R96). -/
def unhittable (n : BitVec 32) (s : State) : Prop := ∀ k, (s.line k).all (fun l => l.page != n || l.discarding) = true

/-- R72, R73: the end of a line's delivery frees the line or keeps its page and its discard mark. -/
theorem endLineDelivery_unhittable {s : State} {n : BitVec 32} (unhit : unhittable n s) (i : Fin 8) :
    ∃ lines, s.endLineDelivery i = { s with lines := lines } ∧ unhittable n { s with lines := lines } := by
  have rewritten (l : Option Line) (fine : l.all (fun l => l.page != n || l.discarding) = true) :
      unhittable n (s.setLine i l) := by
    intro k
    rw [State.line_setLine_eq]
    split
    · exact fine
    · exact unhit k
  unfold State.endLineDelivery
  split
  next l found =>
    have fine := unhit i
    rw [found] at fine
    split
    next t us deliveries discard data state =>
      split
      · exact ⟨_, rfl, rewritten none rfl⟩
      · refine ⟨_, rfl, rewritten (some _) ?_⟩
        cases discard <;> simpa only [Option.all_some, Line.discarding, state] using fine
    · exact ⟨_, rfl, unhit⟩
  · exact ⟨_, rfl, unhit⟩

/-- The state without the hit of an age. -/
def withoutHit (s : State) (age : Nat) : State := { s with hits := s.hits.filter (fun x => x.age != age) }

/-- The page of a delivery with its next beat counted. -/
def beatPage (p : Page) (r : PlaneRef) (d : Delivery) : Page :=
  p.printedBeat r.plane (d.offset + 32 * d.sent) (d.beats.getD d.sent 0)

/-- The state in which a beat is sent and counted on its page, which has not ended yet. -/
def beatSent (s : State) (d : Delivery) (i : Fin 16) (q : Page) : State :=
  ((openEvent s).emit (.beat d.source d.tid d.sent (d.beats.getD d.sent 0) d.isLast)).setPage i (some q)

section

variable {s : State} {d : Delivery} {r : PlaneRef} {i : Fin 16} {p : Page} (named : d.ref = some r)
  (found : s.findPage r.page = some i) (live : s.page i = some p)
  (prints : p.state = .printing ∨ (d.sent = 0 ∧ s.power ≠ .entering))
  (full : ∀ pl ∈ (beatPage p r d).planes, pl.mark = p.planeSize)
include named found live prints full

theorem sendBeat_of_completing :
    (openEvent s).sendBeat d = (beatSent s d i (beatPage p r d)).endCharged i (beatPage p r d) none := by
  rw [State.sendBeat, named]
  exact countBeat_of_completing (s := (openEvent s).emit _) found live
    (prints.imp_right fun first => by simp [first.1]) full

variable (others : ∀ j, j ≠ i → (s.page j).all (fun q => q.number != p.number) = true)
include others

omit named prints full in
theorem beatSent_noPage : noPage ((beatSent s d i (beatPage p r d)).endCharged i (beatPage p r d) none) r.page := by
  rw [findPage_number found live] at others
  refine endCharged_noPage fun j other => ?_
  rw [beatSent, State.page_setPage_ne _ _ (Ne.symm other)]
  exact others j other

/-- The beat that completes a page leaves of a tracked read, tracker and tids aside, what the end of the page leaves. -/
theorem deliverTracked_of_completing {e : TrackerEntry} {beats : List Beat} (read : d = e.delivery beats) {u : State}
    (ended : (beatSent s d i (beatPage p r d)).endCharged i (beatPage p r d) none = u) :
    ∃ tracker tids, (openEvent s).deliverTracked e beats = { u with tracker := tracker, tids := tids } := by
  have gone := beatSent_noPage (d := d) found live others
  have sent := sendBeat_of_completing named found live prints full
  have power : u.power = (openEvent s).power := by simp [← ended, beatSent]
  rw [ended] at gone sent
  have delivered : (openEvent s).deliverTracked e beats =
      (if d.isLast then (((openEvent s).sendBeat d).dropEntry e.age).endDelivery d
        else ((openEvent s).sendBeat d).setEntry e.age { e with sent := e.sent + 1 }).abortIfPrinting
        ((openEvent s).entersPrinting d.ref (d.sent == 0)) := by
    rw [read]
    rfl
  rw [delivered, sent]
  cases d.isLast with
  | false => exact ⟨_, _, abortIfPrinting_of_printing named found live prints power⟩
  | true =>
    rw [if_pos rfl, endDelivery_of_noPage (s := u.dropEntry e.age) named gone]
    split <;> exact ⟨_, _, abortIfPrinting_of_printing named found live prints power⟩

/-- The beat that completes a page leaves of a hit, hits, tids and lines aside, what the end of the page leaves, and no
line of the page can be hit. -/
theorem deliverHit_of_completing {h : Hit} (read : d = h.delivery) {u : State}
    (ended : (beatSent s d i (beatPage p r d)).endCharged i (beatPage p r d) none = u) :
    ∃ hits tids lines, (openEvent s).deliverHit h = { u with hits := hits, tids := tids, lines := lines }
      ∧ unhittable p.number { u with hits := hits, tids := tids, lines := lines } := by
  have gone := beatSent_noPage (d := d) found live others
  have sent := sendBeat_of_completing named found live prints full
  have power : u.power = (openEvent s).power := by simp [← ended, beatSent]
  have lines : unhittable p.number u :=
    ended ▸ endCharged_lines (beatSent s d i (beatPage p r d)) i (beatPage p r d) none
  rw [ended] at gone sent
  have delivered : (openEvent s).deliverHit h =
      (if d.isLast then
        (withoutHit ((openEvent s).sendBeat d) h.age |>.endLineDelivery h.line).endDelivery d
        else setHit ((openEvent s).sendBeat d) h.age { h with sent := h.sent + 1 }).abortIfPrinting
        ((openEvent s).entersPrinting d.ref (d.sent == 0)) := by
    rw [read]
    rfl
  rw [delivered, sent]
  cases d.isLast with
  | false => exact ⟨_, _, _, abortIfPrinting_of_printing named found live prints power, lines⟩
  | true =>
    obtain ⟨left, ended, unhit⟩ := endLineDelivery_unhittable (s := withoutHit u h.age) lines h.line
    rw [if_pos rfl, ended, endDelivery_of_noPage (s := { withoutHit u h.age with lines := left }) named gone]
    split <;> exact ⟨_, _, _, abortIfPrinting_of_printing named found live prints power, unhit⟩

end

/-- Settles O28: the beat of a tracked read or of a hit is sent and counted, and the page it completes is charged in the
event. -/
theorem lastBeatCompletesPage : Obligations.LastBeatCompletesPage := by
  refine ⟨fun s age e beats r i p powered entry delivering named found live prints others full => ?_,
    fun s age h r i p powered none hit named found live prints others full => ?_⟩
  · have lines := endCharged_lines (beatSent s (e.delivery beats) i (beatPage p r (e.delivery beats))) i
      (beatPage p r (e.delivery beats)) .none
    have emitted := endCharged_emitted (beatSent s (e.delivery beats) i (beatPage p r (e.delivery beats))) i
      (beatPage p r (e.delivery beats)) .none
    generalize ended : (beatSent s (e.delivery beats) i (beatPage p r (e.delivery beats))).endCharged i
      (beatPage p r (e.delivery beats)) .none = u at lines emitted
    obtain ⟨tracker, tids, delivered⟩ :=
      deliverTracked_of_completing (d := e.delivery beats) named found live prints full others rfl ended
    rw [← deliverBeat_of_entry (s := openEvent s) entry delivering] at delivered
    exact ⟨_, next_event powered (congrArg closeEvent delivered), emitted,
      chargedFrom_of_endCharged (beatSent s (e.delivery beats) i _) i (beatPage p r (e.delivery beats)) .none rfl ended
        rfl rfl rfl rfl lines rfl rfl rfl rfl rfl⟩
  · have emitted := endCharged_emitted (beatSent s h.delivery i (beatPage p r h.delivery)) i
      (beatPage p r h.delivery) .none
    generalize ended : (beatSent s h.delivery i (beatPage p r h.delivery)).endCharged i
      (beatPage p r h.delivery) .none = u at emitted
    obtain ⟨hits, tids, left, delivered, lines⟩ :=
      deliverHit_of_completing (d := h.delivery) named found live prints full others rfl ended
    rw [← deliverBeat_of_hit (s := openEvent s) none hit] at delivered
    exact ⟨_, next_event powered (congrArg closeEvent delivered), emitted,
      chargedFrom_of_endCharged (beatSent s h.delivery i _) i (beatPage p r h.delivery) .none rfl ended
        rfl rfl rfl rfl lines rfl rfl rfl rfl rfl⟩

/-! ## Presence of the cartridges (R141, R151) -/

section

variable {s : State} {k : Colour}

theorem event_of_unpowered {body : State → State} (off : s.powered = false) : event body s = s.driving [] :=
  if_neg (by simp [off])

theorem event_of_powered {body : State → State} {u : State} (on : s.powered = true) (does : body (s.driving []) = u) :
    event body s = closeEvent u :=
  (if_pos on).trans (congrArg closeEvent does)

theorem event_of_quiet {body : State → State} {u : State} (on : s.powered = true) (does : body (s.driving []) = u)
    (quiet : u.outbox = []) : event body s = u :=
  (event_of_powered on does).trans (closeEvent_of_no_notice quiet)

theorem exec_presenceAssert_of_quiet {u : State} (on : s.powered = true)
    (rises : ((s.driving []).setPresenceLine k true).lineRises k = u) (quiet : u.outbox = []) :
    exec (.presenceAssert k) s = .next u :=
  congrArg Host.Outcome.next (event_of_quiet (s := s.setPresenceLine k true) on rises quiet)

theorem exec_presenceDeassert_of_quiet {u : State} (on : s.powered = true)
    (drops : ((s.driving []).setPresenceLine k false).lineDrops k = u) (quiet : u.outbox = []) :
    exec (.presenceDeassert k) s = .next u :=
  congrArg Host.Outcome.next (event_of_quiet (s := s.setPresenceLine k false) on drops quiet)

theorem setSlot_setSlot (s : State) (k : Colour) (x y : Slot) : (s.setSlot k x).setSlot k y = s.setSlot k y := by
  simp [State.setSlot]

theorem departGauge_of_kept (absent : (s.slot k).state = .absent) : s.departGauge k = s := by
  rw [State.departGauge, absent]

theorem enterGauge_of_no_record {y : SlotState} (none : y.record = none) : s.enterGauge k y = s := by
  cases y with
  | genuine | foreign => cases none
  | absent | probing | proving | rejected | mute => rfl

/-- The slot a change of state leaves behind. -/
def changedSlot (x : Slot) (y : SlotState) (reason : Reason) (m : Option Message) : Slot :=
  { x with state := y, message := m, lastReason := some reason }

theorem capacity_of_no_record (none : (s.slot k).state.record = none) : s.capacity k = .none := by
  unfold State.capacity
  split
  · next slot => rw [slot] at none; cases none
  · next slot => rw [slot] at none; cases none
  · rfl

theorem lineDrops_of_away (away : (s.slot k).presence = .notPresent) : s.lineDrops k = s := by
  rw [State.lineDrops, away]

theorem lineDrops_of_settling (settling : (s.slot k).presence = .settling) :
    s.lineDrops k = s.setPresence k .notPresent := by
  rw [State.lineDrops, settling]

theorem lowMarkCheck_of_no_record (none : (s.slot k).state.record = none) : s.lowMarkCheck k = s := by
  rw [State.lowMarkCheck, capacity_of_no_record none]

theorem postIfDue_of_no_record (none : (s.slot k).state.record = none) : s.postIfDue k = s := by
  unfold State.postIfDue
  split
  · next slot _ => rw [slot] at none; cases none
  · rfl

theorem depleted_of_no_record (none : (s.slot k).state.record = none) : s.depleted k = false := by
  unfold State.depleted
  split
  · next slot => rw [slot] at none; cases none
  · next slot => rw [slot] at none; cases none
  · rfl

/-- R151, R173: an entry into a state that holds no record fills no gauge, passes no low mark and begins no posting. -/
theorem changeSlot_of_no_record {y : SlotState} (none : y.record = none) (reason : Reason) (m : Option Message) :
    s.changeSlot k y reason m =
      (((s.departGauge k).setSlot k (changedSlot (s.slot k) y reason m)).rejudge).note
        (.cartState k (s.slot k).state.code y.code reason .none false) := by
  have same : (s.departGauge k).slot k = s.slot k := slot_congr (by simp) k
  have unfolded : s.changeSlot k y reason m =
      let t := ((s.departGauge k).setSlot k (changedSlot (s.slot k) y reason m)).rejudge
      ((t.note (.cartState k (s.slot k).state.code y.code reason .none
        (t.depleted k))).lowMarkCheck k).postIfDue k := by
    rw [State.changeSlot, enterGauge_of_no_record none, same, none]
    rfl
  generalize entered : ((s.departGauge k).setSlot k (changedSlot (s.slot k) y reason m)).rejudge = t at unfolded
  have bare : (t.slot k).state.record = .none := by
    rw [← entered, ← none]
    simp [State.slot, State.setSlot, changedSlot]
  simp only [unfolded, depleted_of_no_record bare]
  rw [lowMarkCheck_of_no_record (s := t.note _) bare, postIfDue_of_no_record (s := t.note _) bare]

/-- R151: a slot that leaves ABSENT for a state without a record leaves no gauge. -/
theorem changeSlot_of_absent {y : SlotState} (absent : (s.slot k).state = .absent) (none : y.record = none)
    (reason : Reason) (m : Option Message) :
    s.changeSlot k y reason m = ((s.setSlot k (changedSlot (s.slot k) y reason m)).rejudge).note
      (.cartState k .absent y.code reason .none false) := by
  rw [changeSlot_of_no_record none, departGauge_of_kept absent, absent]
  rfl

/-- R163: a slot that leaves GENUINE gives its pending debit to the carry list under its serial. -/
theorem departGauge_of_genuine {r : Record} (slot : (s.slot k).state = .genuine r)
    (room : (s.gauge k).pending = 0 ∨ s.carry.any (fun e => e.serial == r.serial) = true
      ∨ s.carry.length < Config.carryCapacity) :
    s.departGauge k = { s with carry := carriedList r.serial (s.gauge k).pending s.carry }.setGauge k
      { lowSerial := (s.gauge k).lowSerial } := by
  rw [State.departGauge, slot, ← carryAdd_of_room room]

/-- The state in which a slot's line has dropped and its presence with it. -/
def unplugged (s : State) (k : Colour) : State :=
  ((s.driving []).setPresenceLine k false).setPresence k .notPresent

/-- The state in which a GENUINE slot whose cartridge was removed has settled its gauge and entered ABSENT. -/
def removedGenuine (s : State) (k : Colour) (r : Record) : State :=
  ({ unplugged s k with carry := carriedList r.serial (s.gauge k).pending s.carry }.setGauge k
    { lowSerial := (s.gauge k).lowSerial }).setSlot k
      { state := .absent, presence := .notPresent, message := none, lastReason := some .removed }

/-- R153, R163: the removal of a GENUINE cartridge. -/
theorem exec_presenceDeassert_genuine {r : Record} (on : s.powered = true) (present : (s.slot k).presence = .present)
    (genuine : (s.slot k).state = .genuine r)
    (room : (s.gauge k).pending = 0 ∨ s.carry.any (fun e => e.serial == r.serial) = true
      ∨ s.carry.length < Config.carryCapacity) :
    exec (.presenceDeassert k) s = .next (closeEvent ((removedGenuine s k r).rejudge.note
      (.cartState k .genuine .absent .removed none false))) := by
  have slot : (unplugged s k).slot k = { s.slot k with presence := .notPresent } := State.slot_setSlot _ _ _
  have leaves : ((s.driving []).setPresenceLine k false).lineDrops k =
      (unplugged s k).changeSlot k .absent .removed none := by
    have seen : (((s.driving []).setPresenceLine k false).slot k).presence = .present := present
    have occupied : (((s.driving []).setPresenceLine k false).slot k).state ≠ .absent :=
      fun absent => nomatch (show SlotState.genuine r = .absent from genuine.symm.trans absent)
    rw [State.lineDrops, seen]
    exact if_neg occupied
  have departed := departGauge_of_genuine (s := unplugged s k) (k := k) (r := r) (by rw [slot]; exact genuine) room
  have code : ((unplugged s k).slot k).state.code = .genuine := by rw [slot]; exact congrArg SlotState.code genuine
  rw [changeSlot_of_no_record rfl, departed, code, slot] at leaves
  exact congrArg Host.Outcome.next (event_of_powered (s := s.setPresenceLine k false) on leaves)

end

/-- Settles O36, by what each line and the settling timer do to the slot, and by the departure from GENUINE. -/
theorem presenceMovesSlots : Obligations.PresenceMovesSlots := by
  refine ⟨fun s k => ⟨fun on away => ?_, fun idle => ?_, fun on settling => ?_, fun on away => ?_⟩,
    fun s k on settling line => ⟨fun kept => ?_, fun absent awake => ?_⟩, fun s k r on present genuine room => ?_⟩
  · exact exec_presenceAssert_of_quiet on (if_pos away) rfl
  · cases power : s.powered with
    | false => exact congrArg Host.Outcome.next (event_of_unpowered (s := s.setPresenceLine k true) power)
    | true => exact exec_presenceAssert_of_quiet power (if_neg (idle.resolve_left (by simp [power]))) rfl
  · exact exec_presenceDeassert_of_quiet on (lineDrops_of_settling settling) rfl
  · exact exec_presenceDeassert_of_quiet on (lineDrops_of_away away) rfl
  · have ends : (s.driving []).settled k = (s.driving []).setPresence k .present :=
      (if_pos ⟨settling, line⟩).trans (if_neg fun probed => kept.elim (· probed.1) probed.2)
    exact congrArg Host.Outcome.next (event_of_quiet on ends rfl)
  · have ends : (s.driving []).settled k =
        ((s.driving []).setPresence k .present).changeSlot k .probing .inserted newHello :=
      (if_pos ⟨settling, line⟩).trans (if_pos ⟨absent, awake⟩)
    have slot : (((s.driving []).setPresence k .present).slot k).state = .absent :=
      (congrArg Slot.state (State.slot_setSlot _ _ _)).trans absent
    rw [changeSlot_of_absent slot rfl, State.setPresence, setSlot_setSlot, State.slot_setSlot] at ends
    exact congrArg Host.Outcome.next (event_of_powered on ends)
  · refine ⟨_, exec_presenceDeassert_genuine on present genuine room, ?_, ?_, rfl, rfl, fun j other => ⟨?_, ?_⟩⟩
    · exact State.slot_setSlot _ _ _
    · exact State.gauge_setGauge _ _ _
    · exact (State.slot_setSlot_ne _ _ other.symm).trans (State.slot_setSlot_ne (s.driving []) _ other.symm)
    · exact State.gauge_setGauge_ne _ _ other.symm

/-! ## PAGE_OPEN -/

section

theorem indexOf_eq_some_iff {b : Byte} {i : WindowIdx} : indexOf b = some i ↔ b.toNat = i.val := by
  unfold indexOf
  split
  · simp [Fin.ext_iff]
  · simp; omega

theorem planesOf_eq_some_iff {a : PageOpenArgs} {l : List (Colour × Nat)} : planesOf a = some l ↔
    (a.planeCount = 1 ∧ l = [(3, a.offsetK.toNat)]) ∨ (a.planeCount = 4
      ∧ l = [(0, a.offsetC.toNat), (1, a.offsetM.toNat), (2, a.offsetY.toNat), (3, a.offsetK.toNat)]) := by
  unfold planesOf
  split
  · next one => simp [one, eq_comm]
  next other =>
  split
  · next four => simp [four, eq_comm]
  · next neither => exact iff_of_false nofun fun named => named.elim (other ·.1) (neither ·.1)

theorem planesClash_eq_false_iff (size : Nat) (l : List (Colour × Nat)) :
    planesClash size l = false ↔ l.Pairwise (fun x y => overlaps x.2 size y.2 size = false) := by
  induction l with
  | nil => simp [planesClash]
  | cons x rest ih => simp [planesClash, ih]

/-- R85: the arguments that pass are those the checks let through. -/
theorem checkOpen_eq_some_iff {s : State} {a : PageOpenArgs} {o : OpenPage} :
    s.checkOpen a = some o ↔ s.opens a o := by
  obtain ⟨account, window, planes, bytesPerLine, lines⟩ := o
  simp only [State.opens, ← accountOf_eq_some_iff, ← indexOf_eq_some_iff, ← planesOf_eq_some_iff,
    ← planesClash_eq_false_iff]
  unfold State.checkOpen
  cases accountOf a.account with
  | none => simp
  | some acc =>
  cases indexOf a.window with
  | none => simp
  | some w =>
  cases planesOf a with
  | none => simp
  | some l =>
  have aligned (w : Window) (size : Nat) : (∀ x ∈ l, x.2 % 256 = 0 ∧ x.2 + size ≤ w.size) ↔
      l.all (fun x => x.2 % 256 == 0) = true ∧ l.all (fun x => decide (x.2 + size ≤ w.size)) = true := by
    simp [forall_and]
  dsimp only
  constructor
  · intro passed
    split at passed
    next checks =>
      cases passed
      obtain ⟨kind, live, wide, narrow, whole, some, short, offsets, inside, apart⟩ := checks
      exact ⟨rfl, rfl, rfl, rfl, rfl, kind, live, wide, narrow, whole, some, short,
        (aligned _ _).mpr ⟨offsets, inside⟩, apart⟩
    next => cases passed
  · simp only [Option.some_inj]
    rintro ⟨rfl, rfl, rfl, rfl, rfl, kind, live, wide, narrow, whole, some, short, placed, apart⟩
    obtain ⟨offsets, inside⟩ := (aligned _ _).mp placed
    exact if_pos ⟨kind, live, wide, narrow, whole, some, short, offsets, inside, apart⟩

section

variable {s : State} {o : OpenPage} {i : Fin 16}

theorem freeEntry_eq_some (free : s.page i = none) (lowest : ∀ j < i, s.page j ≠ none) : s.freeEntry = some i :=
  find?_finRange_eq_some (by simp [free]) (fun j less => by simpa [Option.isSome_iff_ne_none] using lowest j less)

theorem freeEntry_eq_none (full : ∀ j, s.page j ≠ none) : s.freeEntry = none := by
  simpa [State.freeEntry, Option.isNone_iff_eq_none] using full

theorem freeEntry_isSome (free : ∃ j, s.page j = none) : ∃ i, s.freeEntry = some i := by
  obtain ⟨j, free⟩ := free
  rw [← Option.isSome_iff_exists, State.freeEntry, List.find?_isSome]
  exact ⟨j, List.mem_finRange j, by simp [free]⟩

theorem mem_livePages {p : Page} : p ∈ s.livePages ↔ ∃ j, s.page j = some p := by
  simp [State.livePages, State.page, Vector.mem_iff_getElem, Fin.exists_iff]

theorem openOverlaps_iff : s.openOverlaps o = true ↔ ∃ j p, s.page j = some p ∧ p.window.index = o.window
    ∧ ∃ pl ∈ p.planes, ∃ x ∈ o.planes, overlaps x.2 (o.lines * o.bytesPerLine) pl.offset p.planeSize = true := by
  simp only [State.openOverlaps, List.any_eq_true, mem_livePages, Bool.and_eq_true, beq_iff_eq]
  constructor
  · rintro ⟨p, ⟨j, live⟩, shared⟩
    exact ⟨j, p, live, shared⟩
  · rintro ⟨j, p, live, shared⟩
    exact ⟨p, ⟨j, live⟩, shared⟩

theorem canReserve_iff (a : Account) (r : Nat) : a.canReserve r = true ↔
    ∀ l, a.limit = some l → r = 0 ∨ a.used + a.reserved + r ≤ l := by
  unfold Account.canReserve
  split <;> simp [*]

/-- R109: 4 times the larger base a page may end in. -/
theorem newPage_reservation (s : State) (o : OpenPage) : (s.newPage o).reservation =
    4 * (if o.planes.length = 4 then max (s.newPage o).baseMono (s.settings.baseColor (s.newPage o).size)
      else (s.newPage o).baseMono) := by
  by_cases colours : o.planes.length = 4 <;> simp [State.newPage, reservationOf, worstBase, colours]

/-- R87: the slots that a page asked for uses are admitting, and the part is not in ENTERING. -/
def admittedAtOnce (s : State) (o : OpenPage) : Bool :=
  o.planes.all (fun x => s.slotAdmitting x.1) && s.power != .entering

theorem firstState_newPage (s : State) (o : OpenPage) : s.firstState (s.newPage o) =
    { s.newPage o with
      planes := o.planes.map (fun x => ⟨x.1, x.2, if admittedAtOnce s o then s.basisOf x.1 else none, 0, 0⟩)
      state := if admittedAtOnce s o then .admitted else .waiting } := by
  have admissible : (s.pageAdmissible (s.newPage o) && s.power != .entering) = admittedAtOnce s o := by
    simp only [State.pageAdmissible, State.newPage, admittedAtOnce, List.all_map]
    rfl
  rw [State.firstState, admissible]
  cases admittedAtOnce s o with
  | false => rfl
  | true => simp [State.enterAdmitted, State.newPage]

theorem openedPage_eq (s : State) (o : OpenPage) :
    let size := if s.settings.aLarge < o.lines * o.bytesPerLine * 4 then SizeClass.large else .small
    let mono := s.settings.baseMono size
    let color := s.settings.baseColor size
    s.firstState (s.newPage o) =
      { number := s.nextPage, account := o.account, window := ⟨o.window, (s.window o.window).generation⟩
        planes := o.planes.map (fun x => ⟨x.1, x.2, if admittedAtOnce s o then s.basisOf x.1 else none, 0, 0⟩)
        bytesPerLine := o.bytesPerLine, lines := o.lines, size := size, baseMono := mono
        baseColor := if o.planes.length = 4 then some color else none
        reservation := 4 * (if o.planes.length = 4 then max mono color else mono)
        state := if admittedAtOnce s o then .admitted else .waiting } := by
  intro size mono color
  have reserved : (s.newPage o).reservation = 4 * (if o.planes.length = 4 then max mono color else mono) :=
    newPage_reservation s o
  rw [firstState_newPage, ← reserved]
  rfl

theorem nextPageNumber_eq (n : BitVec 32) : nextPageNumber n = if n = 4294967295#32 then 1 else n + 1 := rfl

@[simp] theorem heard_checkOpen (f : Frame) (a : PageOpenArgs) : (heard s f).checkOpen a = s.checkOpen a := rfl
@[simp] theorem heard_freeEntry (f : Frame) : (heard s f).freeEntry = s.freeEntry := rfl
@[simp] theorem heard_openedPage (f : Frame) :
    (heard s f).firstState ((heard s f).newPage o) = s.firstState (s.newPage o) := rfl
@[simp] theorem heard_openOverlaps (f : Frame) : (heard s f).openOverlaps o = s.openOverlaps o := rfl

end

section

variable {s : State} {f : Frame} {a : PageOpenArgs} {o : OpenPage} (hs : s.ready) (hf : wholeFrame f 23)
include hs hf

theorem exec_pageOpen_badArgument (bad : s.checkOpen a = none) :
    exec (.pageOpen f a) s = .next (s.answered f 0x20 .badArgument .empty) :=
  next_answer hs.1 hf rfl (.inr hs.2) (by simp only [heard_checkOpen, bad]; rfl)

/-- A PAGE_OPEN that passes R85 is judged against the tables. -/
theorem exec_pageOpen_of_opens {t : State} (passed : s.opens a o) (judged : closeEvent ((heard s f).openPage o) = t) :
    exec (.pageOpen f a) s = .next t :=
  next_judged hs.1 hf rfl (.inr hs.2) (by simp only [heard_checkOpen, checkOpen_eq_some_iff.mpr passed, judged])

theorem exec_pageOpen_noRoom (passed : s.opens a o) (full : s.freeEntry = none) :
    exec (.pageOpen f a) s = .next (s.answered f 0x20 .noRoom .empty) :=
  exec_pageOpen_of_opens hs hf passed (by simp only [State.openPage, heard_freeEntry, full]; rfl)

section

variable {i : Fin 16} (passed : s.opens a o) (room : s.freeEntry = some i)
include passed room

theorem exec_pageOpen_overlap (shared : s.openOverlaps o = true) :
    exec (.pageOpen f a) s = .next (s.answered f 0x20 .overlap .empty) :=
  exec_pageOpen_of_opens hs hf passed (by
    simp only [State.openPage, heard_freeEntry, room, heard_openOverlaps, shared]; rfl)

theorem exec_pageOpen_state (apart : s.openOverlaps o = false)
    (shut : s.pins.pfail = true ∨ (s.account o.account).state ≠ .active) :
    exec (.pageOpen f a) s = .next (s.answered f 0x20 .state .empty) := by
  have refused : (s.pins.pfail || (s.account o.account).state != .active) = true := by simpa using shut
  exact exec_pageOpen_of_opens hs hf passed (by
    simp only [State.openPage, heard_freeEntry, room, heard_openOverlaps, apart, heard_pins, heard_account,
      refused]
    rfl)

section

variable (apart : s.openOverlaps o = false) (steady : s.pins.pfail = false)
  (active : (s.account o.account).state = .active)
include apart steady active

omit hs hf passed in
/-- A request that may open a page is left to what its account can reserve. -/
theorem openPage_of_active : (heard s f).openPage o =
    if (s.account o.account).canReserve (s.newPage o).reservation then
      let p := s.firstState (s.newPage o)
      let acc := s.account o.account
      let s1 := ((heard s f).setPage i (some p)).setAccount o.account
        { acc with reserved := acc.reserved + p.reservation }
      ({ s1.raiseLive o.window with nextPage := nextPageNumber s.nextPage }).answer 0x20 .ok
        (.pageOpened p.number p.size p.reservation p.state)
    else (heard s f).answerStatus 0x20 .quota := by
  have accepted : (s.pins.pfail || (s.account o.account).state != .active) = false := by simp [steady, active]
  have kept : (s.firstState (s.newPage o)).reservation = (s.newPage o).reservation := by rw [firstState_newPage]
  simp only [State.openPage, heard_freeEntry, room, heard_openOverlaps, apart, heard_pins, heard_account, accepted,
    heard_openedPage, kept]
  rfl

theorem exec_pageOpen_quota (short : (s.account o.account).canReserve (s.newPage o).reservation = false) :
    exec (.pageOpen f a) s = .next (s.answered f 0x20 .quota .empty) :=
  exec_pageOpen_of_opens hs hf passed (by
    rw [openPage_of_active room apart steady active, short]; rfl)

theorem exec_pageOpen_opened (enough : (s.account o.account).canReserve (s.newPage o).reservation = true) :
    let p := s.firstState (s.newPage o)
    let acc := s.account o.account
    let w := s.window o.window
    exec (.pageOpen f a) s = .next { s.answered f 0x20 .ok (.pageOpened p.number p.size p.reservation p.state) with
      pages := s.pages.set i (some p)
      accounts := s.accounts.set o.account { acc with reserved := acc.reserved + p.reservation }
      windows := s.windows.set o.window { w with livePages := w.livePages + 1 }
      nextPage := nextPageNumber s.nextPage } :=
  exec_pageOpen_of_opens hs hf passed (by
    rw [openPage_of_active room apart steady active, enough]; rfl)

end

end

end

end

section

variable {s : State} {a : PageOpenArgs} {o : OpenPage} (passed : s.opens a o)
include passed

theorem openOverlaps_iff_of_opens : s.openOverlaps o = true ↔ ∃ j p, s.page j = some p ∧ p.window.index = o.window
    ∧ ∃ pl ∈ p.planes, ∃ x ∈ o.planes,
      overlaps x.2 (a.lines.toNat * a.bytesPerLine.toNat) pl.offset p.planeSize = true := by
  obtain ⟨-, -, bytesPerLine, lines, -⟩ := passed
  rw [openOverlaps_iff, lines, bytesPerLine]

theorem reservation_of_opens :
    let size := if s.settings.aLarge < a.lines.toNat * a.bytesPerLine.toNat * 4 then SizeClass.large else .small
    let mono := s.settings.baseMono size
    (s.newPage o).reservation = 4 * (if o.planes.length = 4 then max mono (s.settings.baseColor size) else mono) := by
  obtain ⟨-, -, bytesPerLine, lines, -⟩ := passed
  rw [newPage_reservation, ← lines, ← bytesPerLine]
  rfl

theorem offsets_of_opens : o.planes.map (·.2) =
    (if a.planeCount = 1 then [a.offsetK] else [a.offsetC, a.offsetM, a.offsetY, a.offsetK]).map (·.toNat) := by
  obtain ⟨-, -, -, -, ⟨one, planes⟩ | ⟨four, planes⟩, -⟩ := passed
  · simp [planes, one]
  · simp [planes, four]

theorem planes_of_offsets {P : Nat → Prop} (each : ∀ x ∈ o.planes, P x.2) {x : BitVec 32}
    (mem : x ∈ if a.planeCount = 1 then [a.offsetK] else [a.offsetC, a.offsetM, a.offsetY, a.offsetK]) : P x.toNat := by
  have asked : x.toNat ∈ o.planes.map (·.2) := offsets_of_opens passed ▸ List.mem_map_of_mem mem
  obtain ⟨y, planes, same⟩ := List.mem_map.mp asked
  exact same ▸ each y planes

end

/-- Settles O26: the arguments pass exactly as R85 asks, and the tables and the account decide then. -/
theorem pagesOpen : Obligations.PagesOpen := by
  refine ⟨fun s f a o i hs hf passed free lowest apart steady active => ?_, fun s f a hs hf => ⟨fun bad => ?_,
    fun o passed => ⟨fun full => ?_, fun room => ⟨fun shared => ?_, fun clear shut => ?_,
      fun clear steady active l limit more short => ?_⟩⟩⟩⟩
  · intro size mono color reservation admitted acc w enough
    have clear : s.openOverlaps o = false := by
      rw [← Bool.not_eq_true, openOverlaps_iff]
      rintro ⟨j, p, live, same, pl, pls, x, xs, shared⟩
      exact Bool.false_ne_true ((apart j p pl x live same pls xs).symm.trans shared)
    have reserves : acc.canReserve (s.newPage o).reservation = true := by
      rw [newPage_reservation]
      exact (canReserve_iff _ _).mpr enough
    have run := exec_pageOpen_opened hs hf passed (freeEntry_eq_some free lowest) clear steady active reserves
    rw [openedPage_eq, nextPageNumber_eq] at run
    exact run
  · refine exec_pageOpen_badArgument hs hf (Option.eq_none_iff_forall_ne_some.mpr fun o named => ?_)
    have passed := checkOpen_eq_some_iff.mp named
    have offset (P : Nat → Prop) := planes_of_offsets (P := P) passed
    have listed := offsets_of_opens passed
    obtain ⟨account, window, bytesPerLine, lines, planes, kind, live, wide, narrow, whole, some, short, placed,
      apart⟩ := passed
    rw [bytesPerLine] at wide narrow whole
    rcases bad with unnamed | unnamed | count | thin | broad | ragged | empty | long | ⟨i, index, unfit⟩ |
      ⟨x, mem, odd⟩ | clash
    · omega
    · omega
    · exact planes.elim (fun one => count.1 one.1) (fun four => count.2 four.1)
    · omega
    · omega
    · exact ragged whole
    · rw [lines, empty] at some
      exact absurd some (by decide)
    · omega
    · obtain rfl : i = o.window := Fin.ext (index.symm.trans window)
      rw [← lines, ← bytesPerLine] at unfit
      obtain other | ⟨unopened, unsealed⟩ | ⟨x, mem, past⟩ := unfit
      · exact other kind
      · exact live.elim unopened unsealed
      · have inside := offset (· + o.lines * o.bytesPerLine ≤ (s.window o.window).size)
          (fun y ys => (placed y ys).2) mem
        omega
    · exact odd (offset (· % 256 = 0) (fun y ys => (placed y ys).1) mem)
    · refine clash ?_
      rw [← lines, ← bytesPerLine]
      have pairs : (o.planes.map (·.2)).Pairwise (fun m n =>
          overlaps m (o.lines * o.bytesPerLine) n (o.lines * o.bytesPerLine) = false) := List.pairwise_map.mpr apart
      rw [listed] at pairs
      exact List.pairwise_map.mp pairs
  · exact exec_pageOpen_noRoom hs hf passed (freeEntry_eq_none full)
  · obtain ⟨i, free⟩ := freeEntry_isSome room
    exact exec_pageOpen_overlap hs hf passed free ((openOverlaps_iff_of_opens passed).mpr shared)
  · obtain ⟨i, free⟩ := freeEntry_isSome room
    exact exec_pageOpen_state hs hf passed free
      (Bool.not_eq_true _ ▸ mt (openOverlaps_iff_of_opens passed).mp clear) shut
  · obtain ⟨i, free⟩ := freeEntry_isSome room
    have unreserved : (s.account o.account).canReserve (s.newPage o).reservation = false := by
      rw [reservation_of_opens passed, ← Bool.not_eq_true, canReserve_iff]
      intro enough
      exact (enough l limit).elim more.ne' short.not_ge
    exact exec_pageOpen_quota hs hf passed free
      (Bool.not_eq_true _ ▸ mt (openOverlaps_iff_of_opens passed).mp clear) steady active unreserved

/-! ## Scan slots (R102, R103) -/

section

variable {w : Window} {offset : Nat} {received : List WriteBeat}

/-- The beats of a write as the queue takes them. -/
def queuedBeats (received : List WriteBeat) : List QueuedBeat := received.map (fun b => ⟨b.data, b.mask⟩)

/-- R102: a write reaches no final beat before the first whose beat it covers, since a scan slot is no shorter than the
longest write. -/
theorem finalSlot_eq_some {k : Nat} {b : WriteBeat} (short : received.length ≤ 8) (stride : 256 ≤ w.stride)
    (inside : k < w.slotCount) (reached : offset ≤ (k + 1) * w.stride - 32)
    (covers : received[((k + 1) * w.stride - 32 - offset) / 32]? = some b) (masked : b.mask ≠ 0) :
    w.finalSlot offset (queuedBeats received) = some k := by
  have near : ((k + 1) * w.stride - 32 - offset) / 32 < received.length := (List.getElem?_eq_some_iff.mp covers).1
  refine List.find?_eq_some_iff_getElem.mpr ⟨?_, k, by simpa using inside, by simp, fun j below => ?_⟩
  · simpa [reached, queuedBeats, covers] using masked
  · have apart : (j + 1) * w.stride + w.stride ≤ (k + 1) * w.stride := by
      rw [← Nat.succ_mul]
      exact Nat.mul_le_mul_right _ (by omega)
    have tall : w.stride ≤ (j + 1) * w.stride := Nat.le_mul_of_pos_left _ (by omega)
    have before : ¬ offset ≤ (j + 1) * w.stride - 32 := by omega
    simp [before]

end

section

variable {s t : State} {i : WindowIdx} {offset : Nat} {beats : List QueuedBeat} {k : Nat}

/-- What the scan slot counter reads and writes. -/
def scanView (s : State) : Vector Window 16 × Vector Account 128 × Counters := (s.windows, s.accounts, s.meter)

/-- What the scan slot counter leaves when the final beat of a slot is covered. -/
def slotCounted (s : State) (i : WindowIdx) (k : Nat) : Vector Window 16 × Vector Account 128 × Counters :=
  let w := s.window i
  if w.counted.getLsbD k then scanView s
  else (s.windows.set i { w with counted := w.counted ||| BitVec.twoPow 64 k },
    s.accounts.set w.scanAccount { s.account w.scanAccount with
      counters := (s.account w.scanAccount).counters.raiseScan }, s.meter.raiseScan)

theorem slotCounted_of_marked (marked : (s.window i).counted.getLsbD k = true) : slotCounted s i k = scanView s :=
  if_pos marked

theorem slotCounted_of_unmarked (unmarked : ¬ (s.window i).counted.getLsbD k = true) : slotCounted s i k =
    (s.windows.set i { s.window i with counted := (s.window i).counted ||| BitVec.twoPow 64 k },
      s.accounts.set (s.window i).scanAccount { s.account (s.window i).scanAccount with
        counters := (s.account (s.window i).scanAccount).counters.raiseScan }, s.meter.raiseScan) :=
  if_neg unmarked

theorem countScan_view (kind : (s.window i).kind = .scan) (covers : (s.window i).finalSlot offset beats = some k) :
    scanView (s.countScan .scan i offset beats) = slotCounted s i k := by
  cases marked : (s.window i).counted.getLsbD k with
  | true => simp [State.countScan, slotCounted, kind, covers, marked]
  | false => simp [State.countScan, slotCounted, kind, covers, marked, scanView, State.setWindow, State.setAccount]

theorem window_of_scanView (same : scanView t = scanView s) : t.window i = s.window i :=
  congrArg (fun v => v.1[i]) same

theorem slotCounted_congr (same : scanView t = scanView s) : slotCounted t i k = slotCounted s i k := by
  have window : t.window i = s.window i := window_of_scanView same
  have account (x : Fin 128) : t.account x = s.account x := congrArg (fun v => v.2.1[x]) same
  obtain ⟨windows, accounts, meter⟩ : t.windows = s.windows ∧ t.accounts = s.accounts ∧ t.meter = s.meter := by
    simpa [scanView] using same
  simp only [slotCounted, window, account, windows, accounts, meter, same]

/-- R103: a SCAN write accepted into a SCAN window is offered to the counter, and nothing else of it is counted. -/
theorem acceptWrite_view {r : PageRequest} {access : WriteAccess} {p : Place} {ref : WindowRef}
    {received : List WriteBeat} (within : p.window = some ref) (kind : (s.window ref.index).kind = .scan)
    (covers : (s.window ref.index).finalSlot p.offset (queuedBeats received) = some k) :
    scanView (s.acceptWrite .scan r access p received) = slotCounted s ref.index k := by
  unfold State.acceptWrite
  extract_lets beats flagged e cleared counted
  have same : scanView cleared = scanView s := by
    have kept : scanView flagged = scanView s := by
      unfold flagged
      split <;> simp [scanView]
    rw [← kept]
    simp [scanView, cleared]
  clear_value cleared
  have window : cleared.window ref.index = s.window ref.index := window_of_scanView same
  have counts : scanView counted = slotCounted s ref.index k := by
    simp only [counted, within]
    rw [← window] at kind covers
    rw [← slotCounted_congr same]
    exact countScan_view kind covers
  clear_value counted
  rw [← counts]
  simp [scanView]

end

section

variable {s : State} {r : PageRequest} {src : Source} {i : WindowIdx}

theorem intake_of_admits (kind : ReqKind) (serve : Source → State → State) (hs : s.admits r src) :
    s.intake kind r serve = serve src s := by
  obtain ⟨⟨-, accepting⟩, code, parity, source, -⟩ := hs
  rw [State.intake, if_neg (by simp [parity]), if_neg (by simp [accepting]), if_neg code, source]

/-- R20, R23, R24: a source whose mode lets it write is taken into the window that holds the address. -/
theorem judgeAccess_writes (found : s.findWindow r.addr = some i) (opened : (s.window i).state = .opened)
    (mode : (s.window i).modes.of src = .cipher
      ∨ ((s.window i).modes.of src = .readWrite ∧ ((s.window i).owner = 0 ∨ (s.window i).owner = r.jobTag))) :
    s.judgeAccess src r true = .raw i ∨ s.judgeAccess src r true = .plain i := by
  have live : ((s.window i).retiring || (true && (s.window i).state == .sealed)) = false := by
    simp [Window.retiring, opened]
  simp only [State.judgeAccess, found, live]
  rcases mode with cipher | ⟨readWrite, owner⟩
  · exact .inl (by simp [Window.judgeMode, cipher])
  · exact .inr (by simp [Window.judgeMode, readWrite, (ownerPasses_iff _ _).mpr owner])

theorem serveWrite_accepts (hs : s.admits r src) (beats : Vector WriteBeat 8)
    (access : s.judgeAccess src r true = .raw i ∨ s.judgeAccess src r true = .plain i)
    (unlocked : s.chunkLocked (s.placeIn i r).memAddr.toNat (32 * r.length.toNat) = false) (room : s.pwq.length < 16) :
    ∃ way, s.serveWrite r beats src =
      s.acceptWrite src r way (s.placeIn i r) (beats.toList.take r.length.toNat) := by
  obtain ⟨-, -, -, -, legal, free⟩ := hs
  have untaken : s.tidTaken src r.tid = false := by simpa [State.tidTaken] using free
  have taken (way : WriteAccess) (received : List WriteBeat) :
      s.takeWrite src r way (s.placeIn i r) received = s.acceptWrite src r way (s.placeIn i r) received := by
    rw [State.takeWrite, if_neg (by simp [unlocked])]
    exact if_pos room
  rcases access with raw | plain
  · exact ⟨.raw, by simp [State.serveWrite, legal, untaken, raw, taken]⟩
  · exact ⟨.encrypt, by simp [State.serveWrite, legal, untaken, plain, taken]⟩

end

/-- Settles O16: an accepted SCAN write is offered to the counter, which the slot whose final beat it covers decides. -/
theorem scanSlotIsCounted : Obligations.ScanSlotIsCounted := by
  intro s r beats i k b hs found opened kind w offset final stride inside mode unlocked room reached covers
    aligned masked
  have short : (beats.toList.take r.length.toNat).length ≤ 8 := (List.length_take_le' _ _).trans (by simp)
  obtain ⟨way, accepts⟩ := serveWrite_accepts (s := s.driving []) hs beats
    (judgeAccess_writes found opened mode) unlocked room
  have view : scanView ((s.driving []).intake .write r (fun src s => s.serveWrite r beats src)) =
      slotCounted s i k := by
    rw [intake_of_admits (s := s.driving []) .write _ hs, accepts]
    have taken := finalSlot_eq_some short stride inside reached covers masked
    have counted := acceptWrite_view (s := s.driving []) (r := r) (access := way) (p := (s.driving []).placeIn i r)
      (ref := (s.window i).ref i) rfl kind taken
    exact counted.trans (slotCounted_congr rfl)
  obtain ⟨t, run, view⟩ : ∃ t, exec (.write r beats) s = .next t ∧ scanView t = slotCounted s i k :=
    ⟨_, next_event hs.1.1 rfl, view⟩
  refine ⟨t, run, ?_⟩
  split
  next marked =>
    rw [slotCounted_of_marked marked] at view
    simpa [scanView] using view
  next unmarked =>
    rw [slotCounted_of_unmarked unmarked] at view
    obtain ⟨windows, rest⟩ := Prod.mk.inj view
    obtain ⟨accounts, meter⟩ := Prod.mk.inj rest
    exact ⟨windows, accounts, meter⟩

end Sys2Proof.Machine.PrintPages
end

section
/-! SUPPORT. Coverage, charge and accounts: the step of a law on which the management port does not bear, the units that
the live pages reserve, the account law, which every step keeps, and the excess of a page's coverage. -/

namespace Sys2Proof.Machine.ChargeAndAccounts

open Sys2Proof Sys2Proof.Machine Sys2Proof.Machine.WindowsAndKeys Sys2Proof.Machine.CipherAndQueue
  Sys2Proof.Machine.ReadsAndPorts Sys2Proof.Machine.PrintPages

/-! ## The excess -/

theorem coverageSum_eq (p : Page) : p.coverageSum = (p.planes.map (fun pl => coverageOf p.area pl.dots)).sum := by
  simp [Page.coverageSum, Page.coverages, Function.comp_def]

theorem coverageSum_le {p : Page} (each : ∀ x ∈ p.coverages, x.2 ≤ 10000) :
    p.coverageSum ≤ 10000 * p.planes.length := by
  have bound : ∀ n ∈ p.coverages.map (·.2), n ≤ 10000 := List.forall_mem_map.mpr each
  have sum := List.sum_le_card_nsmul _ _ bound
  simpa [Page.coverageSum, Page.coverages, mul_comm] using sum

/-- Settles O30: the sum of the coverages, its bound plane by plane, and the excess by its cases. -/
theorem excessIsClamped : Obligations.ExcessIsClamped := by
  intro p cFree each
  have bound := coverageSum_le each
  refine ⟨coverageSum_eq p, bound, ?_, ?_, ?_, ?_⟩
  · unfold excessOf
    split
    · split <;> omega
    · omega
  · intro free clamped
    unfold excessOf
    omega
  · intro planes free
    unfold excessOf
    omega
  · intro planes
    unfold excessOf
    omega

/-! ## Laws on which the management port does not bear -/

/-- A law on which the queue of commands, what is driven on the ports, the notices, the held response, the waiting
command and the power state do not bear. -/
structure PortLaw (p : State → Prop) : Prop where
  moved : ∀ {s : State} (pending : List Instr) (outbox : List Notice) (emitted : List Emission) (power : PowerState)
    (held : Option Response) (awaiting : Option Instr) (notices : List QueuedNotice), p s →
    p { s with
      pending := pending, outbox := outbox, emitted := emitted, power := power, held := held, awaiting := awaiting
      notices := notices }

section

variable {p : State → Prop} {body : State → State} {s : State}

theorem PortLaw.closed (law : PortLaw p) (start : p s) : p (closeEvent s) := law.moved _ _ _ _ _ _ _ start

theorem PortLaw.answered (law : PortLaw p) (start : p s) (code : Nat) (st : Status) (d : RespData) :
    p (s.answer code st d) := law.moved _ _ _ _ _ _ _ start

theorem PortLaw.event (law : PortLaw p) (h : ∀ x, p x → p (body x)) (start : p s) : p (event body s) := by
  have opened : p (openEvent s) := law.moved _ _ _ _ _ _ _ start
  unfold Machine.event
  split
  · exact law.closed (h _ opened)
  · exact opened

theorem PortLaw.receive (law : PortLaw p) (h : ∀ x, p x → p (body x)) (cmd : Instr) (f : Frame) (start : p s) :
    p (receive cmd f body s) := by
  have driven (e : Emission) : p (s.emit e) := law.moved _ _ _ _ _ _ _ start
  have sent : p (s.sendHeld f) := law.moved _ _ _ _ _ _ _ (driven _)
  have unready : p (s.sendNotReady f) := driven _
  rcases receive_cases cmd f body s with ⟨-, e⟩ | ⟨-, -, e⟩ | ⟨-, -, -, -, e⟩ | ⟨-, -, -, -, e⟩ <;> rw [e]
  · unfold State.emptyFrame
    split
    · exact unready
    · exact sent
  · exact unready
  · exact law.moved _ _ _ _ _ _ _ sent
  · exact h _ sent

theorem PortLaw.judged (law : PortLaw p) (h : p (body s)) (code : Nat) (f : Frame) (inReset : Bool) (start : p s) :
    p (judged code f inReset body s) := by
  rcases judged_cases code f inReset body s with ⟨st, e⟩ | e <;> rw [e]
  · exact law.answered start code st .empty
  · exact h

theorem PortLaw.judgeAwaiting (law : PortLaw p) (judge : ∀ c x, p x → p (judge c x)) (start : p s) :
    p s.judgeAwaiting := by
  unfold State.judgeAwaiting
  split
  · exact judge _ _ (law.moved _ _ _ _ _ _ _ start)
  · exact start

/-- The end of a wake keeps what the judgements, the reprobe and the beginning of the waiting reset keep. -/
theorem PortLaw.endWake (law : PortLaw p) (judge : ∀ c x, p x → p (judge c x))
    (reset : ∀ x : State, p x → p x.beginWakeReset) (reprobe : ∀ x : State, p x → p (x.reprobeAll .wake))
    (resetFirst : Bool) (start : p s) : p (s.endWake resetFirst) := by
  have reprobed : p (closeEvent ({ s with power := .run }.reprobeAll .wake)) :=
    law.closed (reprobe _ (law.moved _ _ _ _ _ _ _ start))
  unfold State.endWake
  split
  · dsimp only
    split
    · exact law.judgeAwaiting judge (law.closed (reset _ reprobed))
    · exact reset _ (law.closed (law.judgeAwaiting judge reprobed))
  · exact start

/-- Every step keeps a law that the judgements, the events and the parts of the end of a wake keep. -/
theorem PortLaw.keptByStep (law : PortLaw p) (judge : ∀ c x, p x → p (judge c x))
    (reset : ∀ x : State, p x → p x.beginWakeReset) (reprobe : ∀ x : State, p x → p (x.reprobeAll .wake))
    (events : ∀ c x t, commandCode c = none → (∀ b, c ≠ .wakeEnd b) → p x → exec c x = .next t → p t) :
    keptByStep p := by
  intro s t start run
  unfold step at run
  split at run
  · cases run
    exact start
  next c rest _ =>
    have start : p { s with pending := rest } := law.moved _ _ _ _ _ _ _ start
    cases code : commandCode c with
    | some n =>
      obtain ⟨f, run'⟩ := exec_of_commandCode code { s with pending := rest }
      rw [exec_unique run run']
      exact law.event (fun x => law.receive (judge c) c f) start
    | none =>
      by_cases wake : ∃ b, c = .wakeEnd b
      · obtain ⟨b, rfl⟩ := wake
        cases run
        exact law.event (fun x => law.endWake judge reset reprobe b) start
      · exact events c _ t code (fun b e => wake ⟨b, e⟩) start run

end

/-! ## The units that live pages reserve -/

/-- The units that an entry of the page table reserves of an account. -/
def unitsFor (a : Fin 128) : Option Page → Nat
  | none => 0
  | some p => if p.account = a then p.reservation else 0

@[simp] theorem unitsFor_none (a : Fin 128) : unitsFor a none = 0 := rfl

theorem unitsFor_some_self (p : Page) : unitsFor p.account (some p) = p.reservation := if_pos rfl

theorem unitsFor_some_other {a : Fin 128} {p : Page} (other : p.account ≠ a) : unitsFor a (some p) = 0 := if_neg other

theorem unitsFor_bare (a : Fin 128) (q : Option Page) : unitsFor a (q.map bare) = unitsFor a q := by
  cases q <;> rfl

theorem sum_filter_account (a : Fin 128) (l : List (Option Page)) :
    (((l.filterMap id).filter (fun p => p.account == a)).map (·.reservation)).sum = (l.map (unitsFor a)).sum := by
  induction l with
  | nil => rfl
  | cons q l ih =>
    cases q with
    | none => simpa using ih
    | some p => by_cases billed : p.account = a <;> simpa [unitsFor, billed] using ih

theorem reservedFor_eq_sum (s : State) (a : Fin 128) : s.reservedFor a = (s.pages.toList.map (unitsFor a)).sum :=
  sum_filter_account a s.pages.toList

theorem reservedFor_of_bare {s t : State} (same : barePages t.pages = barePages s.pages) (a : Fin 128) :
    t.reservedFor a = s.reservedFor a := by
  have units (u : State) : u.reservedFor a = ((barePages u.pages).toList.map (unitsFor a)).sum := by
    simp [reservedFor_eq_sum, barePages, mapVec, Function.comp_def, unitsFor_bare]
  rw [units, units, same]

theorem sum_map_set {α : Type} (f : α → Nat) (l : List α) (i : Nat) (less : i < l.length) (x : α) :
    ((l.set i x).map f).sum + f l[i] = (l.map f).sum + f x := by
  induction l generalizing i with
  | nil => cases less
  | cons y l ih =>
    cases i with
    | zero =>
      simp only [List.set_cons_zero, List.map_cons, List.sum_cons, List.getElem_cons_zero]
      omega
    | succ i =>
      have rest := ih i (by simpa using less)
      simp only [List.set_cons_succ, List.map_cons, List.sum_cons, List.getElem_cons_succ]
      omega

/-- An entry written anew gives back what it reserved and reserves what its new page reserves. -/
theorem reservedFor_setPage (s : State) (i : Fin 16) (q : Option Page) (a : Fin 128) :
    (s.setPage i q).reservedFor a + unitsFor a (s.page i) = s.reservedFor a + unitsFor a q := by
  have sum := sum_map_set (unitsFor a) s.pages.toList i.val (by simp) q
  simpa [reservedFor_eq_sum, State.setPage, State.page, Vector.toList_set] using sum

/-- The account has no live page billed to it. -/
def unbilled (s : State) (a : Fin 128) : Prop := ∀ i p, s.page i = some p → p.account ≠ a

theorem livePagesOf_eq_zero {s : State} {a : Fin 128} (none : s.livePagesOf a = 0) : unbilled s a := by
  intro i p live billed
  have empty := List.filter_eq_nil_iff.mp (List.length_eq_zero_iff.mp none) p (mem_livePages.mpr ⟨i, live⟩)
  simp [billed] at empty

theorem reservedFor_of_unbilled {s : State} {a : Fin 128} (none : unbilled s a) : s.reservedFor a = 0 := by
  have empty : s.livePages.filter (fun p => p.account == a) = [] := by
    refine List.filter_eq_nil_iff.mpr fun p mem => ?_
    obtain ⟨i, live⟩ := mem_livePages.mp mem
    simpa using none i p live
  simp [State.reservedFor, empty]

/-! ## Limits -/

theorem withinLimit_of_le {limit : Option Nat} {m n : Nat} (within : withinLimit limit n) (le : m ≤ n) :
    withinLimit limit m := by
  cases limit with
  | none => trivial
  | some l => exact le_trans le within

theorem withinLimit_zero (limit : Option Nat) : withinLimit limit 0 := by
  cases limit with
  | none => trivial
  | some l => exact Nat.zero_le l

theorem withinLimit_of_not_belowUsed {x : Account} {limit : Option Nat} (above : x.belowUsed limit = false) :
    withinLimit limit (x.used + x.reserved) := by
  cases limit with
  | none => trivial
  | some l => simpa [Account.belowUsed, withinLimit] using above

/-- R126: a reservation that the account table makes keeps the account within its limit. -/
theorem withinLimit_of_canReserve {x : Account} {r : Nat} (enough : x.canReserve r = true)
    (within : withinLimit x.limit (x.used + x.reserved)) : withinLimit x.limit (x.used + (x.reserved + r)) := by
  rw [canReserve_iff] at enough
  cases limit : x.limit with
  | none => trivial
  | some l =>
    rw [limit] at within
    have most : x.used + x.reserved ≤ l := within
    have room := enough l limit
    change x.used + (x.reserved + r) ≤ l
    omega

/-- R127: an account that gives back a reservation for a charge no larger spends no more than before. -/
theorem settle_within {x : Account} {reservation charge : Nat} (within : withinLimit x.limit (x.used + x.reserved))
    (most : charge ≤ reservation) (held : reservation ≤ x.reserved) (k : PageClass) (foreign cancelled : Bool) :
    withinLimit (x.settle reservation charge k foreign cancelled).limit
      ((x.settle reservation charge k foreign cancelled).used
        + (x.settle reservation charge k foreign cancelled).reserved) := by
  refine withinLimit_of_le within ?_
  have used : min Config.usedMax (x.used + charge) ≤ x.used + charge := Nat.min_le_right _ _
  simp only [Account.settle]
  omega

/-! ## The account law in its two parts -/

/-- The part of the account law on the working accounts and the live pages (R109, R124, R126, R127). -/
structure BooksBalance (s : State) : Prop where
  within : ∀ a, withinLimit (s.account a).limit ((s.account a).used + (s.account a).reserved)
  reserved : ∀ a, (s.account a).reserved = s.reservedFor a
  sized : ∀ i p, s.page i = some p → p.reservation = reservationOf p.baseMono p.baseColor
  billed : ∀ i p, s.page i = some p → (s.account p.account).state ≠ .unused

/-- The part of the account law on the saved accounts: those of the banks and of the commit in flight (R131, R133). -/
structure SavesWithin (s : State) : Prop where
  saved : ∀ k, (s.nv.bank k).withinLimits
  saving : ∀ j, s.commit.inFlight = some j → j.snapshot.withinLimits

theorem accountLaw_iff (s : State) : s.accountLaw ↔ BooksBalance s ∧ SavesWithin s := by
  constructor
  · intro law
    refine ⟨⟨law.within, law.reserved, law.sized, law.billed⟩, fun k => ?_, law.saving⟩
    cases k with
    | a => exact law.savedA
    | b => exact law.savedB
  · rintro ⟨books, saves⟩
    exact ⟨books.within, books.reserved, books.sized, books.billed, saves.saved .a, saves.saved .b, saves.saving⟩

/-- The working part bears on the accounts, and on the pages with their state and draw bases aside. -/
theorem booksBalance_of_bare {s t : State} (books : BooksBalance s) (accounts : t.accounts = s.accounts)
    (pages : barePages t.pages = barePages s.pages) : BooksBalance t := by
  have account (a : Fin 128) : t.account a = s.account a := by simp only [State.account, accounts]
  have before {i : Fin 16} {p : Page} (live : t.page i = some p) :
      ∃ q, s.page i = some q ∧ bare q = bare p := by
    have bareOf := page_bare pages i
    rwa [live, Option.map_some, eq_comm, Option.map_eq_some_iff] at bareOf
  constructor
  case within => exact fun a => account a ▸ books.within a
  case reserved => exact fun a => by rw [account, reservedFor_of_bare pages, books.reserved]
  case sized =>
    intro i p live
    obtain ⟨q, live, agree⟩ := before live
    have sized : (bare q).reservation = reservationOf (bare q).baseMono (bare q).baseColor := books.sized i q live
    rwa [agree] at sized
  case billed =>
    intro i p live
    obtain ⟨q, live, agree⟩ := before live
    have billed : (s.account (bare q).account).state ≠ .unused := books.billed i q live
    rwa [agree, ← account] at billed

theorem barePages_set (v : Vector (Option Page) 16) (i : Fin 16) (q : Option Page) :
    barePages (v.set i q) = (barePages v).set i (q.map bare) := by
  ext1 j less
  simp only [barePages, mapVec, Vector.getElem_set, Vector.getElem_mk, List.getElem_toArray, List.getElem_map,
    Vector.getElem_toList]
  split <;> rfl

/-- What the account law speaks of: the accounts, the pages with their state and draw bases aside, the snapshot banks and
the commit in flight. -/
def ledger (s : State) : Vector Account 128 × Vector (Option Page) 16 × (BankId → Bank) × Option CommitJob :=
  (s.accounts, barePages s.pages, s.nv.bank, s.commit.inFlight)

theorem accountLaw_of_ledger {s t : State} (law : s.accountLaw) (same : ledger t = ledger s) : t.accountLaw := by
  simp only [ledger, Prod.mk.injEq] at same
  obtain ⟨accounts, pages, banks, inFlight⟩ := same
  obtain ⟨books, saves⟩ := (accountLaw_iff s).mp law
  exact (accountLaw_iff t).mpr
    ⟨booksBalance_of_bare books accounts pages, banks ▸ saves.saved, inFlight ▸ saves.saving⟩

theorem accountLaw_portLaw : PortLaw State.accountLaw where
  moved _ _ _ _ _ _ _ law := accountLaw_of_ledger law rfl

/-! ## Banks and commits -/

theorem bank_setBank (nv : NvStore) (k j : BankId) (x : Bank) :
    (nv.setBank k x).bank j = if j = k then x else nv.bank j := by
  cases k <;> cases j <;> rfl

theorem setBank_within {nv : NvStore} (banks : ∀ k, (nv.bank k).withinLimits) (k : BankId) {x : Bank}
    (written : x.withinLimits) (j : BankId) : ((nv.setBank k x).bank j).withinLimits := by
  rw [bank_setBank]
  split
  · exact written
  · exact banks j

section

variable {s : State} (law : s.accountLaw)
include law

theorem savesWithin_of_accountLaw : SavesWithin s := ((accountLaw_iff s).mp law).2

/-- R131: the copy of the accounts leaves out the reserved units, so it is within the limits. -/
theorem snapshot_within : s.snapshot.withinLimits := by
  intro a
  have saved : s.snapshot.accounts[a] = (s.account a).save := mapVec_getElem Account.save s.accounts a
  rw [saved]
  exact withinLimit_of_le (law.within a) (Nat.le_add_right _ _)

/-- A bank is written, and the commit in flight changes, with what is within the limits. -/
theorem accountLaw_of_bank {t : State} (k : BankId) {x : Bank} (written : x.withinLimits)
    (accounts : t.accounts = s.accounts) (pages : t.pages = s.pages) (nv : t.nv = s.nv.setBank k x)
    (saving : ∀ j, t.commit.inFlight = some j → j.snapshot.withinLimits) : t.accountLaw := by
  obtain ⟨books, saves⟩ := (accountLaw_iff s).mp law
  refine (accountLaw_iff t).mpr ⟨booksBalance_of_bare books accounts (by rw [pages]), ?_, saving⟩
  rw [nv]
  exact setBank_within saves.saved k written

theorem startCommit_keeps_accounts (causes : BitVec 5) : (s.startCommit causes).accountLaw :=
  accountLaw_of_bank law s.nv.target (x := .badCheck) trivial rfl rfl rfl
    (fun _ e => Option.some_inj.mp e ▸ snapshot_within law)

theorem triggerCommit_keeps_accounts (c : Cause) : (s.triggerCommit c).accountLaw := by
  unfold State.triggerCommit
  split
  · exact startCommit_keeps_accounts law c.bits
  · exact accountLaw_of_ledger law rfl

theorem raiseSince_keeps_accounts : s.raiseSince.accountLaw := by
  have raised : { s with commit := { s.commit with since := min Config.sinceMax (s.commit.since + 1) } }.accountLaw :=
    accountLaw_of_ledger law rfl
  unfold State.raiseSince
  dsimp only
  split
  · exact triggerCommit_keeps_accounts raised .interval
  · exact raised

theorem startRemembered_keeps_accounts : s.startRemembered.accountLaw := by
  unfold State.startRemembered
  split
  · have forgotten : { s with commit := { s.commit with remembered := none } }.accountLaw :=
      accountLaw_of_ledger law rfl
    exact startCommit_keeps_accounts forgotten _
  · exact law

theorem commitDone_keeps_accounts : s.commitDone.accountLaw := by
  unfold State.commitDone
  split
  · exact law
  next j copying =>
    exact startRemembered_keeps_accounts
      (accountLaw_of_bank law j.bank (x := .holds j.snapshot) (law.saving j copying) rfl rfl rfl nofun)

theorem commitFailed_keeps_accounts : s.commitFailed.accountLaw := by
  unfold State.commitFailed
  split
  · exact law
  next j _ =>
    exact startRemembered_keeps_accounts (accountLaw_of_bank law j.bank (x := .blank) trivial rfl rfl rfl nofun)

/-! ## Accounts and entries of the page table written -/

/-- An account is written with what keeps it within its limit, its reserved units, and a state that its live pages
allow. -/
theorem setAccount_keeps_accounts {a : Fin 128} {x : Account} (within : withinLimit x.limit (x.used + x.reserved))
    (reserved : x.reserved = (s.account a).reserved) (unused : x.state = .unused → unbilled s a) :
    (s.setAccount a x).accountLaw := by
  obtain ⟨books, saves⟩ := (accountLaw_iff s).mp law
  refine (accountLaw_iff _).mpr ⟨⟨fun b => ?_, fun b => ?_, books.sized, fun i p live => ?_⟩, saves.saved, saves.saving⟩
  · rw [State.account_setAccount_eq]
    split
    · exact within
    · exact books.within b
  · have kept : (s.setAccount a x).reservedFor b = s.reservedFor b := rfl
    rw [State.account_setAccount_eq, kept, ← books.reserved]
    split
    next same => rw [reserved, same]
    next => rfl
  · rw [State.account_setAccount_eq]
    split
    next same => exact fun none => unused none i p live same.symm
    next => exact books.billed i p live

/-- An entry of the page table and the account that it is billed to are written together. -/
theorem setEntry_keeps_accounts {i : Fin 16} {q : Option Page} {a : Fin 128} {x : Account}
    (within : withinLimit x.limit (x.used + x.reserved))
    (reserved : x.reserved + unitsFor a (s.page i) = (s.account a).reserved + unitsFor a q)
    (others : ∀ b, b ≠ a → unitsFor b (s.page i) = unitsFor b q)
    (sized : ∀ p, q = some p → p.reservation = reservationOf p.baseMono p.baseColor ∧ p.account = a)
    (used : x.state ≠ .unused) : ((s.setPage i q).setAccount a x).accountLaw := by
  obtain ⟨books, saves⟩ := (accountLaw_iff s).mp law
  have page {j : Fin 16} {p : Page} (live : ((s.setPage i q).setAccount a x).page j = some p) :
      q = some p ∨ s.page j = some p := by
    have live : (s.setPage i q).page j = some p := live
    rw [State.page_setPage_eq] at live
    split at live
    · exact .inl live
    · exact .inr live
  refine (accountLaw_iff _).mpr ⟨⟨fun b => ?_, fun b => ?_, fun j p live => ?_, fun j p live => ?_⟩,
    saves.saved, saves.saving⟩
  · rw [State.account_setAccount_eq]
    split
    · exact within
    · exact books.within b
  · have units := reservedFor_setPage s i q b
    have kept : ((s.setPage i q).setAccount a x).reservedFor b = (s.setPage i q).reservedFor b := rfl
    have before := books.reserved b
    rw [State.account_setAccount_eq, kept]
    split
    next same =>
      subst same
      omega
    next other =>
      have same := others b (Ne.symm other)
      change (s.account b).reserved = _
      omega
  · rcases page live with new | old
    · exact (sized p new).1
    · exact books.sized j p old
  · rw [State.account_setAccount_eq]
    split
    · exact used
    next other =>
      rcases page live with new | old
      · exact absurd (sized p new).2.symm other
      · exact books.billed j p old

/-- An entry is written anew with the same account, reservation and base units. -/
theorem setPage_keeps_accounts {i : Fin 16} {p q : Page} (live : s.page i = some p) (account : q.account = p.account)
    (reservation : q.reservation = p.reservation) (mono : q.baseMono = p.baseMono) (color : q.baseColor = p.baseColor) :
    (s.setPage i (some q)).accountLaw := by
  have units (b : Fin 128) : unitsFor b (s.page i) = unitsFor b (some q) := by
    rw [live]
    simp only [unitsFor, account, reservation]
  have sized := law.sized i p live
  have written := setEntry_keeps_accounts law (i := i) (q := some q) (a := p.account) (x := s.account p.account)
    (law.within _) (by rw [units]) (fun b _ => units b)
    (fun p' e => by
      cases e
      rw [reservation, mono, color]
      exact ⟨sized, account⟩)
    (law.billed i p live)
  have same : (s.setPage i (some q)).setAccount p.account (s.account p.account) = s.setPage i (some q) := by
    simp [State.setAccount, State.account, State.setPage]
  rwa [same] at written

/-- R126: no reservation passes the reserved units of its account. -/
theorem reservation_le_reserved {i : Fin 16} {p : Page} (live : s.page i = some p) :
    p.reservation ≤ (s.account p.account).reserved := by
  have units := reservedFor_setPage s i none p.account
  rw [live, unitsFor_some_self] at units
  rw [law.reserved]
  simp only [unitsFor_none] at units
  omega

/-- A page takes a free entry, and its account, which has room for it, its reservation. -/
theorem takeEntry_keeps_accounts {i : Fin 16} {p : Page} (free : s.page i = none)
    (sized : p.reservation = reservationOf p.baseMono p.baseColor)
    (enough : (s.account p.account).canReserve p.reservation = true) (used : (s.account p.account).state ≠ .unused) :
    ((s.setPage i (some p)).setAccount p.account
      { s.account p.account with reserved := (s.account p.account).reserved + p.reservation }).accountLaw := by
  refine setEntry_keeps_accounts law (withinLimit_of_canReserve enough (law.within p.account)) ?_ (fun b other => ?_)
    (fun q e => ?_) used
  · rw [free, unitsFor_none, unitsFor_some_self]
    rfl
  · rw [free, unitsFor_none, unitsFor_some_other (Ne.symm other)]
  · cases e
    exact ⟨sized, rfl⟩

/-- A live page leaves its entry, and its account gives back its reservation. -/
theorem leaveEntry_keeps_accounts {i : Fin 16} {p : Page} (live : s.page i = some p) {x : Account}
    (within : withinLimit x.limit (x.used + x.reserved))
    (reserved : x.reserved = (s.account p.account).reserved - p.reservation)
    (state : x.state = (s.account p.account).state) : ((s.setPage i none).setAccount p.account x).accountLaw := by
  have held := reservation_le_reserved law live
  refine setEntry_keeps_accounts law within ?_ (fun b other => ?_) nofun (state ▸ law.billed i p live)
  · rw [live, unitsFor_some_self, unitsFor_none]
    omega
  · rw [live, unitsFor_some_other (Ne.symm other), unitsFor_none]

/-! ## The ends of pages -/

theorem charge_le_reservation {i : Fin 16} {p : Page} (live : s.page i = some p) (c : Settings) :
    (p.charge c).charge ≤ p.reservation := by
  obtain ⟨bounds, -⟩ := chargeArithmetic
  obtain ⟨-, -, -, -, most⟩ := bounds p c
  exact most (law.sized i p live)

/-- R127: the charge of a page is at most the reservation that its account gives back for it. -/
theorem endCharged_keeps_accounts {i : Fin 16} {p : Page} (live : s.page i = some p) (cancel : Option CancelCause) :
    (s.endCharged i p cancel).accountLaw := by
  have settled := leaveEntry_keeps_accounts law live
    (settle_within (law.within p.account) (charge_le_reservation law live s.settings)
      (reservation_le_reserved law live) (p.charge s.settings).cls p.foreignFlag cancel.isSome) rfl rfl
  rw [endCharged_eq]
  refine raiseSince_keeps_accounts (accountLaw_of_ledger settled ?_)
  simp [ledger, settledPage, bookedPage, State.setPage, State.setAccount, barePages_set]

theorem endUncharged_keeps_accounts {i : Fin 16} {p : Page} (live : s.page i = some p) (c : CancelCause) :
    (s.endUncharged i p c).accountLaw := by
  have released := leaveEntry_keeps_accounts law live
    (x := { s.account p.account with reserved := (s.account p.account).reserved - p.reservation })
    (withinLimit_of_le (law.within p.account) (by dsimp only; omega)) rfl rfl
  exact accountLaw_of_ledger released rfl

end

/-! ## The account law kept by the page link, pages and resets -/

theorem freeEntry_page {s : State} {i : Fin 16} (free : s.freeEntry = some i) : s.page i = none := by
  simpa using List.find?_some free

/-- The first state of a page leaves its account, its base units and its reservation as they were. -/
@[simp] theorem firstState_billing (s : State) (p : Page) :
    (s.firstState p).account = p.account ∧ (s.firstState p).reservation = p.reservation
      ∧ (s.firstState p).baseMono = p.baseMono ∧ (s.firstState p).baseColor = p.baseColor := by
  unfold State.firstState
  split <;> exact ⟨rfl, rfl, rfl, rfl⟩

/-- R82, R109: a page is billed to the account it names, with the reservation of its base units. -/
@[simp] theorem newPage_billing (s : State) (o : OpenPage) :
    (s.newPage o).account = o.account
      ∧ (s.newPage o).reservation = reservationOf (s.newPage o).baseMono (s.newPage o).baseColor :=
  ⟨rfl, rfl⟩

theorem accountLaw_ite {c : Prop} [Decidable c] {s t : State} (law : s.accountLaw) (law' : t.accountLaw) :
    (if c then s else t).accountLaw := by
  split
  · exact law
  · exact law'

section

variable {s : State} (law : s.accountLaw)
include law

theorem cancelPage_keeps_accounts (c : CancelCause) (i : Fin 16) : (s.cancelPage c i).accountLaw := by
  unfold State.cancelPage
  split
  · exact law
  next p live =>
  split
  · exact endCharged_keeps_accounts law live _
  · exact endUncharged_keeps_accounts law live c

theorem cancelAll_keeps_accounts : s.cancelAll.accountLaw := by
  unfold State.cancelAll
  induction List.finRange 16 generalizing s with
  | nil => exact law
  | cons i rest ih => exact ih (cancelPage_keeps_accounts law .reset i)

/-- A beat that is counted leaves the page's reservation as it is, and one that completes the page ends it. -/
theorem countBeat_keeps_accounts (ref : Option PlaneRef) (offset : Nat) (first : Bool) (b : Beat) :
    (s.countBeat ref offset first b).accountLaw := by
  unfold State.countBeat
  split
  · exact law
  next r =>
  split
  · exact law
  next i _ =>
  split
  · exact law
  next p live =>
  dsimp only
  generalize counted : (if first then { p with state := .printing } else p : Page).count r.plane offset b = q
  have kept : (s.setPage i (some q)).accountLaw := by
    subst counted
    apply setPage_keeps_accounts law live <;> split <;> rfl
  split
  · exact endCharged_keeps_accounts kept (State.page_setPage s i (some q)) none
  · exact kept

theorem sendBeat_keeps_accounts (d : Delivery) : (s.sendBeat d).accountLaw :=
  countBeat_keeps_accounts (s := s.emit _) (accountLaw_of_ledger law rfl) _ _ _ _

theorem deliverTracked_keeps_accounts (e : TrackerEntry) (beats : List Beat) :
    (s.deliverTracked e beats).accountLaw := by
  refine accountLaw_of_ledger (sendBeat_keeps_accounts law (e.delivery beats)) ?_
  unfold State.deliverTracked
  dsimp only
  split <;> simp [ledger]

theorem deliverHit_keeps_accounts (h : Hit) : (s.deliverHit h).accountLaw := by
  refine accountLaw_of_ledger (sendBeat_keeps_accounts law h.delivery) ?_
  unfold State.deliverHit
  dsimp only
  split <;> simp [ledger]

theorem deliverBeat_keeps_accounts (age : Nat) : (s.deliverBeat age).accountLaw := by
  unfold State.deliverBeat
  (repeat' split)
  · exact deliverTracked_keeps_accounts law _ _
  · exact law
  · exact deliverHit_keeps_accounts law _
  · exact law

/-- R103: a scan slot raises a counter of its account, and no units. -/
theorem countScan_keeps_accounts (src : Source) (i : WindowIdx) (offset : Nat) (beats : List QueuedBeat) :
    (s.countScan src i offset beats).accountLaw := by
  have raised (a : Fin 128) : (s.setAccount a
      { s.account a with counters := (s.account a).counters.raiseScan }).accountLaw :=
    setAccount_keeps_accounts law (law.within a) rfl (fun none j p live e => law.billed j p live (e ▸ none))
  unfold State.countScan
  dsimp only
  (repeat' split)
  · exact law
  · exact accountLaw_of_ledger (raised _) rfl
  · exact law
  · exact law

theorem acceptWrite_keeps_accounts (src : Source) (r : PageRequest) (access : WriteAccess) (p : Place)
    (received : List WriteBeat) : (s.acceptWrite src r access p received).accountLaw := by
  have invalidated {u : State} (law : u.accountLaw) (q : Line → Bool) : (u.invalidateLines q).accountLaw :=
    accountLaw_of_ledger law (by simp [ledger])
  have scanned {u : State} (law : u.accountLaw) (beats : List QueuedBeat) :
      (match p.window with
        | some w => u.countScan src w.index p.offset beats
        | none => u).accountLaw := by
    split
    · exact countScan_keeps_accounts law src _ _ _
    · exact law
  have joined {u : State} (law : u.accountLaw) (e : PwqEntry) :
      ((({ u with pwq := u.pwq ++ [e] }.nextSeq).respond r.source r.tid .okay).settleHead).accountLaw :=
    accountLaw_of_ledger law (by simp [ledger])
  have flagged (c : Capture) : (s.raiseError c).accountLaw := accountLaw_of_ledger law (by simp [ledger])
  unfold State.acceptWrite
  dsimp only
  exact joined (scanned (invalidated (accountLaw_ite (flagged _) law) _) _) _

theorem serveWrite_keeps_accounts (r : PageRequest) (beats : Vector WriteBeat 8) (src : Source) :
    (s.serveWrite r beats src).accountLaw := by
  have taken (access : WriteAccess) (p : Place) (received : List WriteBeat) :
      (s.takeWrite src r access p received).accountLaw := by
    unfold State.takeWrite
    (repeat' split)
    · exact accountLaw_of_ledger law rfl
    · exact acceptWrite_keeps_accounts law src r access p received
    · exact accountLaw_of_ledger law rfl
  have refused (flag : PathFlag) (w : Option WindowRef) : (s.refuse flag (some .write) r w).accountLaw :=
    accountLaw_of_ledger law (by simp [ledger])
  unfold State.serveWrite
  dsimp only
  (repeat' split)
  · exact refused _ _
  · exact refused _ _
  · exact refused _ _
  · exact taken _ _ _
  · exact taken _ _ _
  · exact taken _ _ _

theorem intakeWrite_keeps_accounts (r : PageRequest) (beats : Vector WriteBeat 8) :
    (s.intake .write r (fun src s => s.serveWrite r beats src)).accountLaw := by
  unfold State.intake
  (repeat' split)
  case h_2 => exact serveWrite_keeps_accounts law r beats _
  all_goals exact accountLaw_of_ledger law (by simp [ledger])

/-- R126, R127: a page is opened where the account has room for its reservation. -/
theorem openPage_keeps_accounts (o : OpenPage) : (s.openPage o).accountLaw := by
  unfold State.openPage
  split
  · exact accountLaw_of_ledger law rfl
  next i free =>
  split
  · exact accountLaw_of_ledger law rfl
  split
  · exact accountLaw_of_ledger law rfl
  next active =>
  dsimp only
  split
  next enough =>
    have billed : (s.firstState (s.newPage o)).account = o.account := by simp
    have used : (s.account o.account).state ≠ .unused := by
      have both : s.pins.pfail = false ∧ (s.account o.account).state = .active := by simpa using active
      simp [both.2]
    rw [← billed] at enough used
    have opened := takeEntry_keeps_accounts law (freeEntry_page free) (by simp) enough used
    rw [billed] at opened
    exact accountLaw_of_ledger opened rfl
  next => exact accountLaw_of_ledger law rfl

theorem beginReset_keeps_accounts (kind : ResetKind) : (s.beginReset kind).accountLaw := by
  have dropped : (((s.recordReset kind).abortEntry .reset).dropTraffic).accountLaw :=
    accountLaw_of_ledger law (by simp [ledger])
  unfold State.beginReset
  exact accountLaw_of_ledger (cancelAll_keeps_accounts dropped) (by simp [ledger])

theorem linkAsserted_keeps_accounts : s.linkAsserted.accountLaw := by
  unfold State.linkAsserted
  (repeat' split)
  · exact accountLaw_of_ledger law rfl
  · exact accountLaw_of_ledger law rfl
  · exact accountLaw_of_ledger law rfl
  · exact beginReset_keeps_accounts law .linkReset

theorem beginWakeReset_keeps_accounts : s.beginWakeReset.accountLaw := by
  unfold State.beginWakeReset
  dsimp only
  (repeat' split)
  · exact accountLaw_of_ledger law rfl
  · exact beginReset_keeps_accounts (s := { s with wakeReset := false }) (accountLaw_of_ledger law rfl) .linkReset
  · exact law

theorem reprobeAll_keeps_accounts (reason : Reason) : (s.reprobeAll reason).accountLaw :=
  accountLaw_of_ledger law (by simp [ledger])

theorem policyChanged_keeps_accounts : s.policyChanged.accountLaw :=
  accountLaw_of_ledger law (by simp [ledger])

theorem reloadSettings_keeps_accounts : s.reloadSettings.accountLaw := by
  have loaded : s.loadSettings.accountLaw := accountLaw_of_ledger law (by simp [ledger])
  have changed := accountLaw_ite (c := s.loadSettings.settings.policy = s.settings.policy) loaded
    (policyChanged_keeps_accounts loaded)
  unfold State.reloadSettings
  exact accountLaw_ite (triggerCommit_keeps_accounts changed .interval) changed

theorem completeReset_keeps_accounts : s.completeReset.accountLaw := by
  have completed {u : State} (law : u.accountLaw) :
      ({ u with resetRec := { u.resetRec with progress := none } }.triggerCommit .reset).accountLaw :=
    triggerCommit_keeps_accounts (s := { u with resetRec := { u.resetRec with progress := none } })
      (accountLaw_of_ledger law rfl) .reset
  unfold State.completeReset
  split
  · split
    · exact completed (accountLaw_ite (reloadSettings_keeps_accounts law) law)
    · exact law
  · exact law

theorem writeSetting_keeps_accounts (n : SettingName) (v : Nat) : (s.writeSetting n v).accountLaw := by
  have written : { s with settings := s.settings.put n v }.accountLaw := accountLaw_of_ledger law rfl
  unfold State.writeSetting State.settingChanged
  (repeat' split)
  · exact law
  · exact policyChanged_keeps_accounts written
  · exact triggerCommit_keeps_accounts written .interval
  · exact written
  · exact written

end

/-! ## The account law kept by the management commands -/

/-- The command may change something that the account law speaks of. -/
def touchesLedger (c : Instr) : Bool := touchesPages c || touchesAccounts c || touchesStore c || touchesCommits c

theorem ledger_of_untouched {c : Instr} {s t : State} (kept : (touchedBy c).Keeps s t)
    (untouched : touchesLedger c = false) : ledger t = ledger s := by
  simp only [touchesLedger, Bool.or_eq_false_iff] at untouched
  obtain ⟨⟨⟨pages, accounts⟩, store⟩, commits⟩ := untouched
  simp only [ledger, kept.pages pages, kept.accounts accounts, kept.store store, kept.commits commits]

theorem unusedAccount_unused {s : State} {a : Fin 128} (found : s.unusedAccount = some a) :
    (s.account a).state = .unused := by
  simpa using List.find?_some found

section

variable {s : State} (law : s.accountLaw)
include law

theorem unbilled_of_unused {a : Fin 128} (unused : (s.account a).state = .unused) : unbilled s a :=
  fun i p live billed => law.billed i p live (billed ▸ unused)

theorem reserved_of_unbilled {a : Fin 128} (none : unbilled s a) : (s.account a).reserved = 0 := by
  rw [law.reserved, reservedFor_of_unbilled none]

/-- A slot without a live page may be written with an account that has spent nothing. -/
theorem freshAccount_keeps_accounts {a : Fin 128} {x : Account} (none : unbilled s a) (used : x.used = 0)
    (reserved : x.reserved = 0) : (s.setAccount a x).accountLaw := by
  refine setAccount_keeps_accounts law ?_ (by rw [reserved, reserved_of_unbilled law none]) (fun _ => none)
  rw [used, reserved]
  exact withinLimit_zero x.limit

/-- An account in use may be written with another limit, usage, state or counters that keep it in use and within its
limit. -/
theorem usedAccount_keeps_accounts {a : Fin 128} {x : Account} (within : withinLimit x.limit (x.used + x.reserved))
    (reserved : x.reserved = (s.account a).reserved) (used : x.state ≠ .unused) : (s.setAccount a x).accountLaw :=
  setAccount_keeps_accounts law within reserved (fun unused => absurd unused used)

theorem answered_keeps_accounts {code : Nat} {st : Status} {d : RespData} : (s.answer code st d).accountLaw :=
  accountLaw_portLaw.answered law code st d

theorem answeredStatus_keeps_accounts {code : Nat} {st : Status} : (s.answerStatus code st).accountLaw :=
  answered_keeps_accounts law

theorem judged_keeps_accounts {body : State → State} (h : (body s).accountLaw) (code : Nat) (f : Frame)
    (inReset : Bool) : (judged code f inReset body s).accountLaw :=
  accountLaw_portLaw.judged h code f inReset law

theorem judgeAccountCreate_keeps_accounts (f : Frame) (id limit : BitVec 32) :
    (judgeAccountCreate f id limit s).accountLaw := by
  refine judged_keeps_accounts law ?_ _ f _
  split
  · exact answeredStatus_keeps_accounts law
  split
  · exact answeredStatus_keeps_accounts law
  next a found =>
  exact answered_keeps_accounts
    (freshAccount_keeps_accounts law (unbilled_of_unused law (unusedAccount_unused found)) rfl rfl)

/-- R120: a limit below the used and reserved units is refused. -/
theorem judgeAccountSetLimit_keeps_accounts (f : Frame) (slot : Byte) (limit : BitVec 32) :
    (judgeAccountSetLimit f slot limit s).accountLaw := by
  refine judged_keeps_accounts law ?_ _ f _
  split
  · split
    · exact answeredStatus_keeps_accounts law
    next used =>
    split
    · exact answeredStatus_keeps_accounts law
    next above =>
    apply answeredStatus_keeps_accounts
    exact usedAccount_keeps_accounts law (withinLimit_of_not_belowUsed (eq_false_of_ne_true above)) rfl used
  · exact answeredStatus_keeps_accounts law

theorem judgeAccountResetUsage_keeps_accounts (f : Frame) (slot : Byte) :
    (judgeAccountResetUsage f slot s).accountLaw := by
  refine judged_keeps_accounts law ?_ _ f _
  split
  · exact answeredStatus_keeps_accounts law
  next a _ =>
  split
  · exact answeredStatus_keeps_accounts law
  next used =>
  have less : 0 + (s.account a).reserved ≤ (s.account a).used + (s.account a).reserved := by omega
  apply answeredStatus_keeps_accounts
  exact usedAccount_keeps_accounts law (withinLimit_of_le (law.within a) less) rfl used

theorem judgeAccountClearCounters_keeps_accounts (f : Frame) (slot : Byte) :
    (judgeAccountClearCounters f slot s).accountLaw := by
  refine judged_keeps_accounts law ?_ _ f _
  split
  · exact answeredStatus_keeps_accounts law
  next a _ =>
  split
  · exact answeredStatus_keeps_accounts law
  next used =>
  apply answeredStatus_keeps_accounts
  exact usedAccount_keeps_accounts law (law.within a) rfl used

theorem judgeAccountSuspend_keeps_accounts (f : Frame) (slot : Byte) :
    (judgeAccountSuspend f slot s).accountLaw := by
  refine judged_keeps_accounts law ?_ _ f _
  split
  · exact answeredStatus_keeps_accounts law
  next a _ =>
  (repeat' split)
  · exact answeredStatus_keeps_accounts law
  · exact answeredStatus_keeps_accounts law
  · apply answeredStatus_keeps_accounts
    exact usedAccount_keeps_accounts law (law.within a) rfl nofun

theorem judgeAccountResume_keeps_accounts (f : Frame) (slot : Byte) :
    (judgeAccountResume f slot s).accountLaw := by
  refine judged_keeps_accounts law ?_ _ f _
  split
  · exact answeredStatus_keeps_accounts law
  next a _ =>
  split
  · exact answeredStatus_keeps_accounts law
  · apply answeredStatus_keeps_accounts
    exact usedAccount_keeps_accounts law (law.within a) rfl nofun

/-- R124: a slot to which a live page is billed is not deleted. -/
theorem judgeAccountDelete_keeps_accounts (f : Frame) (slot : Byte) :
    (judgeAccountDelete f slot s).accountLaw := by
  refine judged_keeps_accounts law ?_ _ f _
  split
  · exact answeredStatus_keeps_accounts law
  next a _ =>
  split
  · exact answeredStatus_keeps_accounts law
  split
  · exact answeredStatus_keeps_accounts law
  split
  · exact answeredStatus_keeps_accounts law
  next idle =>
  have none : s.livePagesOf a = 0 := not_ne_iff.mp (not_or.mp idle).1
  exact answeredStatus_keeps_accounts (freshAccount_keeps_accounts law (livePagesOf_eq_zero none) rfl rfl)

theorem judgeCommit_keeps_accounts (f : Frame) : (judgeCommit f s).accountLaw := by
  refine judged_keeps_accounts law ?_ _ f _
  split
  · exact answeredStatus_keeps_accounts law
  · exact answeredStatus_keeps_accounts (startCommit_keeps_accounts law _)

theorem judgeSleep_keeps_accounts (f : Frame) : (judgeSleep f s).accountLaw := by
  have entering : { s with power := .entering, scrub := { s.scrub with idleMark := .settled } }.accountLaw :=
    accountLaw_of_ledger law rfl
  refine judged_keeps_accounts law ?_ _ f _
  split
  · exact answeredStatus_keeps_accounts law
  split
  · exact answeredStatus_keeps_accounts law
  · exact answeredStatus_keeps_accounts (triggerCommit_keeps_accounts entering .sleep)

theorem judgePageOpen_keeps_accounts (f : Frame) (a : PageOpenArgs) : (judgePageOpen f a s).accountLaw := by
  refine judged_keeps_accounts law ?_ _ f _
  split
  · exact answeredStatus_keeps_accounts law
  · exact openPage_keeps_accounts law _

theorem judgePageCancel_keeps_accounts (f : Frame) (n : BitVec 32) : (judgePageCancel f n s).accountLaw := by
  refine judged_keeps_accounts law ?_ _ f _
  split
  · exact answeredStatus_keeps_accounts law
  · exact answeredStatus_keeps_accounts (cancelPage_keeps_accounts law .command _)

theorem judgeCartReprobe_keeps_accounts (f : Frame) (selector : Byte) :
    (judgeCartReprobe f selector s).accountLaw := by
  refine judged_keeps_accounts law (accountLaw_of_ledger law ?_) _ f _
  (repeat' split) <;> simp [ledger]

theorem judgeConfigWrite_keeps_accounts (f : Frame) (number : Byte) (value : BitVec 32) :
    (judgeConfigWrite f number value s).accountLaw := by
  refine judged_keeps_accounts law ?_ _ f _
  split
  · exact answeredStatus_keeps_accounts law
  · exact answered_keeps_accounts (writeSetting_keeps_accounts law _ _)

/-- The stored settings and the root store lie outside the banks. -/
theorem judgeConfigStore_keeps_accounts (f : Frame) (o : StoreOutcome) : (judgeConfigStore f o s).accountLaw := by
  refine judged_keeps_accounts law (accountLaw_of_ledger law ?_) _ f _
  (repeat' split) <;> rfl

theorem judgeProvision_keeps_accounts (f : Frame) (masterKey : BitVec 256) (serial : Serial) (o : StoreOutcome) :
    (judgeProvision f masterKey serial o s).accountLaw := by
  refine judged_keeps_accounts law (accountLaw_of_ledger law ?_) _ f _
  (repeat' split) <;> rfl

theorem judgeLock_keeps_accounts (f : Frame) (o : StoreOutcome) : (judgeLock f o s).accountLaw := by
  refine judged_keeps_accounts law (accountLaw_of_ledger law ?_) _ f _
  (repeat' split) <;> rfl

theorem judgeReset_keeps_accounts (f : Frame) : (judgeReset f s).accountLaw := by
  refine judged_keeps_accounts law ?_ _ f _
  exact beginReset_keeps_accounts (answeredStatus_keeps_accounts law) .command

/-- Every judgement keeps the law: the account commands by their checks, those on pages by what a page reserves, those
that commit by the copy they take, and the others change nothing that it speaks of. -/
theorem judge_keeps_accounts (c : Instr) : (judge c s).accountLaw := by
  cases touches : touchesLedger c with
  | false => exact accountLaw_of_ledger law (ledger_of_untouched (judge_keeps c s) touches)
  | true =>
    cases c with
    | pageOpen f a => exact judgePageOpen_keeps_accounts law f a
    | pageCancel f n => exact judgePageCancel_keeps_accounts law f n
    | accountCreate f id limit => exact judgeAccountCreate_keeps_accounts law f id limit
    | accountSetLimit f slot limit => exact judgeAccountSetLimit_keeps_accounts law f slot limit
    | accountResetUsage f slot => exact judgeAccountResetUsage_keeps_accounts law f slot
    | accountClearCounters f slot => exact judgeAccountClearCounters_keeps_accounts law f slot
    | accountSuspend f slot => exact judgeAccountSuspend_keeps_accounts law f slot
    | accountResume f slot => exact judgeAccountResume_keeps_accounts law f slot
    | accountDelete f slot => exact judgeAccountDelete_keeps_accounts law f slot
    | commit f => exact judgeCommit_keeps_accounts law f
    | cartReprobe f selector => exact judgeCartReprobe_keeps_accounts law f selector
    | configWrite f number value => exact judgeConfigWrite_keeps_accounts law f number value
    | configStore f o => exact judgeConfigStore_keeps_accounts law f o
    | provision f masterKey serial o => exact judgeProvision_keeps_accounts law f masterKey serial o
    | lock f o => exact judgeLock_keeps_accounts law f o
    | sleep f => exact judgeSleep_keeps_accounts law f
    | reset f => exact judgeReset_keeps_accounts law f
    | write | beatDelivery | presenceDeassert | settlingExpiry | cartRequestRefused | replyWindowExpiry | helloReply
    | proveReply | debitReply | commitEnd | commitTimeout | pfailAssert | linkReset | resetComplete | powerOn | wakeEnd
    | powerLoss => exact law
    | _ => cases touches

end

/-! ## The account law after a change of power -/

theorem newest_holds {nv : NvStore} {k : BankId} {x : Snapshot} (newest : nv.newest = some (k, x)) :
    nv.bank k = .holds x := by
  unfold NvStore.newest at newest
  split at newest
  case h_1 x y heldA heldB =>
    split at newest <;> cases newest
    · exact heldB
    · exact heldA
  case h_2 x heldA _ => cases newest; exact heldA
  case h_3 y heldB _ => cases newest; exact heldB
  case h_4 => cases newest

@[simp] theorem carryDebts_accounts_commit (s : State) (x : Snapshot) :
    (s.carryDebts x).accounts = s.accounts ∧ (s.carryDebts x).commit = s.commit := by
  unfold State.carryDebts
  exact ⟨State.foldl_frame (·.accounts) _ (fun s d => by cases d <;> simp) _ s,
    State.foldl_frame (·.commit) _ (fun s d => by cases d <;> simp) _ s⟩

@[simp] theorem settleLines_accounts_commit (s : State) :
    s.settleLines.accounts = s.accounts ∧ s.settleLines.commit = s.commit := by
  unfold State.settleLines
  exact ⟨State.foldl_frame (·.accounts) _ (fun s k => by split <;> simp) _ s,
    State.foldl_frame (·.commit) _ (fun s k => by split <;> simp) _ s⟩

/-- An account that keeps within its limit and has no units reserved. -/
def Unreserved (x : Account) : Prop := withinLimit x.limit x.used ∧ x.reserved = 0

theorem factoryAccounts_unreserved (a : Fin 128) : Unreserved factoryAccounts[a] := by
  have account : factoryAccounts[a] = State.reset.account a := rfl
  rw [account, reset_account]
  split
  · exact ⟨trivial, rfl⟩
  · exact ⟨Nat.le_refl 0, rfl⟩

/-- R131, R136: the restored accounts are the saved ones, with nothing reserved. -/
theorem restore_unreserved {s : State} (saves : ∀ k, (s.nv.bank k).withinLimits) (a : Fin 128) :
    Unreserved s.restore.accounts[a] := by
  unfold State.restore
  split
  next k x newest =>
    have within : (Bank.holds x).withinLimits := newest_holds newest ▸ saves k
    rw [(carryDebts_accounts_commit _ x).1, mapVec_getElem]
    exact ⟨within a, rfl⟩
  next => exact factoryAccounts_unreserved a

theorem restore_inFlight {s : State} (idle : s.commit.inFlight = none) : s.restore.commit.inFlight = none := by
  unfold State.restore
  split
  · simp
  · exact idle

/-- Without pages and without a commit in flight the law asks for accounts with nothing reserved. -/
theorem accountLaw_of_no_pages {s : State} (pages : s.pages = Vector.replicate 16 none)
    (accounts : ∀ a : Fin 128, Unreserved s.accounts[a]) (saves : ∀ k, (s.nv.bank k).withinLimits)
    (idle : s.commit.inFlight = none) : s.accountLaw := by
  have empty (i : Fin 16) : s.page i = none := by simp [State.page, pages]
  refine (accountLaw_iff s).mpr ⟨⟨fun a => ?_, fun a => ?_, fun i p live => ?_, fun i p live => ?_⟩, saves,
    fun j copying => ?_⟩
  · obtain ⟨within, reserved⟩ := accounts a
    change withinLimit s.accounts[a].limit (s.accounts[a].used + s.accounts[a].reserved)
    rwa [reserved]
  · obtain ⟨-, reserved⟩ := accounts a
    rw [reservedFor_of_unbilled fun i p live => by simp [empty] at live]
    exact reserved
  · simp [empty] at live
  · simp [empty] at live
  · rw [idle] at copying
    cases copying

theorem poweredUp_accountLaw {s : State} (saves : ∀ k, (s.nv.bank k).withinLimits) : (poweredUp s).accountLaw := by
  obtain ⟨-, nv, pages, -, -⟩ := poweredUp_frame s
  refine accountLaw_of_no_pages pages (fun a => ?_) (by rwa [nv]) ?_
  · rw [poweredUp, (settleLines_accounts_commit _).1]
    exact restore_unreserved (by simpa [State.unpowered] using saves) a
  · rw [poweredUp, (settleLines_accounts_commit _).2]
    exact restore_inFlight (by simp [State.unpowered, State.blank])

theorem powerUp_accountLaw {s : State} (saves : ∀ k, (s.nv.bank k).withinLimits) : s.powerUp.accountLaw := by
  have setUp := poweredUp_accountLaw saves
  rw [powerUp_eq]
  split
  · exact beginReset_keeps_accounts setUp .linkReset
  · exact setUp

theorem unpowered_accountLaw {s : State} (saves : ∀ k, (s.nv.bank k).withinLimits) : s.unpowered.accountLaw := by
  refine accountLaw_of_no_pages rfl (fun a => ?_) saves rfl
  have account : s.unpowered.accounts[a] = {} := by simp [State.unpowered, State.blank]
  rw [account]
  exact ⟨Nat.le_refl 0, rfl⟩

/-! ## The account law kept by every step -/

section

variable {s t : State} (law : s.accountLaw)
include law

theorem event_keeps_accounts {body : State → State} (h : ∀ x : State, x.accountLaw → (body x).accountLaw) :
    (event body s).accountLaw :=
  accountLaw_portLaw.event h law

theorem event_keeps_accounts_of_ledger {body : State → State} (h : ∀ x, ledger (body x) = ledger x) :
    (event body s).accountLaw :=
  event_keeps_accounts law (fun x law => accountLaw_of_ledger law (h x))

/-- Every event keeps the law: a write and a beat by what they book, the ends of commits and resets by what they save,
changes of power by what they restore, and the others change nothing that it speaks of but for a re-judgement. -/
theorem exec_keeps_accounts {c : Instr} (code : commandCode c = none) (notWake : ∀ b, c ≠ .wakeEnd b)
    (run : exec c s = .next t) : t.accountLaw := by
  cases touches : touchesLedger c with
  | false => exact accountLaw_of_ledger law (ledger_of_untouched (exec_keeps run) touches)
  | true =>
    cases c with
    | write r beats =>
      cases run
      exact event_keeps_accounts law (fun x law => intakeWrite_keeps_accounts law r beats)
    | beatDelivery age => cases run; exact event_keeps_accounts law (fun x law => deliverBeat_keeps_accounts law age)
    | commitEnd verified =>
      cases run
      exact event_keeps_accounts law (fun x law => by
        split
        · exact commitDone_keeps_accounts law
        · exact commitFailed_keeps_accounts law)
    | commitTimeout => cases run; exact event_keeps_accounts law (fun x law => commitFailed_keeps_accounts law)
    | presenceDeassert k =>
      cases run
      exact event_keeps_accounts_of_ledger (s := s.setPresenceLine k false) (accountLaw_of_ledger law rfl)
        (fun x => by simp [ledger])
    | settlingExpiry k => cases run; exact event_keeps_accounts_of_ledger law (fun x => by simp [ledger])
    | cartRequestRefused k => cases run; exact event_keeps_accounts_of_ledger law (fun x => by split <;> simp [ledger])
    | replyWindowExpiry k => cases run; exact event_keeps_accounts_of_ledger law (fun x => by split <;> simp [ledger])
    | helloReply k bytes => cases run; exact event_keeps_accounts_of_ledger law (fun x => by simp [ledger])
    | proveReply k bytes => cases run; exact event_keeps_accounts_of_ledger law (fun x => by simp [ledger])
    | debitReply k bytes => cases run; exact event_keeps_accounts_of_ledger law (fun x => by simp [ledger])
    | pfailAssert =>
      cases run
      exact event_keeps_accounts (s := s.setPfail true) (accountLaw_of_ledger law rfl)
        (fun x law => by split; exacts [law, triggerCommit_keeps_accounts law .pfail])
    | linkReset =>
      cases run
      exact event_keeps_accounts (s := s.setLinkrst true) (accountLaw_of_ledger law rfl)
        (fun x law => by split; exacts [law, linkAsserted_keeps_accounts law])
    | resetComplete => cases run; exact event_keeps_accounts law (fun x law => completeReset_keeps_accounts law)
    | powerOn =>
      rw [exec_unique run (exec_powerOn s)]
      exact accountLaw_portLaw.closed (powerUp_accountLaw (savesWithin_of_accountLaw law).saved)
    | powerLoss =>
      rw [exec_unique run (exec_powerLoss s)]
      exact unpowered_accountLaw (savesWithin_of_accountLaw law).saved
    | wakeEnd b => exact absurd rfl (notWake b)
    | pageOpen | pageCancel | accountCreate | accountSetLimit | accountResetUsage | accountClearCounters
    | accountSuspend | accountResume | accountDelete | commit | cartReprobe | configWrite | configStore | provision | lock
    | sleep | reset => cases code
    | _ => cases touches

end

/-- Settles O56: judgements, events and the parts of a wake's end keep the account law, and so every step does. -/
theorem stepKeepsAccountLaw : Obligations.StepKeepsAccountLaw :=
  accountLaw_portLaw.keptByStep (fun c _ law => judge_keeps_accounts law c)
    (fun _ law => beginWakeReset_keeps_accounts law) (fun _ law => reprobeAll_keeps_accounts law .wake)
    (fun _ _ _ code notWake law run => exec_keeps_accounts law code notWake run)

end Sys2Proof.Machine.ChargeAndAccounts
end

section
/-! SUPPORT. Account commands, the meter and its commits, and settings: what raises the meter, the meter law, which every
step keeps, and the proofs of the statements on account commands, commits, the meter and CONFIG_WRITE. -/

namespace Sys2Proof.Machine.MeterAndCommits

open Sys2Proof Sys2Proof.Machine Sys2Proof.Machine.WindowsAndKeys Sys2Proof.Machine.CipherAndQueue
  Sys2Proof.Machine.ReadsAndPorts Sys2Proof.Machine.PrintPages Sys2Proof.Machine.ChargeAndAccounts

/-! ## Counters that rise -/

theorem counters_le_refl (c : Counters) : c.le c := by simp [Counters.le]

theorem counters_le_trans {c d e : Counters} (h : c.le d) (k : d.le e) : c.le e := by
  unfold Counters.le at *
  omega

/-- R129: counters that have not saturated come to others that are nowhere lower and have not passed saturation. -/
def Rises (c d : Counters) : Prop := c.bounded → c.le d ∧ d.bounded

theorem Rises.refl (c : Counters) : Rises c c := fun bounded => ⟨counters_le_refl c, bounded⟩

theorem Rises.trans {c d e : Counters} (h : Rises c d) (k : Rises d e) : Rises c e := by
  intro bounded
  obtain ⟨le, bounded⟩ := h bounded
  obtain ⟨le', bounded⟩ := k bounded
  exact ⟨counters_le_trans le le', bounded⟩

/-- A counter below its saturation is not lowered by a raise, and not raised past it. -/
theorem le_bump {n : Nat} (bounded : n ≤ Config.counterMax) : n ≤ bump n ∧ bump n ≤ Config.counterMax := by
  unfold bump
  omega

theorem raiseClass_rises (c : Counters) (k : PageClass) : Rises c (c.raiseClass k) := by
  intro bounded
  have raised := @le_bump
  unfold Counters.bounded at bounded
  cases k <;> simp [Counters.raiseClass, Counters.le, Counters.bounded, raised, bounded]

theorem raiseForeign_rises (c : Counters) (foreign : Bool) : Rises c (c.raiseForeign foreign) := by
  cases foreign with
  | false => exact Rises.refl c
  | true =>
    intro bounded
    have raised := @le_bump
    unfold Counters.bounded at bounded
    simp [Counters.raiseForeign, Counters.le, Counters.bounded, raised, bounded]

theorem raiseCancelled_rises (c : Counters) (cancelled : Bool) : Rises c (c.raiseCancelled cancelled) := by
  cases cancelled with
  | false => exact Rises.refl c
  | true =>
    intro bounded
    have raised := @le_bump
    unfold Counters.bounded at bounded
    simp [Counters.raiseCancelled, Counters.le, Counters.bounded, raised, bounded]

theorem raisePage_rises (c : Counters) (k : PageClass) (foreign cancelled : Bool) :
    Rises c (c.raisePage k foreign cancelled) :=
  ((raiseClass_rises c k).trans (raiseForeign_rises _ foreign)).trans (raiseCancelled_rises _ cancelled)

theorem raiseScan_rises (c : Counters) : Rises c c.raiseScan := by
  intro bounded
  have raised := @le_bump
  unfold Counters.bounded at bounded
  simp [Counters.raiseScan, Counters.le, Counters.bounded, raised, bounded]

/-! ## The newest snapshot and the bank of a commit -/

theorem newest_of_banks {nv nv' : NvStore} (banks : nv'.bank = nv.bank) : nv'.newest = nv.newest := by
  have a : nv'.bankA = nv.bankA := congrFun banks .a
  have b : nv'.bankB = nv.bankB := congrFun banks .b
  simp only [NvStore.newest, a, b]

theorem nextNumber_of_banks {nv nv' : NvStore} (banks : nv'.bank = nv.bank) : nv'.nextNumber = nv.nextNumber := by
  simp only [NvStore.nextNumber, newest_of_banks banks]

/-- R133: the bank of a commit is not that of the newest snapshot, so writing it there leaves the newest as it is. -/
theorem newest_setBank_target (nv : NvStore) : (nv.setBank nv.target .badCheck).newest = nv.newest := by
  obtain ⟨a, b, _, _⟩ := nv
  cases a with
  | holds x =>
    cases b with
    | holds y =>
      by_cases follows : y.number = x.number + 1
      · simp only [NvStore.target, NvStore.newest, if_pos follows, NvStore.setBank]
      · simp only [NvStore.target, NvStore.newest, if_neg follows, NvStore.setBank]
    | blank | badCheck => rfl
  | blank | badCheck => cases b <;> rfl

theorem nextNumber_setBank_target (nv : NvStore) : (nv.setBank nv.target .badCheck).nextNumber = nv.nextNumber := by
  simp only [NvStore.nextNumber, newest_setBank_target]

/-- With a bank that holds no correct check, the snapshot of the other is the newest. -/
theorem nextNumber_of_one_bank {nv : NvStore} {k j : BankId} {x : Snapshot} (holds : nv.bank k = .holds x)
    (bad : nv.bank j = .badCheck) : nv.nextNumber = x.number + 1 := by
  obtain ⟨a, b, _, _⟩ := nv
  cases k with
  | a =>
    cases (holds : a = .holds x)
    cases j with
    | a => cases bad
    | b => cases (bad : b = .badCheck); rfl
  | b =>
    cases (holds : b = .holds x)
    cases j with
    | a => cases (bad : a = .badCheck); rfl
    | b => cases bad

/-- A bank written with no valid snapshot takes one from the store at most. -/
theorem holds_of_setBank {nv : NvStore} {k j : BankId} {b : Bank} {x : Snapshot} (none : ∀ y, b ≠ .holds y)
    (holds : (nv.setBank j b).bank k = .holds x) : nv.bank k = .holds x := by
  rw [bank_setBank] at holds
  split at holds
  · exact absurd holds (none x)
  · exact holds

/-! ## The meter law as of a powered part -/

/-- The part's state with its power on. -/
def asPowered (s : State) : State := { s with powered := true }

theorem asPowered_tally (s : State) :
    (asPowered s).meter = s.meter ∧ (asPowered s).nv = s.nv ∧ (asPowered s).commit = s.commit :=
  ⟨rfl, rfl, rfl⟩

theorem asPowered_of_powered {s : State} (on : s.powered = true) : asPowered s = s := by
  cases s
  cases on
  rfl

theorem meterLaw_of_asPowered {s : State} (law : (asPowered s).meterLaw) : s.meterLaw where
  bounded := law.bounded
  saved := law.saved
  ordered := law.ordered
  committed _ := law.committed rfl
  target := law.target
  copied := law.copied
  follows := law.follows

/-- The law holds on where the meter has risen, with the banks and the commit in flight as they were. -/
theorem meterLaw_of_raised {s t : State} (law : s.meterLaw) (powered : t.powered = true → s.powered = true)
    (rises : Rises s.meter t.meter) (banks : t.nv.bank = s.nv.bank) (inFlight : t.commit.inFlight = s.commit.inFlight) :
    t.meterLaw := by
  obtain ⟨le, bounded⟩ := rises law.bounded
  have number := nextNumber_of_banks banks
  have a : t.nv.bankA = s.nv.bankA := congrFun banks .a
  have b : t.nv.bankB = s.nv.bankB := congrFun banks .b
  constructor
  case bounded => exact bounded
  case saved => exact banks ▸ law.saved
  case ordered => exact a ▸ b ▸ law.ordered
  case committed => exact fun on k x holds => counters_le_trans (law.committed (powered on) k x (banks ▸ holds)) le
  case target =>
    rw [inFlight, banks, number]
    exact law.target
  case copied =>
    intro j copying
    obtain ⟨bounded, older⟩ := law.copied j (inFlight ▸ copying)
    exact ⟨bounded, counters_le_trans older le⟩
  case follows => exact inFlight ▸ banks ▸ law.follows

theorem meterLaw_portLaw : PortLaw State.meterLaw where
  moved _ _ _ _ _ _ _ law := meterLaw_of_raised law id (Rises.refl _) rfl rfl

/-- The law of a state with no commit in flight. -/
theorem meterLaw_of_idle {s : State} (bounded : s.meter.bounded) (saved : ∀ k x, s.nv.bank k = .holds x → x.meter.bounded)
    (ordered : ∀ x y, s.nv.bankA = .holds x → s.nv.bankB = .holds y →
      (y.number = x.number + 1 ∧ x.meter.le y.meter) ∨ (x.number = y.number + 1 ∧ y.meter.le x.meter))
    (committed : s.powered = true → ∀ k x, s.nv.bank k = .holds x → x.meter.le s.meter)
    (idle : s.commit.inFlight = none) : s.meterLaw where
  bounded := bounded
  saved := saved
  ordered := ordered
  committed := committed
  target j copying := by cases idle.symm.trans copying
  copied j copying := by cases idle.symm.trans copying
  follows j copying := by cases idle.symm.trans copying

/-! ## Operations that take the meter onward -/

/-- The meter rises from one state to another, and the meter law of a powered part is kept. -/
structure Onward (s t : State) : Prop where
  rises : Rises s.meter t.meter
  keeps : (asPowered s).meterLaw → (asPowered t).meterLaw

theorem Onward.refl (s : State) : Onward s s := ⟨Rises.refl _, id⟩

theorem Onward.trans {s t u : State} (h : Onward s t) (k : Onward t u) : Onward s u :=
  ⟨h.rises.trans k.rises, k.keeps ∘ h.keeps⟩

theorem onward_of_raised {s t : State} (rises : Rises s.meter t.meter) (banks : t.nv.bank = s.nv.bank)
    (inFlight : t.commit.inFlight = s.commit.inFlight) : Onward s t :=
  ⟨rises, fun law => meterLaw_of_raised law (fun _ => rfl) rises banks inFlight⟩

/-- What the meter law speaks of, the power aside: the meter, the snapshot banks and the commit in flight. -/
def tally (s : State) : Counters × (BankId → Bank) × Option CommitJob := (s.meter, s.nv.bank, s.commit.inFlight)

theorem onward_of_tally {s t : State} (same : tally t = tally s) : Onward s t := by
  simp only [tally, Prod.mk.injEq] at same
  obtain ⟨meter, banks, inFlight⟩ := same
  exact onward_of_raised (meter ▸ Rises.refl _) banks inFlight

theorem onward_portLaw (s : State) : PortLaw (Onward s) where
  moved _ _ _ _ _ _ _ onward := onward.trans (onward_of_tally rfl)

theorem onward_ite {c : Prop} [Decidable c] {s t u : State} (h : Onward s t) (k : Onward s u) :
    Onward s (if c then t else u) := by
  split
  · exact h
  · exact k

theorem onward_foldl {β : Type} {f : State → β → State} (h : ∀ s x, Onward s (f s x)) (l : List β) (s : State) :
    Onward s (l.foldl f s) := by
  induction l generalizing s with
  | nil => exact Onward.refl s
  | cons x l ih => exact (h s x).trans (ih _)

/-! ## Commits -/

/-- R131, R133: a commit starts with a copy of the meter that no committed meter is above, in the bank that is not the
newest snapshot's. -/
theorem startCommit_keeps_meter {s : State} (law : (asPowered s).meterLaw) (causes : BitVec 5) :
    (asPowered (s.startCommit causes)).meterLaw := by
  have held {k : BankId} {x : Snapshot} (holds : (s.nv.setBank s.nv.target .badCheck).bank k = .holds x) :
      s.nv.bank k = .holds x := holds_of_setBank (b := .badCheck) nofun holds
  constructor
  case bounded => exact law.bounded
  case saved => exact fun k x holds => law.saved k x (held holds)
  case ordered => exact fun x y a b => law.ordered x y (held (k := .a) a) (held (k := .b) b)
  case committed => exact fun on k x holds => law.committed on k x (held holds)
  case target =>
    rintro j ⟨⟩
    exact ⟨(bank_setBank _ _ _ _).trans (if_pos rfl), (nextNumber_setBank_target s.nv).symm⟩
  case copied =>
    rintro j ⟨⟩
    exact ⟨law.bounded, counters_le_refl _⟩
  case follows =>
    rintro j ⟨⟩ k x holds
    exact law.committed rfl k x (held holds)

theorem startCommit_onward (s : State) (causes : BitVec 5) : Onward s (s.startCommit causes) :=
  ⟨Rises.refl _, fun law => startCommit_keeps_meter law causes⟩

theorem triggerCommit_onward (s : State) (c : Cause) : Onward s (s.triggerCommit c) := by
  unfold State.triggerCommit
  split
  · exact startCommit_onward s c.bits
  · exact onward_of_tally rfl

theorem raiseSince_onward (s : State) : Onward s s.raiseSince := by
  have counted : Onward s { s with commit := { s.commit with since := min Config.sinceMax (s.commit.since + 1) } } :=
    onward_of_tally rfl
  exact onward_ite (counted.trans (triggerCommit_onward _ .interval)) counted

theorem startRemembered_onward (s : State) : Onward s s.startRemembered := by
  unfold State.startRemembered
  split
  · have forgotten : Onward s { s with commit := { s.commit with remembered := none } } := onward_of_tally rfl
    exact forgotten.trans (startCommit_onward _ _)
  · exact Onward.refl s

/-- R134: a verified copy follows the newest snapshot in number, and its meter is at least that of every other. -/
theorem endedCommit_keeps_meter {s t : State} {j : CommitJob} (law : (asPowered s).meterLaw)
    (copying : s.commit.inFlight = some j) (meter : t.meter = s.meter)
    (nv : t.nv = s.nv.setBank j.bank (.holds j.snapshot)) (idle : t.commit.inFlight = none) :
    (asPowered t).meterLaw := by
  obtain ⟨bad, number⟩ := law.target j copying
  obtain ⟨bounded, older⟩ := law.copied j copying
  have bank (k : BankId) : t.nv.bank k = if k = j.bank then .holds j.snapshot else s.nv.bank k := by
    rw [nv, bank_setBank]
  have held {k : BankId} {x : Snapshot} (holds : t.nv.bank k = .holds x) :
      (k = j.bank ∧ x = j.snapshot) ∨ (k ≠ j.bank ∧ s.nv.bank k = .holds x) := by
    rw [bank] at holds
    split at holds
    next same =>
      cases holds
      exact .inl ⟨same, rfl⟩
    next other => exact .inr ⟨other, holds⟩
  have next {k : BankId} {x : Snapshot} (holds : s.nv.bank k = .holds x) :
      j.snapshot.number = x.number + 1 ∧ x.meter.le j.snapshot.meter :=
    ⟨number.trans (nextNumber_of_one_bank (nv := s.nv) holds bad), law.follows j copying k x holds⟩
  refine meterLaw_of_idle (s := asPowered t) (meter.symm ▸ law.bounded) (fun k x holds => ?_) (fun x y a b => ?_)
    (fun _ k x holds => ?_) idle
  · rcases held holds with ⟨-, rfl⟩ | ⟨-, old⟩
    · exact bounded
    · exact law.saved k x old
  · rcases held (k := .a) a with ⟨atA, rfl⟩ | ⟨-, oldA⟩ <;> rcases held (k := .b) b with ⟨atB, rfl⟩ | ⟨-, oldB⟩
    · cases atA.trans atB.symm
    · exact .inr (next oldB)
    · exact .inl (next oldA)
    · exact law.ordered x y oldA oldB
  · change x.meter.le t.meter
    rw [meter]
    rcases held holds with ⟨-, rfl⟩ | ⟨-, old⟩
    · exact older
    · exact law.committed rfl k x old

theorem commitDone_onward (s : State) : Onward s s.commitDone := by
  unfold State.commitDone
  split
  · exact Onward.refl s
  next j copying =>
    refine Onward.trans ?_ (startRemembered_onward _)
    exact ⟨Rises.refl _, fun law => endedCommit_keeps_meter law copying rfl rfl rfl⟩

/-- R134: a failed commit leaves its bank blank, and the other as it was. -/
theorem commitFailed_onward (s : State) : Onward s s.commitFailed := by
  unfold State.commitFailed
  split
  · exact Onward.refl s
  next j _ =>
    have held {k : BankId} {x : Snapshot} (holds : (s.nv.setBank j.bank .blank).bank k = .holds x) :
        s.nv.bank k = .holds x := holds_of_setBank (b := .blank) nofun holds
    refine Onward.trans ?_ (startRemembered_onward _)
    refine ⟨Rises.refl _, fun law => meterLaw_of_idle law.bounded ?_ ?_ ?_ rfl⟩
    · exact fun k x holds => law.saved k x (held holds)
    · exact fun x y a b => law.ordered x y (held (k := .a) a) (held (k := .b) b)
    · exact fun on k x holds => law.committed on k x (held holds)

/-! ## Pages, scan slots and resets -/

/-- R128, R129: a charged page raises the meter, and then the count that may trigger a commit. -/
theorem endCharged_onward (s : State) (i : Fin 16) (p : Page) (cancel : Option CancelCause) :
    Onward s (s.endCharged i p cancel) := by
  rw [endCharged_eq]
  refine Onward.trans (onward_of_raised ?_ ?_ ?_) (raiseSince_onward _)
  · simpa [settledPage, bookedPage] using raisePage_rises s.meter _ _ _
  · simp [settledPage, bookedPage]
  · simp [settledPage, bookedPage]

theorem cancelPage_onward (s : State) (c : CancelCause) (i : Fin 16) : Onward s (s.cancelPage c i) := by
  unfold State.cancelPage
  split
  · exact Onward.refl s
  · split
    · exact endCharged_onward s i _ _
    · exact onward_of_tally rfl

theorem cancelAll_onward (s : State) : Onward s s.cancelAll :=
  onward_foldl (fun s i => cancelPage_onward s .reset i) _ s

theorem countBeat_onward (s : State) (ref : Option PlaneRef) (offset : Nat) (first : Bool) (b : Beat) :
    Onward s (s.countBeat ref offset first b) := by
  have written (i : Fin 16) (p : Option Page) : Onward s (s.setPage i p) := onward_of_tally rfl
  unfold State.countBeat
  split
  · exact Onward.refl s
  split
  · exact Onward.refl s
  split
  · exact Onward.refl s
  · exact onward_ite ((written _ _).trans (endCharged_onward _ _ _ none)) (written _ _)

theorem sendBeat_onward (s : State) (d : Delivery) : Onward s (s.sendBeat d) :=
  Onward.trans (t := s.emit _) (onward_of_tally rfl) (countBeat_onward _ _ _ _ _)

theorem deliverTracked_onward (s : State) (e : TrackerEntry) (beats : List Beat) :
    Onward s (s.deliverTracked e beats) := by
  refine (sendBeat_onward s (e.delivery beats)).trans (onward_of_tally ?_)
  unfold State.deliverTracked
  dsimp only
  split <;> simp [tally]

theorem deliverHit_onward (s : State) (h : Hit) : Onward s (s.deliverHit h) := by
  refine (sendBeat_onward s h.delivery).trans (onward_of_tally ?_)
  unfold State.deliverHit
  dsimp only
  split <;> simp [tally]

theorem deliverBeat_onward (s : State) (age : Nat) : Onward s (s.deliverBeat age) := by
  unfold State.deliverBeat
  (repeat' split)
  · exact deliverTracked_onward s _ _
  · exact Onward.refl s
  · exact deliverHit_onward s _
  · exact Onward.refl s

/-- R103: a scan slot raises one counter of the meter. -/
theorem countScan_onward (s : State) (src : Source) (i : WindowIdx) (offset : Nat) (beats : List QueuedBeat) :
    Onward s (s.countScan src i offset beats) := by
  unfold State.countScan
  dsimp only
  (repeat' split)
  · exact Onward.refl s
  · exact onward_of_raised (raiseScan_rises s.meter) rfl rfl
  · exact Onward.refl s
  · exact Onward.refl s

theorem acceptWrite_onward (s : State) (src : Source) (r : PageRequest) (access : WriteAccess) (p : Place)
    (received : List WriteBeat) : Onward s (s.acceptWrite src r access p received) := by
  have flagged (c : Capture) : Onward s (s.raiseError c) := onward_of_tally (by simp [tally])
  have invalidated (u : State) (q : Line → Bool) : Onward u (u.invalidateLines q) := onward_of_tally (by simp [tally])
  have scanned (u : State) (beats : List QueuedBeat) : Onward u (match p.window with
      | some w => u.countScan src w.index p.offset beats
      | none => u) := by
    split
    · exact countScan_onward u src _ _ _
    · exact Onward.refl u
  have joined (u : State) (e : PwqEntry) :
      Onward u ((({ u with pwq := u.pwq ++ [e] }.nextSeq).respond r.source r.tid .okay).settleHead) :=
    onward_of_tally (by simp [tally])
  unfold State.acceptWrite
  dsimp only
  exact (((onward_ite (flagged _) (Onward.refl s)).trans (invalidated _ _)).trans (scanned _ _)).trans (joined _ _)

theorem serveWrite_onward (s : State) (r : PageRequest) (beats : Vector WriteBeat 8) (src : Source) :
    Onward s (s.serveWrite r beats src) := by
  have taken (access : WriteAccess) (p : Place) (received : List WriteBeat) :
      Onward s (s.takeWrite src r access p received) := by
    unfold State.takeWrite
    (repeat' split)
    · exact onward_of_tally rfl
    · exact acceptWrite_onward s src r access p received
    · exact onward_of_tally rfl
  have refused (flag : PathFlag) (w : Option WindowRef) : Onward s (s.refuse flag (some .write) r w) :=
    onward_of_tally (by simp [tally])
  unfold State.serveWrite
  dsimp only
  (repeat' split)
  · exact refused _ _
  · exact refused _ _
  · exact refused _ _
  · exact taken _ _ _
  · exact taken _ _ _
  · exact taken _ _ _

theorem intakeWrite_onward (s : State) (r : PageRequest) (beats : Vector WriteBeat 8) :
    Onward s (s.intake .write r (fun src s => s.serveWrite r beats src)) := by
  unfold State.intake
  (repeat' split)
  case h_2 => exact serveWrite_onward s r beats _
  all_goals exact onward_of_tally (by simp [tally])

theorem beginReset_onward (s : State) (kind : ResetKind) : Onward s (s.beginReset kind) := by
  have dropped : Onward s ((s.recordReset kind).abortEntry .reset).dropTraffic := onward_of_tally (by simp [tally])
  have stopped (u : State) : Onward u u.stopScrub := onward_of_tally (by simp [tally])
  exact (dropped.trans (cancelAll_onward _)).trans (stopped _)

theorem linkAsserted_onward (s : State) : Onward s s.linkAsserted := by
  unfold State.linkAsserted
  (repeat' split)
  · exact onward_of_tally rfl
  · exact onward_of_tally rfl
  · exact onward_of_tally rfl
  · exact beginReset_onward s .linkReset

theorem beginWakeReset_onward (s : State) : Onward s s.beginWakeReset := by
  have taken : Onward s { s with wakeReset := false } := onward_of_tally rfl
  unfold State.beginWakeReset
  dsimp only
  (repeat' split)
  · exact taken.trans (onward_of_tally rfl)
  · exact taken.trans (beginReset_onward _ .linkReset)
  · exact Onward.refl s

theorem reprobeAll_onward (s : State) (reason : Reason) : Onward s (s.reprobeAll reason) :=
  onward_of_tally (by simp [tally])

theorem policyChanged_onward (s : State) : Onward s s.policyChanged := onward_of_tally (by simp [tally])

theorem reloadSettings_onward (s : State) : Onward s s.reloadSettings := by
  have loaded : Onward s s.loadSettings := onward_of_tally (by simp [tally])
  have changed : Onward s (if s.loadSettings.settings.policy = s.settings.policy then s.loadSettings
      else s.loadSettings.policyChanged) := onward_ite loaded (loaded.trans (policyChanged_onward _))
  exact onward_ite (changed.trans (triggerCommit_onward _ .interval)) changed

theorem completeReset_onward (s : State) : Onward s s.completeReset := by
  have completed (u : State) :
      Onward u ({ u with resetRec := { u.resetRec with progress := none } }.triggerCommit .reset) :=
    Onward.trans (t := { u with resetRec := { u.resetRec with progress := none } }) (onward_of_tally rfl)
      (triggerCommit_onward _ .reset)
  unfold State.completeReset
  split
  · split
    · exact (onward_ite (reloadSettings_onward s) (Onward.refl s)).trans (completed _)
    · exact Onward.refl s
  · exact Onward.refl s

theorem writeSetting_onward (s : State) (n : SettingName) (v : Nat) : Onward s (s.writeSetting n v) := by
  have written : Onward s { s with settings := s.settings.put n v } := onward_of_tally rfl
  unfold State.writeSetting State.settingChanged
  (repeat' split)
  · exact Onward.refl s
  · exact written.trans (policyChanged_onward _)
  · exact written.trans (triggerCommit_onward _ .interval)
  · exact written
  · exact written

/-! ## The judgements of management commands -/

theorem answer_onward (s : State) (code : Nat) (st : Status) (d : RespData) : Onward s (s.answer code st d) :=
  onward_of_tally rfl

theorem answerStatus_onward (s : State) (code : Nat) (st : Status) : Onward s (s.answerStatus code st) :=
  onward_of_tally rfl

theorem judged_onward {body : State → State} {s : State} (h : Onward s (body s)) (code : Nat) (f : Frame)
    (inReset : Bool) : Onward s (judged code f inReset body s) :=
  (onward_portLaw s).judged h code f inReset (Onward.refl s)

theorem judgeCommit_onward (s : State) (f : Frame) : Onward s (judgeCommit f s) := by
  refine judged_onward ?_ _ f _
  split
  · exact answerStatus_onward s _ _
  · exact (startCommit_onward s _).trans (answerStatus_onward _ _ _)

theorem judgeSleep_onward (s : State) (f : Frame) : Onward s (judgeSleep f s) := by
  have entering : Onward s { s with power := .entering, scrub := { s.scrub with idleMark := .settled } } :=
    onward_of_tally rfl
  refine judged_onward ?_ _ f _
  (repeat' split)
  · exact answerStatus_onward s _ _
  · exact answerStatus_onward s _ _
  · exact (entering.trans (triggerCommit_onward _ .sleep)).trans (answerStatus_onward _ _ _)

theorem judgePageCancel_onward (s : State) (f : Frame) (n : BitVec 32) : Onward s (judgePageCancel f n s) := by
  refine judged_onward ?_ _ f _
  split
  · exact answerStatus_onward s _ _
  · exact (cancelPage_onward s .command _).trans (answerStatus_onward _ _ _)

theorem judgeConfigWrite_onward (s : State) (f : Frame) (number : Byte) (value : BitVec 32) :
    Onward s (judgeConfigWrite f number value s) := by
  refine judged_onward ?_ _ f _
  split
  · exact answerStatus_onward s _ _
  · exact (writeSetting_onward s _ _).trans (answer_onward _ _ _ _)

/-- The stored settings and the root store lie outside the banks. -/
theorem judgeConfigStore_onward (s : State) (f : Frame) (o : StoreOutcome) : Onward s (judgeConfigStore f o s) := by
  refine judged_onward (onward_of_tally ?_) _ f _
  (repeat' split) <;> rfl

theorem judgeProvision_onward (s : State) (f : Frame) (masterKey : BitVec 256) (serial : Serial) (o : StoreOutcome) :
    Onward s (judgeProvision f masterKey serial o s) := by
  refine judged_onward (onward_of_tally ?_) _ f _
  (repeat' split) <;> rfl

theorem judgeLock_onward (s : State) (f : Frame) (o : StoreOutcome) : Onward s (judgeLock f o s) := by
  refine judged_onward (onward_of_tally ?_) _ f _
  (repeat' split) <;> rfl

theorem judgeReset_onward (s : State) (f : Frame) : Onward s (judgeReset f s) := by
  refine judged_onward ?_ _ f _
  exact (answerStatus_onward s _ _).trans (beginReset_onward _ .command)

/-- The command may change something that the meter law speaks of. -/
def touchesTally (c : Instr) : Bool := touchesMeter c || touchesStore c || touchesCommits c

theorem onward_of_untouched {c : Instr} {s t : State} (kept : (touchedBy c).Keeps s t)
    (untouched : touchesTally c = false) : Onward s t := by
  simp only [touchesTally, Bool.or_eq_false_iff] at untouched
  obtain ⟨⟨meter, store⟩, commits⟩ := untouched
  exact onward_of_tally (by simp only [tally, kept.meter meter, kept.store store, kept.commits commits])

/-- Every judgement takes the meter onward: a page cancelled and a reset raise it, COMMIT, SLEEP and CONFIG_WRITE start
commits, and the others change nothing that the meter law speaks of. -/
theorem judge_onward (c : Instr) (s : State) : Onward s (judge c s) := by
  cases touches : touchesTally c with
  | false => exact onward_of_untouched (judge_keeps c s) touches
  | true =>
    cases c with
    | pageCancel f n => exact judgePageCancel_onward s f n
    | commit f => exact judgeCommit_onward s f
    | configWrite f number value => exact judgeConfigWrite_onward s f number value
    | configStore f o => exact judgeConfigStore_onward s f o
    | provision f masterKey serial o => exact judgeProvision_onward s f masterKey serial o
    | lock f o => exact judgeLock_onward s f o
    | sleep f => exact judgeSleep_onward s f
    | reset f => exact judgeReset_onward s f
    | write | beatDelivery | commitEnd | commitTimeout | pfailAssert | linkReset | resetComplete | powerOn | wakeEnd
    | powerLoss => exact Onward.refl s
    | _ => cases touches

/-! ## The events -/

theorem event_onward {body : State → State} (h : ∀ x, Onward x (body x)) (s : State) : Onward s (event body s) :=
  (onward_portLaw s).event (fun x start => start.trans (h x)) (Onward.refl s)

theorem endWake_onward (s : State) (resetFirst : Bool) : Onward s (s.endWake resetFirst) :=
  (onward_portLaw s).endWake (fun c x start => start.trans (judge_onward c x))
    (fun x start => start.trans (beginWakeReset_onward x)) (fun x start => start.trans (reprobeAll_onward x .wake))
    resetFirst (Onward.refl s)

theorem commitEnd_onward (s : State) (verified : Bool) :
    Onward s (if verified then s.commitDone else s.commitFailed) :=
  onward_ite (commitDone_onward s) (commitFailed_onward s)

/-- Every command but POWER_ON and POWER_LOSS takes the meter onward. -/
theorem exec_onward {c : Instr} {s t : State} (notOn : c ≠ .powerOn) (notLoss : c ≠ .powerLoss)
    (run : exec c s = .next t) : Onward s t := by
  cases touches : touchesTally c with
  | false => exact onward_of_untouched (exec_keeps run) touches
  | true =>
    cases code : commandCode c with
    | some n =>
      obtain ⟨f, run'⟩ := exec_of_commandCode code s
      rw [exec_unique run run']
      exact (onward_portLaw s).event (fun x start => (onward_portLaw s).receive
        (fun y start => start.trans (judge_onward c y)) c f start) (Onward.refl s)
    | none =>
      cases c with
      | write r beats => cases run; exact event_onward (fun x => intakeWrite_onward x r beats) s
      | beatDelivery age => cases run; exact event_onward (fun x => deliverBeat_onward x age) s
      | commitEnd verified => cases run; exact event_onward (fun x => commitEnd_onward x verified) s
      | commitTimeout => cases run; exact event_onward commitFailed_onward s
      | pfailAssert =>
        cases run
        exact Onward.trans (t := s.setPfail true) (onward_of_tally rfl)
          (event_onward (fun x => onward_ite (Onward.refl x) (triggerCommit_onward x .pfail)) _)
      | linkReset =>
        cases run
        exact Onward.trans (t := s.setLinkrst true) (onward_of_tally rfl)
          (event_onward (fun x => onward_ite (Onward.refl x) (linkAsserted_onward x)) _)
      | resetComplete => cases run; exact event_onward completeReset_onward s
      | wakeEnd b => cases run; exact event_onward (fun x => endWake_onward x b) s
      | powerOn => exact absurd rfl notOn
      | powerLoss => exact absurd rfl notLoss
      | pageCancel | commit | configWrite | configStore | provision | lock | sleep | reset => cases code
      | _ => cases touches

/-- Settles O34: every command but the two takes the meter onward. -/
theorem meterNeverFalls : Obligations.MeterNeverFalls :=
  fun _ _ _ notOn notLoss bounded run => (exec_onward notOn notLoss run).rises bounded

/-! ## Changes of power -/

@[simp] theorem carryDebts_meter (s : State) (x : Snapshot) : (s.carryDebts x).meter = s.meter := by
  unfold State.carryDebts
  exact State.foldl_frame (·.meter) _ (fun s d => by cases d <;> simp) _ s

@[simp] theorem settleLines_meter (s : State) : s.settleLines.meter = s.meter := by
  unfold State.settleLines
  exact State.foldl_frame (·.meter) _ (fun s k => by split <;> simp) _ s

/-- The meter of the newest valid snapshot, or one at 0 where there is none (R136). -/
def savedMeter (nv : NvStore) : Counters :=
  match nv.newest with
  | some (_, x) => x.meter
  | none => {}

theorem poweredUp_meter (s : State) : (poweredUp s).meter = savedMeter s.nv := by
  simp only [poweredUp, settleLines_meter, State.restore, savedMeter]
  have nv : ({ s.unpowered with powered := true }.loadSettings.note (.reset .powerOn)).nv = s.nv := by
    simp [State.unpowered]
  rw [nv]
  cases s.nv.newest with
  | some => simp
  | none => simp [State.unpowered, State.blank]

theorem poweredUp_inFlight (s : State) : (poweredUp s).commit.inFlight = none := by
  rw [poweredUp, (settleLines_accounts_commit _).2]
  exact restore_inFlight (by simp [State.unpowered, State.blank])

theorem bounded_zero : ({} : Counters).bounded := by simp [Counters.bounded]

section

variable {s : State} (law : s.meterLaw)
include law

theorem savedMeter_bounded : (savedMeter s.nv).bounded := by
  unfold savedMeter
  split
  next k x newest => exact law.saved k x (newest_holds newest)
  next => exact bounded_zero

/-- R131: of two valid snapshots the one that follows the other is the newest. -/
theorem both_le_savedMeter {x y : Snapshot} (a : s.nv.bankA = .holds x) (b : s.nv.bankB = .holds y) :
    x.meter.le (savedMeter s.nv) ∧ y.meter.le (savedMeter s.nv) := by
  rcases law.ordered x y a b with ⟨follows, le⟩ | ⟨follows, le⟩
  · have newest : savedMeter s.nv = y.meter := by simp only [savedMeter, NvStore.newest, a, b, if_pos follows]
    rw [newest]
    exact ⟨le, counters_le_refl _⟩
  · have other : y.number ≠ x.number + 1 := by bv_omega
    have newest : savedMeter s.nv = x.meter := by simp only [savedMeter, NvStore.newest, a, b, if_neg other]
    rw [newest]
    exact ⟨counters_le_refl _, le⟩

/-- R131: no valid snapshot has a later meter than the newest. -/
theorem le_savedMeter {k : BankId} {x : Snapshot} (holds : s.nv.bank k = .holds x) : x.meter.le (savedMeter s.nv) := by
  have alone (newest : savedMeter s.nv = x.meter) : x.meter.le (savedMeter s.nv) := newest ▸ counters_le_refl _
  cases k with
  | a =>
    have holds : s.nv.bankA = .holds x := holds
    cases other : s.nv.bankB with
    | holds y => exact (both_le_savedMeter law holds other).1
    | blank | badCheck => exact alone (by simp only [savedMeter, NvStore.newest, holds, other])
  | b =>
    have holds : s.nv.bankB = .holds x := holds
    cases other : s.nv.bankA with
    | holds y => exact (both_le_savedMeter law other holds).2
    | blank | badCheck => exact alone (by simp only [savedMeter, NvStore.newest, holds, other])

/-- R136: the part powers on with the meter of the newest snapshot, and with no commit in flight. -/
theorem poweredUp_meterLaw : (asPowered (poweredUp s)).meterLaw := by
  obtain ⟨-, nv, -, -, -⟩ := poweredUp_frame s
  obtain ⟨meter, store, commit⟩ := asPowered_tally (poweredUp s)
  rw [poweredUp_meter] at meter
  rw [nv] at store
  have idle : (asPowered (poweredUp s)).commit.inFlight = none := by rw [commit, poweredUp_inFlight]
  refine meterLaw_of_idle ?_ ?_ ?_ ?_ idle
  · rw [meter]
    exact savedMeter_bounded law
  · rw [store]
    exact law.saved
  · rw [store]
    exact law.ordered
  · rw [meter, store]
    exact fun _ k x holds => le_savedMeter law holds

theorem powerUp_meterLaw : s.powerUp.meterLaw := by
  have setUp := poweredUp_meterLaw law
  rw [powerUp_eq]
  refine meterLaw_of_asPowered ?_
  split
  · exact (beginReset_onward _ .linkReset).keeps setUp
  · exact setUp

/-- A part without power keeps its snapshots, and no meter of its own. -/
theorem unpowered_meterLaw : s.unpowered.meterLaw :=
  meterLaw_of_idle bounded_zero law.saved law.ordered nofun rfl

end

/-! ## The meter law kept by every step -/

/-- A command other than the two on power is an event, which a change of a line's level may come before. -/
theorem exec_event {c : Instr} (notOn : c ≠ .powerOn) (notLoss : c ≠ .powerLoss) (s : State) :
    ∃ body pins, exec c s = .next (event body { s with pins := pins }) := by
  cases c with
  | powerOn => exact absurd rfl notOn
  | powerLoss => exact absurd rfl notLoss
  | _ => exact ⟨_, _, rfl⟩

theorem exec_keeps_meter {c : Instr} {s t : State} (law : s.meterLaw) (run : exec c s = .next t) : t.meterLaw := by
  by_cases power : c = .powerOn ∨ c = .powerLoss
  · rcases power with rfl | rfl
    · rw [exec_unique run (exec_powerOn s)]
      exact meterLaw_portLaw.closed (powerUp_meterLaw law)
    · rw [exec_unique run (exec_powerLoss s)]
      exact unpowered_meterLaw law
  obtain ⟨notOn, notLoss⟩ := not_or.mp power
  cases on : s.powered with
  | true =>
    refine meterLaw_of_asPowered ((exec_onward notOn notLoss run).keeps ?_)
    rwa [asPowered_of_powered on]
  | false =>
    obtain ⟨body, pins, run'⟩ := exec_event notOn notLoss s
    rw [exec_unique run run', event_of_unpowered (s := { s with pins := pins }) on]
    exact meterLaw_of_raised law id (Rises.refl _) rfl rfl

/-- Settles O57: a powered part's commands take the meter onward, a part without power keeps what the law speaks of, and
POWER_ON brings back the newest snapshot's meter. -/
theorem stepKeepsMeterLaw : Obligations.StepKeepsMeterLaw := by
  intro s t law run
  unfold step at run
  split at run
  · cases run
    exact law
  next c rest _ =>
    exact exec_keeps_meter (meterLaw_portLaw.moved rest _ _ _ _ _ _ law) run

/-! ## The account commands -/

theorem limitOf_eq_none {l : BitVec 32} (above : 2147483648 ≤ l.toNat) (numeric : l.toNat ≠ 4294967295) :
    limitOf l = none := by
  rw [limitOf, if_neg numeric, if_neg (by omega)]

theorem limitOf_eq_some {l : BitVec 32} (named : l.toNat ≤ 2147483647 ∨ l.toNat = 4294967295) :
    limitOf l = some (if l.toNat = 4294967295 then none else some l.toNat) := by
  unfold limitOf
  split
  · rfl
  · rw [if_pos (by omega)]

theorem unusedAccount_eq_some {s : State} {a : Fin 128} (unused : (s.account a).state = .unused)
    (lowest : ∀ x < a, (s.account x).state ≠ .unused) : s.unusedAccount = some a :=
  find?_finRange_eq_some (by simp [unused]) (fun x less => by simp [lowest x less])

theorem unusedAccount_eq_none {s : State} (full : ∀ a, (s.account a).state ≠ .unused) : s.unusedAccount = none := by
  simpa [State.unusedAccount] using full

theorem belowUsed_iff {x : Account} {limit : Option Nat} :
    x.belowUsed limit = true ↔ ∃ n, limit = some n ∧ n < x.used + x.reserved := by
  cases limit <;> simp [Account.belowUsed]

/-- R124: the account is the scan account of a window that is not FREE. -/
theorem isScanAccount_iff {s : State} {a : Fin 128} : s.isScanAccount a = true ↔
    ∃ i, (s.window i).state ≠ .free ∧ (s.window i).kind = .scan ∧ (s.window i).scanAccount = a := by
  simp [State.isScanAccount, Window.live, and_assoc]

/-- R124: a live page is billed to the account. -/
theorem livePagesOf_ne_zero_iff {s : State} {a : Fin 128} : s.livePagesOf a ≠ 0 ↔
    ∃ i p, s.page i = some p ∧ p.account = a := by
  simp only [State.livePagesOf, ne_eq, List.length_eq_zero_iff, List.filter_eq_nil_iff, mem_livePages, beq_iff_eq]
  push Not
  exact ⟨fun ⟨p, ⟨i, live⟩, billed⟩ => ⟨i, p, live, billed⟩, fun ⟨i, p, live, billed⟩ => ⟨p, ⟨i, live⟩, billed⟩⟩

section

variable (s : State) (f : Frame)

@[simp] theorem heard_commit : (heard s f).commit = s.commit := rfl
@[simp] theorem heard_settings : (heard s f).settings = s.settings := rfl
@[simp] theorem heard_unusedAccount : (heard s f).unusedAccount = s.unusedAccount := rfl
@[simp] theorem heard_livePagesOf (a : Fin 128) : (heard s f).livePagesOf a = s.livePagesOf a := rfl
@[simp] theorem heard_isScanAccount (a : Fin 128) : (heard s f).isScanAccount a = s.isScanAccount a := rfl

end

section

variable {s : State} {f : Frame} (hs : s.ready)
include hs

theorem exec_accountCreate_badArgument {id limit : BitVec 32} (hf : wholeFrame f 8) (bad : limitOf limit = none) :
    exec (.accountCreate f id limit) s = .next (s.answered f 0x30 .badArgument .empty) :=
  next_judged hs.1 hf rfl (.inr hs.2) (by simp only [bad]; rfl)

theorem exec_accountCreate_noRoom {id limit : BitVec 32} {l : Option Nat} (hf : wholeFrame f 8)
    (named : limitOf limit = some l) (full : s.unusedAccount = none) :
    exec (.accountCreate f id limit) s = .next (s.answered f 0x30 .noRoom .empty) :=
  next_judged hs.1 hf rfl (.inr hs.2) (by simp only [named, heard_unusedAccount, full]; rfl)

theorem exec_accountCreate_created {id limit : BitVec 32} {l : Option Nat} {a : Fin 128} (hf : wholeFrame f 8)
    (named : limitOf limit = some l) (lowest : s.unusedAccount = some a) :
    exec (.accountCreate f id limit) s = .next { s.answered f 0x30 .ok (.accountCreated a) with
      accounts := s.accounts.set a
        { state := .active, id := id, limit := l, used := 0, reserved := 0, counters := {} } } :=
  next_judged hs.1 hf rfl (.inr hs.2) (by simp only [named, heard_unusedAccount, lowest]; rfl)

section

variable {slot : Byte} {limit : BitVec 32} {l : Option Nat} {a : Fin 128} (index : slot.toNat = a.val)
include index

section

variable (hf : wholeFrame f 5) (named : limitOf limit = some l)
include hf named

theorem exec_accountSetLimit_notFound (unused : (s.account a).state = .unused) :
    exec (.accountSetLimit f slot limit) s = .next (s.answered f 0x31 .notFound .empty) :=
  next_judged hs.1 hf rfl (.inr hs.2) (by simp only [accountOf_eq index, named, heard_account, unused, ↓reduceIte]; rfl)

theorem exec_accountSetLimit_belowUsed (used : (s.account a).state ≠ .unused)
    (below : (s.account a).belowUsed l = true) :
    exec (.accountSetLimit f slot limit) s = .next (s.answered f 0x31 .belowUsed .empty) :=
  next_judged hs.1 hf rfl (.inr hs.2)
    (by simp only [accountOf_eq index, named, heard_account, used, below, ↓reduceIte]; rfl)

theorem exec_accountSetLimit_set (used : (s.account a).state ≠ .unused)
    (above : ¬ (s.account a).belowUsed l = true) :
    exec (.accountSetLimit f slot limit) s = .next { s.answered f 0x31 .ok .empty with
      accounts := s.accounts.set a { s.account a with limit := l } } :=
  next_judged hs.1 hf rfl (.inr hs.2)
    (by simp only [accountOf_eq index, named, heard_account, used, above, ↓reduceIte]; rfl)

end

variable (hf : wholeFrame f 1)
include hf

/-- R121 to R124: the commands on a slot find none that is UNUSED. -/
theorem exec_account_notFound (unused : (s.account a).state = .unused) :
    exec (.accountResetUsage f slot) s = .next (s.answered f 0x32 .notFound .empty)
      ∧ exec (.accountClearCounters f slot) s = .next (s.answered f 0x33 .notFound .empty)
      ∧ exec (.accountResume f slot) s = .next (s.answered f 0x35 .notFound .empty)
      ∧ (a ≠ 0 → exec (.accountSuspend f slot) s = .next (s.answered f 0x34 .notFound .empty)
        ∧ exec (.accountDelete f slot) s = .next (s.answered f 0x36 .notFound .empty)) := by
  refine ⟨?_, ?_, ?_, fun other => ⟨?_, ?_⟩⟩
  · exact next_judged hs.1 hf rfl (.inr hs.2) (by simp only [accountOf_eq index, heard_account, unused, ↓reduceIte]; rfl)
  · exact next_judged hs.1 hf rfl (.inr hs.2) (by simp only [accountOf_eq index, heard_account, unused, ↓reduceIte]; rfl)
  · exact next_judged hs.1 hf rfl (.inr hs.2) (by simp only [accountOf_eq index, heard_account, unused, ↓reduceIte]; rfl)
  · exact next_judged hs.1 hf rfl (.inr hs.2)
      (by simp only [accountOf_eq index, heard_account, other, unused, ↓reduceIte]; rfl)
  · exact next_judged hs.1 hf rfl (.inr hs.2)
      (by simp only [accountOf_eq index, heard_account, other, unused, ↓reduceIte]; rfl)

/-- R123, R124: the walk-up account is neither suspended nor deleted. -/
theorem exec_account_of_walkUp (walkUp : a = 0) :
    exec (.accountSuspend f slot) s = .next (s.answered f 0x34 .state .empty)
      ∧ exec (.accountDelete f slot) s = .next (s.answered f 0x36 .state .empty) :=
  ⟨next_judged hs.1 hf rfl (.inr hs.2) (by simp only [accountOf_eq index, walkUp, ↓reduceIte]; rfl),
    next_judged hs.1 hf rfl (.inr hs.2) (by simp only [accountOf_eq index, walkUp, ↓reduceIte]; rfl)⟩

variable (used : (s.account a).state ≠ .unused)
include used

theorem exec_accountResetUsage_reset :
    exec (.accountResetUsage f slot) s = .next { s.answered f 0x32 .ok .empty with
      accounts := s.accounts.set a { s.account a with used := 0 } } :=
  next_judged hs.1 hf rfl (.inr hs.2) (by simp only [accountOf_eq index, heard_account, used, ↓reduceIte]; rfl)

theorem exec_accountClearCounters_cleared :
    exec (.accountClearCounters f slot) s = .next { s.answered f 0x33 .ok .empty with
      accounts := s.accounts.set a { s.account a with counters := {} } } :=
  next_judged hs.1 hf rfl (.inr hs.2) (by simp only [accountOf_eq index, heard_account, used, ↓reduceIte]; rfl)

theorem exec_accountResume_resumed :
    exec (.accountResume f slot) s = .next { s.answered f 0x35 .ok .empty with
      accounts := s.accounts.set a { s.account a with state := .active } } :=
  next_judged hs.1 hf rfl (.inr hs.2) (by simp only [accountOf_eq index, heard_account, used, ↓reduceIte]; rfl)

variable (other : a ≠ 0)
include other

theorem exec_accountSuspend_suspended :
    exec (.accountSuspend f slot) s = .next { s.answered f 0x34 .ok .empty with
      accounts := s.accounts.set a { s.account a with state := .suspended } } :=
  next_judged hs.1 hf rfl (.inr hs.2)
    (by simp only [accountOf_eq index, heard_account, other, used, ↓reduceIte]; rfl)

theorem exec_accountDelete_busy (kept : s.livePagesOf a ≠ 0 ∨ s.isScanAccount a = true) :
    exec (.accountDelete f slot) s = .next (s.answered f 0x36 .busy .empty) :=
  next_judged hs.1 hf rfl (.inr hs.2) (by
    simp only [accountOf_eq index, heard_account, heard_livePagesOf, heard_isScanAccount, other, used,
      kept, ↓reduceIte]
    rfl)

theorem exec_accountDelete_deleted (free : ¬ (s.livePagesOf a ≠ 0 ∨ s.isScanAccount a = true)) :
    exec (.accountDelete f slot) s = .next { s.answered f 0x36 .ok .empty with accounts := s.accounts.set a {} } :=
  next_judged hs.1 hf rfl (.inr hs.2) (by
    simp only [accountOf_eq index, heard_account, heard_livePagesOf, heard_isScanAccount, other, used,
      free, ↓reduceIte]
    rfl)

end

end

/-- Settles O32, command by command: the slot is found, and its state, its limit or what is billed to it decides. -/
theorem accountCommandsSetSlots : Obligations.AccountCommandsSetSlots := by
  refine ⟨fun s f id limit hs hf => ⟨fun above numeric => ?_, fun named => ⟨fun full => ?_, fun a unused lowest => ?_⟩⟩,
    fun s f slot limit l a hs index => ⟨fun hf named => ⟨fun unused => ?_, fun used above => ?_, fun used below => ?_⟩,
      fun hf => ⟨fun used => ⟨?_, ?_⟩, fun unused => ?_⟩⟩,
    fun s f slot a hs hf index => ⟨fun walkUp => ?_, fun unused => ?_, fun used => ⟨?_, fun other => ?_,
      fun other kept => ?_, fun other unscanned unbilled => ?_⟩⟩⟩
  · exact exec_accountCreate_badArgument hs hf (limitOf_eq_none above numeric)
  · exact exec_accountCreate_noRoom hs hf (limitOf_eq_some named) (unusedAccount_eq_none full)
  · exact exec_accountCreate_created hs hf (limitOf_eq_some named) (unusedAccount_eq_some unused lowest)
  · exact exec_accountSetLimit_notFound hs index hf named unused
  · refine exec_accountSetLimit_set hs index hf named used (mt belowUsed_iff.mp ?_)
    rintro ⟨n, numeric, below⟩
    exact absurd (above n numeric) (by omega)
  · exact exec_accountSetLimit_belowUsed hs index hf named used (belowUsed_iff.mpr below)
  · exact exec_accountResetUsage_reset hs index hf used
  · exact exec_accountClearCounters_cleared hs index hf used
  · obtain ⟨resetUsage, clearCounters, -, -⟩ := exec_account_notFound hs index hf unused
    exact ⟨resetUsage, clearCounters⟩
  · exact exec_account_of_walkUp hs index hf walkUp
  · obtain ⟨-, -, resume, rest⟩ := exec_account_notFound hs index hf unused
    exact ⟨resume, rest⟩
  · exact exec_accountResume_resumed hs index hf used
  · exact exec_accountSuspend_suspended hs index hf used other
  · exact exec_accountDelete_busy hs index hf used other
      (kept.symm.imp livePagesOf_ne_zero_iff.mpr isScanAccount_iff.mpr)
  · refine exec_accountDelete_deleted hs index hf used other (not_or.mpr ⟨?_, ?_⟩)
    · exact mt livePagesOf_ne_zero_iff.mp unbilled
    · exact mt isScanAccount_iff.mp unscanned

/-! ## Commits as events -/

theorem mapVec_eq_ofFn {α β : Type} {n : Nat} (g : α → β) (v : Vector α n) :
    mapVec g v = Vector.ofFn (fun k : Fin n => g v[k]) := by
  ext k less
  rw [Vector.getElem_ofFn]
  exact mapVec_getElem g v ⟨k, less⟩

/-- R131, R174: the copy of a commit, entry by entry. -/
theorem snapshot_eq (s : State) : s.snapshot =
    { number := s.nv.nextNumber
      meter := s.meter
      accounts := Vector.ofFn (fun a : Fin 128 =>
        ⟨(s.account a).state, (s.account a).id, (s.account a).limit, (s.account a).used, (s.account a).counters⟩)
      debits := Vector.ofFn (fun k : Fin 4 => debtOf (s.slot k) (s.gauge k))
      carry := s.carry } := by
  have slots : (⟨#[0, 1, 2, 3], rfl⟩ : Vector Colour 4) = Vector.ofFn id := rfl
  simp only [State.snapshot, mapVec_eq_ofFn, slots, Fin.getElem_fin, Vector.getElem_ofFn]
  rfl

section

variable {s : State}

theorem triggerCommit_of_idle (idle : s.commit.inFlight = none) (c : Cause) :
    s.triggerCommit c = s.startCommit c.bits := by
  simp only [State.triggerCommit, idle]

theorem triggerCommit_of_inFlight {j : CommitJob} (copying : s.commit.inFlight = some j) (c : Cause) :
    s.triggerCommit c =
      { s with commit := { s.commit with remembered := some (s.commit.remembered.getD 0 ||| c.bits) } } := by
  simp only [State.triggerCommit, copying]

theorem startRemembered_of_none (none : s.commit.remembered = none) : s.startRemembered = s := by
  simp only [State.startRemembered, none]

theorem startRemembered_of_some {causes : BitVec 5} (remembered : s.commit.remembered = some causes) :
    s.startRemembered = { s with commit := { s.commit with remembered := none } }.startCommit causes := by
  simp only [State.startRemembered, remembered]

/-- The state in which a commit in flight has ended, before the remembered one starts (R134). -/
def commitEnded (s : State) (j : CommitJob) (b : Bank) (r : CommitResult) (since : Nat) (n : Notice) : State :=
  { s with
    nv := s.nv.setBank j.bank b
    commit := { s.commit with inFlight := none, last := some r, since := since } }.note n

theorem commitDone_of_inFlight {j : CommitJob} (copying : s.commit.inFlight = some j) :
    s.commitDone = (commitEnded s j (.holds j.snapshot) .done s.commit.since
      (.commitDone j.snapshot.number j.causes)).startRemembered := by
  simp only [State.commitDone, copying]
  rfl

theorem commitFailed_of_inFlight {j : CommitJob} (copying : s.commit.inFlight = some j) :
    s.commitFailed = (commitEnded s j .blank .failed (min 1024 (s.commit.since + j.foundSince))
      (.commitFailed j.snapshot.number j.causes)).startRemembered := by
  simp only [State.commitFailed, copying]
  rfl

section

variable {f : Frame} (hs : s.ready) (hf : wholeFrame f 0)
include hs hf

/-- R133: an accepted COMMIT starts a commit with cause COMMAND. -/
theorem exec_commit_started (idle : s.commit.inFlight = none) :
    exec (.commit f) s = .next { s.answered f 0x39 .ok .empty with
      commit := { s.commit with
        inFlight := some { snapshot := s.snapshot, causes := 1, foundSince := s.commit.since, bank := s.nv.target }
        since := 0 }
      nv := s.nv.setBank s.nv.target .badCheck } :=
  next_judged hs.1 hf rfl (.inr hs.2) (by simp only [heard_commit, idle]; rfl)

theorem exec_commit_busy {j : CommitJob} (copying : s.commit.inFlight = some j) :
    exec (.commit f) s = .next (s.answered f 0x39 .busy .empty) :=
  next_judged hs.1 hf rfl (.inr hs.2) (by simp only [heard_commit, copying]; rfl)

end

variable (on : s.powered = true)
include on

section

variable {j : CommitJob} (copying : s.commit.inFlight = some j)
include copying

theorem exec_commitEnd_done (none : s.commit.remembered = none) :
    exec (.commitEnd true) s = .next { s.driving [] with
      nv := s.nv.setBank j.bank (.holds j.snapshot)
      commit := { s.commit with inFlight := .none, last := some .done }
      notices := pushNotice s.notices (.commitDone j.snapshot.number j.causes) } := by
  have ends := (commitDone_of_inFlight (s := s.driving []) copying).trans (startRemembered_of_none none)
  exact congrArg Host.Outcome.next (event_of_powered on ends)

theorem exec_commitEnd_failed (none : s.commit.remembered = none) :
    let failed : State := { s.driving [] with
      nv := s.nv.setBank j.bank .blank
      commit := { s.commit with
        inFlight := .none, last := some .failed, since := min 1024 (s.commit.since + j.foundSince) }
      notices := pushNotice s.notices (.commitFailed j.snapshot.number j.causes) }
    exec (.commitEnd false) s = .next failed ∧ exec .commitTimeout s = .next failed := by
  have ends := (commitFailed_of_inFlight (s := s.driving []) copying).trans (startRemembered_of_none none)
  exact ⟨congrArg Host.Outcome.next (event_of_powered on ends), congrArg Host.Outcome.next (event_of_powered on ends)⟩

/-- R133: the remembered causes start one commit as the first ends, with a copy of the meter as it then is. -/
theorem exec_commitEnd_remembered {causes : BitVec 5} (remembered : s.commit.remembered = some causes) :
    ∃ t job, exec (.commitEnd true) s = .next t ∧ t.commit.inFlight = some job ∧ job.causes = causes
      ∧ t.commit.remembered = none ∧ job.snapshot.meter = s.meter ∧ t.commit.since = 0 := by
  have ends := (commitDone_of_inFlight (s := s.driving []) copying).trans (startRemembered_of_some remembered)
  exact ⟨_, _, congrArg Host.Outcome.next (event_of_powered on ends), rfl, rfl, rfl, rfl, rfl⟩

theorem exec_pfailAssert_remembered (low : s.pins.pfail = false) :
    exec .pfailAssert s = .next { s.driving [] with
      pins := { s.pins with pfail := true }
      commit := { s.commit with remembered := some (s.commit.remembered.getD 0 ||| 4) } } := by
  have triggers := triggerCommit_of_inFlight (s := (s.driving []).setPfail true) copying .pfail
  refine congrArg Host.Outcome.next (event_of_quiet (s := s.setPfail true) on ?_ rfl)
  rw [low]
  exact triggers

end

/-- R132: PFAIL rising starts a commit where none is in flight. -/
theorem exec_pfailAssert_started (low : s.pins.pfail = false) (idle : s.commit.inFlight = none) :
    exec .pfailAssert s = .next (((s.driving []).setPfail true).startCommit 4) := by
  have triggers := triggerCommit_of_idle (s := (s.driving []).setPfail true) idle .pfail
  refine congrArg Host.Outcome.next (event_of_quiet (s := s.setPfail true) on ?_ rfl)
  rw [low]
  exact triggers

theorem exec_pfailAssert_high (high : s.pins.pfail = true) : exec .pfailAssert s = .next (s.driving []) := by
  have same : s.setPfail true = s := high ▸ rfl
  refine congrArg Host.Outcome.next ?_
  rw [same, high]
  exact event_of_quiet on rfl rfl

theorem exec_pfailDeassert_powered :
    exec .pfailDeassert s = .next { s.driving [] with pins := { s.pins with pfail := false } } :=
  congrArg Host.Outcome.next (event_of_quiet (s := s.setPfail false) on rfl rfl)

end

/-- Settles O33: a commit's start, what it remembers while in flight, and its ends. -/
theorem commitsCopyAndEnd : Obligations.CommitsCopyAndEnd := by
  refine ⟨fun s f j => ⟨fun hs hf idle => ?_, fun hs hf copying => ?_, fun on copying none => ⟨?_, ?_⟩⟩,
    fun s j causes on copying => ⟨fun low => ?_, fun remembered => ?_⟩,
    fun s on => ⟨fun low idle => ?_, fun high => ?_, ?_⟩⟩
  · rw [exec_commit_started hs hf idle, snapshot_eq]
  · exact exec_commit_busy hs hf copying
  · exact exec_commitEnd_done on copying none
  · exact exec_commitEnd_failed on copying none
  · exact exec_pfailAssert_remembered on copying low
  · exact exec_commitEnd_remembered on copying remembered
  · exact ⟨_, _, exec_pfailAssert_started on low idle, rfl, rfl, rfl, rfl, rfl, rfl⟩
  · exact exec_pfailAssert_high on high
  · exact exec_pfailDeassert_powered on

/-! ## CONFIG_WRITE -/

theorem settingOf_eq_none {n : Byte} (above : 30 ≤ n.toNat) : settingOf n = none := by
  unfold settingOf
  split
  case h_18 => exact dif_neg (by omega)
  all_goals omega

section

variable {s : State}

/-- R200: a setting other than the policy and the commit interval is written, and nothing else comes of it. -/
theorem writeSetting_of_quiet {n : SettingName} (notPolicy : n ≠ .policy) (notInterval : n ≠ .commitInterval) (v : Nat) :
    ∃ c : Settings, s.writeSetting n (clampSetting n v) = { s with settings := c }
      ∧ c.get n = clampSetting n v ∧ ∀ m, m ≠ n → c.get m = s.settings.get m := by
  unfold State.writeSetting
  split
  next same => exact ⟨s.settings, rfl, same, fun _ _ => rfl⟩
  next =>
    refine ⟨s.settings.put n (clampSetting n v), ?_, get_put_clamped _ n v, fun m other => get_put_ne _ _ other⟩
    cases n with
    | policy => exact absurd rfl notPolicy
    | commitInterval => exact absurd rfl notInterval
    | _ => rfl

/-! ### The reprobe of the present slots -/

/-- The slot that the reprobe of a present slot leaves (R154). -/
def reprobedSlot (x : Slot) (reason : Reason) : Slot :=
  { x with state := .probing, message := newHello, lastReason := some reason }

theorem reprobeSlot_of_away {k : Colour} (away : (s.slot k).presence ≠ .present) (reason : Reason) :
    s.reprobeSlot k reason = s :=
  if_pos away

theorem reprobeSlot_slots_of_present {k : Colour} (present : (s.slot k).presence = .present) (reason : Reason) :
    (s.reprobeSlot k reason).slots = s.slots.set k (reprobedSlot (s.slot k) reason) := by
  unfold State.reprobeSlot
  rw [if_neg (not_not.mpr present)]
  split
  next probing =>
    simp only [State.setSlot, reprobedSlot, ← probing]
  next =>
    rw [changeSlot_of_no_record rfl]
    simp [State.setSlot, changedSlot, reprobedSlot]

/-- A slot after the reprobe of one. -/
theorem reprobeSlot_slot (j k : Colour) (reason : Reason) : (s.reprobeSlot k reason).slot j =
    if j = k ∧ (s.slot j).presence = .present then reprobedSlot (s.slot j) reason else s.slot j := by
  by_cases present : (s.slot k).presence = .present
  · have written := slot_congr (t := s.reprobeSlot k reason)
      (s := s.setSlot k (reprobedSlot (s.slot k) reason)) (reprobeSlot_slots_of_present present reason) j
    rw [written, State.slot_setSlot_eq]
    by_cases same : j = k
    · subst same
      simp [present]
    · simp [same, Ne.symm same]
  · rw [reprobeSlot_of_away present]
    split
    next both =>
      obtain ⟨rfl, there⟩ := both
      exact absurd there present
    next => rfl

theorem foldl_reprobeSlot_slot (l : List Colour) (s : State) (j : Colour) (reason : Reason) :
    (l.foldl (State.reprobeSlot · · reason) s).slot j =
      if j ∈ l ∧ (s.slot j).presence = .present then reprobedSlot (s.slot j) reason else s.slot j := by
  induction l generalizing s with
  | nil => simp
  | cons k l ih =>
    rw [List.foldl_cons, ih, reprobeSlot_slot]
    by_cases present : (s.slot j).presence = .present
    · obtain rfl | other := eq_or_ne j k
      · simp [reprobedSlot, present]
      · simp [present, other]
    · simp [present]

/-- R154: the reprobe of every present slot takes each to PROBING with a HELLO, and leaves the others. -/
theorem reprobeAll_slot (j : Colour) (reason : Reason) : (s.reprobeAll reason).slot j =
    if (s.slot j).presence = .present then reprobedSlot (s.slot j) reason else s.slot j :=
  (foldl_reprobeSlot_slot (List.finRange 4) s j reason).trans (by simp)

theorem policyChanged_slot (j : Colour) : s.policyChanged.slot j =
    if (s.slot j).presence = .present then reprobedSlot (s.slot j) .policy else s.slot j :=
  (slot_congr (by simp [State.policyChanged]) j).trans (reprobeAll_slot j .policy)

/-! ### The policy and the commit interval -/

theorem closeEvent_answer_settings (s : State) (code : Nat) (st : Status) (d : RespData) :
    (closeEvent (s.answer code st d)).settings = s.settings := rfl

theorem closeEvent_answer_slots (s : State) (code : Nat) (st : Status) (d : RespData) :
    (closeEvent (s.answer code st d)).slots = s.slots := rfl

/-- R150, R200: STRICT written to PERMISSIVE. -/
theorem writeSetting_permissive (strict : s.settings.policy = .strict) {v : Nat} (set : v ≠ 0) :
    s.writeSetting .policy (clampSetting .policy v) =
      { s with settings := { s.settings with policy := .permissive } }.policyChanged := by
  have clamped : clampSetting .policy v = 1 := (clampTo_flag v).trans (if_neg set)
  have differs : s.settings.get .policy ≠ 1 := by simp [Settings.get, strict, Policy.code]
  rw [clamped, State.writeSetting, if_neg differs]
  rfl

/-- R132, R200: a commit interval in its range, written at or below the count with no commit in flight. -/
theorem writeSetting_commitInterval {v : Nat} (least : 1 ≤ v) (most : v ≤ 1024) (reached : v ≤ s.commit.since)
    (differs : v ≠ s.settings.commitInterval) (idle : s.commit.inFlight = none) :
    s.writeSetting .commitInterval (clampSetting .commitInterval v) =
      { s with settings := { s.settings with commitInterval := v } }.startCommit 2 := by
  have clamped : clampSetting .commitInterval v = v := by
    simp only [clampSetting, clampTo]
    split_ifs <;> omega
  have other : s.settings.get .commitInterval ≠ v := Ne.symm differs
  have triggers := triggerCommit_of_idle (s := { s with settings := { s.settings with commitInterval := v } }) idle
    .interval
  rw [clamped, State.writeSetting, if_neg other]
  exact (if_pos (decide_eq_true reached)).trans triggers

end

section

variable {s : State} {f : Frame} (hs : s.ready) (hf : wholeFrame f 5)
include hs hf

theorem exec_configWrite_badArgument {n : Byte} (v : BitVec 32) (unnamed : settingOf n = none) :
    exec (.configWrite f n v) s = .next (s.answered f 0x61 .badArgument .empty) :=
  next_judged hs.1 hf rfl (.inr hs.2) (by simp only [unnamed]; rfl)

/-- R200: a setting that is named is written, and the answer gives the value and whether it was clamped. -/
theorem exec_configWrite_written {n : Byte} {name : SettingName} (v : BitVec 32) (named : settingOf n = some name)
    {t : State} (writes : (heard s f).writeSetting name (clampSetting name v.toNat) = t) :
    let written := clampSetting name v.toNat
    exec (.configWrite f n v) s =
      .next (closeEvent (t.answer 0x61 .ok (.settingWritten written (written != v.toNat)))) :=
  next_judged hs.1 hf rfl (.inr hs.2) (by simp only [named, writes])

/-- R150, R200: PERMISSIVE written over STRICT reprobes every present slot. -/
theorem exec_configWrite_permissive {v : BitVec 32} (strict : s.settings.policy = .strict) (set : v.toNat ≠ 0) :
    ∃ t, exec (.configWrite f 15 v) s = .next t ∧ t.settings = { s.settings with policy := .permissive }
      ∧ ∀ k, t.slot k = if (s.slot k).presence = .present then reprobedSlot (s.slot k) .policy else s.slot k := by
  refine ⟨_, exec_configWrite_written hs hf v (n := 15) rfl
    (writeSetting_permissive (s := heard s f) strict set), ?_, fun k => ?_⟩
  · rw [closeEvent_answer_settings]
    simp
  · refine (slot_congr (closeEvent_answer_slots _ _ _ _) k).trans ?_
    exact policyChanged_slot (s := { heard s f with settings := { s.settings with policy := .permissive } }) k

end

/-- Settles O44: the setting is written in its range, and the policy reprobes, the commit interval commits. -/
theorem settingsAreWritten : Obligations.SettingsAreWritten := by
  refine ⟨fun s f n v hs hf => ⟨fun above => ?_, fun name named notPolicy notInterval => ?_⟩,
    fun s f v hs hf => ⟨fun strict set => ?_, fun least reached most differs idle => ?_⟩⟩
  · exact exec_configWrite_badArgument hs hf v (settingOf_eq_none above)
  · obtain ⟨c, writes, same, others⟩ := writeSetting_of_quiet (s := heard s f) notPolicy notInterval v.toNat
    exact ⟨c, exec_configWrite_written hs hf v named writes, same, others⟩
  · have nonzero : v.toNat ≠ 0 := fun zero => set (BitVec.eq_of_toNat_eq zero)
    obtain ⟨t, run, settings, slot⟩ := exec_configWrite_permissive hs hf strict nonzero
    refine ⟨t, run, settings, fun k present => ?_, fun k away => (slot k).trans (if_neg away)⟩
    rw [slot, if_pos present]
    exact ⟨rfl, rfl, rfl⟩
  · exact ⟨_, _, exec_configWrite_written hs hf v (n := 14) rfl
      (writeSetting_commitInterval (s := heard s f) least most reached differs idle), rfl, rfl, rfl, rfl, rfl⟩

end Sys2Proof.Machine.MeterAndCommits
end

section
/-! SUPPORT. Cartridge messages: what a change of a slot's state leaves, what a failed attempt and each reply come to,
and the proofs of the statements on attempts, replies and CART_REPROBE. -/

namespace Sys2Proof.Machine.CartridgeMessages

open Sys2Proof Sys2Proof.Machine Sys2Proof.Machine.WindowsAndKeys Sys2Proof.Machine.CipherAndQueue
  Sys2Proof.Machine.ReadsAndPorts Sys2Proof.Machine.PrintPages Sys2Proof.Machine.ChargeAndAccounts
  Sys2Proof.Machine.MeterAndCommits

/-! ## Slots with a gauge and slots without -/

/-- The states for which a slot's gauge holds an amount of toner (R140, R162, R171). -/
def gauged : SlotState → Bool
  | .genuine _ | .foreign _ => true
  | _ => false

section

variable {s : State} {j k : Colour}

theorem capacity_of_ungauged (bare : gauged (s.slot k).state = false) : s.capacity k = none := by
  unfold State.capacity
  cases slot : (s.slot k).state with
  | genuine | foreign => simp [slot, gauged] at bare
  | _ => rfl

theorem depleted_of_ungauged (bare : gauged (s.slot k).state = false) : s.depleted k = false := by
  unfold State.depleted
  cases slot : (s.slot k).state with
  | genuine | foreign => simp [slot, gauged] at bare
  | _ => rfl

theorem lowMarkCheck_of_ungauged (bare : gauged (s.slot k).state = false) : s.lowMarkCheck k = s := by
  rw [State.lowMarkCheck, capacity_of_ungauged bare]

/-- R165: only a GENUINE slot posts. -/
theorem postIfDue_of_not_genuine (other : ∀ r, (s.slot k).state ≠ .genuine r) : s.postIfDue k = s := by
  unfold State.postIfDue
  split
  next r slot _ => exact absurd slot (other r)
  next => rfl

theorem postIfDue_of_ungauged (bare : gauged (s.slot k).state = false) : s.postIfDue k = s :=
  postIfDue_of_not_genuine fun r slot => by simp [slot, gauged] at bare

theorem departGauge_of_ungauged (bare : gauged (s.slot k).state = false) : s.departGauge k = s := by
  unfold State.departGauge
  cases slot : (s.slot k).state with
  | genuine | foreign => simp [slot, gauged] at bare
  | _ => rfl

theorem enterGauge_of_ungauged {y : SlotState} (bare : gauged y = false) : s.enterGauge k y = s := by
  cases y with
  | genuine | foreign => cases bare
  | _ => rfl

/-- R163: a gauge that its slot leaves keeps nothing but the low-mark serial. -/
theorem departGauge_gauge (held : gauged (s.slot k).state = true) :
    (s.departGauge k).gauge k = { lowSerial := (s.gauge k).lowSerial } := by
  unfold State.departGauge
  cases slot : (s.slot k).state with
  | genuine | foreign => exact State.gauge_setGauge _ _ _
  | _ => simp [slot, gauged] at held

theorem departGauge_sameAt (other : j ≠ k) : sameAt j s (s.departGauge k) := by
  refine ⟨?_, slot_congr (by simp) j⟩
  unfold State.departGauge
  split
  · exact (State.gauge_setGauge_ne _ _ other.symm).trans (gauge_congr (by simp) j)
  · exact State.gauge_setGauge_ne _ _ other.symm
  · rfl

theorem enterGauge_sameAt (y : SlotState) (other : j ≠ k) : sameAt j s (s.enterGauge k y) := by
  refine ⟨?_, slot_congr (by simp) j⟩
  cases y with
  | genuine r => exact State.gauge_setGauge_ne _ _ other.symm
  | foreign r => exact State.gauge_setGauge_ne _ _ other.symm
  | _ => rfl

/-- R163, R170: what leaving GENUINE adds to the carry list. -/
theorem departedFrom_of_carry {t : State} {r : Record} (slot : (s.slot k).state = .genuine r)
    (carry : t.carry = (s.departGauge k).carry) : t.departedFrom s k r := by
  intro room
  rw [carry, departGauge_of_genuine slot room]
  rfl

/-! ## The change of a slot's state -/

theorem postIfDue_state : ((s.postIfDue k).slot k).state = (s.slot k).state := by
  unfold State.postIfDue State.sendDebit
  (repeat' split)
  · rw [State.slot_setSlot]
  all_goals rfl

/-- R165: with nothing owed no posting begins. -/
theorem postIfDue_of_settled (settled : (s.gauge k).pending = 0) : s.postIfDue k = s := by
  unfold State.postIfDue
  split
  next => exact if_neg fun due => by omega
  next => rfl

theorem lowMarkCheck_posting : ((s.lowMarkCheck k).gauge k).posting = (s.gauge k).posting := by
  unfold State.lowMarkCheck
  (repeat' split)
  · rw [State.gauge_note, State.gauge_setGauge]
  all_goals rfl

/-- The state in which a slot has left its old state and entered its new one, with the pages not yet judged anew
(R151). -/
def entered (s : State) (k : Colour) (y : SlotState) (reason : Reason) (m : Option Message) : State :=
  ((s.departGauge k).setSlot k (changedSlot (s.slot k) y reason m)).enterGauge k y

/-- The notice of a change of state (R157, log 39). -/
def changeNotice (s : State) (k : Colour) (y : SlotState) (reason : Reason) (m : Option Message) : Notice :=
  .cartState k (s.slot k).state.code y.code reason (y.record.map (·.serial))
    ((entered s k y reason m).rejudge.depleted k)

/-- The state in which a slot has changed its state, before a posting that may be due (R151). -/
def changed (s : State) (k : Colour) (y : SlotState) (reason : Reason) (m : Option Message) : State :=
  ((entered s k y reason m).rejudge.note (changeNotice s k y reason m)).lowMarkCheck k

variable {y : SlotState} {reason : Reason} {m : Option Message}

theorem entered_slot : (entered s k y reason m).slot k = changedSlot (s.slot k) y reason m :=
  (slot_congr (by simp [entered]) k).trans (State.slot_setSlot (s.departGauge k) k _)

theorem changed_slot : (changed s k y reason m).slot k = changedSlot (s.slot k) y reason m :=
  (slot_congr (by simp [changed]) k).trans entered_slot

theorem changed_gauge : Gauge.agrees ((entered s k y reason m).gauge k) ((changed s k y reason m).gauge k) := by
  have judged : ((entered s k y reason m).rejudge.note (changeNotice s k y reason m)).gauge k =
      (entered s k y reason m).gauge k := gauge_congr (by simp) k
  exact judged ▸ lowMarkCheck_gauge _

theorem changed_posting :
    ((changed s k y reason m).gauge k).posting = ((entered s k y reason m).gauge k).posting :=
  lowMarkCheck_posting

theorem changed_carry : (changed s k y reason m).carry = (entered s k y reason m).carry := by
  simp [changed]

theorem changeSlot_eq : s.changeSlot k y reason m = (changed s k y reason m).postIfDue k := by
  have same : (s.departGauge k).slot k = s.slot k := slot_congr (by simp) k
  rw [State.changeSlot, same]
  rfl

theorem changeSlot_of_not_genuine (other : ∀ r, y ≠ .genuine r) :
    s.changeSlot k y reason m = changed s k y reason m := by
  rw [changeSlot_eq, postIfDue_of_not_genuine]
  rw [changed_slot]
  exact other

/-- R151: of a state without a gauge, its entry is the new slot, the pages judged anew and the notice. -/
theorem changeSlot_to_ungauged (bare : gauged y = false) : s.changeSlot k y reason m =
    (((s.departGauge k).setSlot k (changedSlot (s.slot k) y reason m)).rejudge).note
      (.cartState k (s.slot k).state.code y.code reason (y.record.map (·.serial)) false) := by
  have there : gauged (((entered s k y reason m).rejudge).slot k).state = false :=
    (congrArg (fun x => gauged x.state) entered_slot).trans bare
  rw [changeSlot_of_not_genuine (fun r same => by simp [same, gauged] at bare), changed, changeNotice,
    depleted_of_ungauged there, lowMarkCheck_of_ungauged, entered, enterGauge_of_ungauged bare]
  exact there

theorem changeSlot_ungauged (left : gauged (s.slot k).state = false) (bare : gauged y = false) :
    s.changeSlot k y reason m = ((s.setSlot k (changedSlot (s.slot k) y reason m)).rejudge).note
      (.cartState k (s.slot k).state.code y.code reason (y.record.map (·.serial)) false) := by
  rw [changeSlot_to_ungauged bare, departGauge_of_ungauged left]

theorem changeSlot_state : ((s.changeSlot k y reason m).slot k).state = y := by
  rw [changeSlot_eq, postIfDue_state, changed_slot]
  rfl

theorem changeSlot_slot_of_not_genuine (other : ∀ r, y ≠ .genuine r) :
    (s.changeSlot k y reason m).slot k = changedSlot (s.slot k) y reason m := by
  rw [changeSlot_of_not_genuine other, changed_slot]

theorem entered_sameAt (other : j ≠ k) : sameAt j s (entered s k y reason m) := by
  have written (t : State) (x : Slot) : sameAt j t (t.setSlot k x) := ⟨rfl, State.slot_setSlot_ne t x other.symm⟩
  unfold entered
  exact sameAt_trans (sameAt_trans (departGauge_sameAt other) (written _ _)) (enterGauge_sameAt y other)

theorem changed_sameAt (other : j ≠ k) : sameAt j s (changed s k y reason m) := by
  refine sameAt_trans (entered_sameAt (y := y) (reason := reason) (m := m) other) ⟨?_, slot_congr (by simp [changed]) j⟩
  rw [changed, lowMarkCheck_gauge_ne _ other]
  rfl

theorem changeSlot_sameAt (other : j ≠ k) : sameAt j s (s.changeSlot k y reason m) :=
  changeSlot_eq ▸ sameAt_trans (changed_sameAt other) (postIfDue_sameAt _ other)

theorem changeSlot_carry (other : ∀ r, y ≠ .genuine r) :
    (s.changeSlot k y reason m).carry = (s.departGauge k).carry := by
  rw [changeSlot_of_not_genuine other, changed_carry, entered]
  cases y with
  | genuine r => exact absurd rfl (other r)
  | _ => rfl

theorem changeSlot_carry_of_ungauged (left : gauged (s.slot k).state = false) (other : ∀ r, y ≠ .genuine r) :
    (s.changeSlot k y reason m).carry = s.carry := by
  rw [changeSlot_carry other, departGauge_of_ungauged left]

theorem changeSlot_gauge_of_ungauged (bare : gauged y = false) :
    (s.changeSlot k y reason m).gauge k = (s.departGauge k).gauge k :=
  gauge_congr (by simp [changeSlot_to_ungauged bare]) k

/-- R171: the gauge of a slot that enters FOREIGN holds the foreign capacity, and owes nothing. -/
theorem changeSlot_foreign_gauge (r : Record) : Gauge.agrees { remaining := s.settings.foreignCapacity }
      ((s.changeSlot k (.foreign r) reason m).gauge k)
    ∧ ((s.changeSlot k (.foreign r) reason m).gauge k).posting = none := by
  have gauge : ∃ serial, (entered s k (.foreign r) reason m).gauge k =
      { remaining := s.settings.foreignCapacity, lowSerial := serial } :=
    ⟨keptLowSerial ((s.departGauge k).gauge k).lowSerial r.serial, (State.gauge_setGauge _ _ _).trans (by simp)⟩
  obtain ⟨serial, gauge⟩ := gauge
  rw [changeSlot_of_not_genuine (y := .foreign r) (fun _ => nofun), changed_posting, gauge]
  exact ⟨Gauge.agrees_trans (gauge ▸ ⟨rfl, rfl, rfl, rfl⟩) changed_gauge, rfl⟩

/-- R149, R162: a slot that enters GENUINE from a state without a gauge: L is the record's, P what the carry list owes
the cartridge, which leaves the list, and where P is above 0 its posting begins. -/
theorem changeSlot_genuine {r : Record} (left : gauged (s.slot k).state = false) :
    let t := s.changeSlot k (.genuine r) reason none
    let owed := carryAmount s.carry r.serial
    Gauge.agrees
        { remaining := r.remaining.toNat - owed, pending := owed, acked := r.remaining.toNat, sequence := r.sequence }
        (t.gauge k)
      ∧ t.carry = s.carry.filter (fun e => e.serial != r.serial)
      ∧ (owed = 0 → (t.slot k).message = none)
      ∧ (0 < owed → s.power ≠ .sleep →
        ∃ tag, (t.slot k).message = some ⟨.debit owed (r.sequence + 1) tag, 1, .sending⟩) := by
  intro t owed
  have enters : entered s k (.genuine r) reason none =
      (s.setSlot k (changedSlot (s.slot k) (.genuine r) reason none)).enterGauge k (.genuine r) := by
    rw [entered, departGauge_of_ungauged left]
  let u := changed s k (.genuine r) reason none
  have step : t = u.postIfDue k := changeSlot_eq
  have gauge : Gauge.agrees _ (u.gauge k) := changed_gauge
  rw [enters, State.enterGauge, State.gauge_setGauge] at gauge
  have agrees := Gauge.agrees_trans gauge (postIfDue_gauge u)
  obtain ⟨-, (pending : (u.gauge k).pending = owed), -, (sequence : (u.gauge k).sequence = r.sequence)⟩ := gauge
  have slot : u.slot k = changedSlot (s.slot k) (.genuine r) reason none := changed_slot
  have carry : u.carry = s.carry.filter (fun e => e.serial != r.serial) := by
    rw [changed_carry, enters]
    rfl
  have power : u.power = s.power := by simp [u, changed, entered]
  rw [step]
  refine ⟨agrees, ?_, fun free => ?_, fun owes awake => ?_⟩
  · simpa using carry
  · rw [postIfDue_of_settled (pending.trans free), slot]
    rfl
  · obtain ⟨tag, sent⟩ := postIfDue_message u (congrArg Slot.state slot) (congrArg Slot.message slot)
      (pending ▸ owes) (power ▸ awake)
    exact ⟨tag, by rw [sent, pending, sequence]⟩

end

/-! ## What the ends of an event leave alone -/

section

variable (s : State) (k : Colour)

@[simp] theorem closeEvent_slot : (closeEvent s).slot k = s.slot k := rfl
@[simp] theorem closeEvent_gauge : (closeEvent s).gauge k = s.gauge k := rfl
@[simp] theorem closeEvent_carry : (closeEvent s).carry = s.carry := rfl

variable (es : List Emission)

@[simp] theorem driving_gauge : (s.driving es).gauge k = s.gauge k := rfl

/-- What a slot that leaves GENUINE adds to the carry list does not depend on the event's ends. -/
theorem departedFrom_event {t s : State} {k : Colour} {r : Record} :
    (closeEvent t).departedFrom s k r ↔ t.departedFrom (s.driving []) k r :=
  Iff.rfl

end

/-! ## Requests and attempts (R143, R144) -/

section

variable {s : State} {k : Colour} {kind : MessageKind} {n : Nat} {phase : AttemptPhase}

theorem failAttempt_of_early (message : (s.slot k).message = some ⟨kind, n, phase⟩) (early : n < 3) :
    s.failAttempt k = s.setMessage k (some ⟨kind.dropNonce, n, .gap⟩) := by
  rw [State.failAttempt, message]
  exact if_pos early

theorem failAttempt_of_last (message : (s.slot k).message = some ⟨kind, 3, phase⟩) :
    s.failAttempt k = s.changeSlot k (.mute (s.slot k).state.record) kind.exhaustedReason none := by
  rw [State.failAttempt, message]
  rfl

section

variable (on : s.powered = true)
include on

/-- R143: the request frame goes out and the reply window starts. -/
theorem exec_cartRequestSent (sending : (s.slot k).message = some ⟨kind, n, .sending⟩) :
    exec (.cartRequestSent k) s = .next { s.driving [.cartFrame k (requestFrame kind)] with
      slots := s.slots.set k { s.slot k with message := some ⟨kind, n, .awaiting⟩ } } := by
  have message : ((s.driving []).slot k).message = some ⟨kind, n, .sending⟩ := sending
  exact congrArg Host.Outcome.next (event_of_quiet on (by rw [message]; rfl) rfl)

/-- R143: an attempt fails by a refused request. -/
theorem exec_cartRequestRefused {t : State} (sending : (s.slot k).message = some ⟨kind, n, .sending⟩)
    (fails : closeEvent ((s.driving []).failAttempt k) = t) : exec (.cartRequestRefused k) s = .next t := by
  have message : ((s.driving []).slot k).message = some ⟨kind, n, .sending⟩ := sending
  exact congrArg Host.Outcome.next ((event_of_powered on (by rw [message])).trans fails)

/-- R143: an attempt fails by the end of its reply window. -/
theorem exec_replyWindowExpiry {t : State} (awaiting : (s.slot k).message = some ⟨kind, n, .awaiting⟩)
    (fails : closeEvent ((s.driving []).failAttempt k) = t) : exec (.replyWindowExpiry k) s = .next t := by
  have message : ((s.driving []).slot k).message = some ⟨kind, n, .awaiting⟩ := awaiting
  exact congrArg Host.Outcome.next ((event_of_powered on (by rw [message])).trans fails)

/-- R144: the gap after a failed attempt ends with the next. -/
theorem exec_attemptGapExpiry (gap : (s.slot k).message = some ⟨kind, n, .gap⟩) :
    exec (.attemptGapExpiry k) s = .next (closeEvent ((s.driving []).nextAttempt k ⟨kind, n, .gap⟩)) := by
  have message : ((s.driving []).slot k).message = some ⟨kind, n, .gap⟩ := gap
  exact congrArg Host.Outcome.next (event_of_powered on (by rw [message]))

end

theorem nextAttempt_of_not_prove (other : ∀ nonce, kind ≠ .prove nonce) :
    s.nextAttempt k ⟨kind, n, phase⟩ = s.setMessage k (some ⟨kind, n + 1, .sending⟩) := by
  cases kind with
  | prove nonce => exact absurd rfl (other nonce)
  | _ => rfl

/-- R144: after attempts 1 and 2 the gap begins. -/
theorem closeEvent_failAttempt_of_early (message : (s.slot k).message = some ⟨kind, n, phase⟩) (early : n < 3) :
    closeEvent ((s.driving []).failAttempt k) = { s.driving [] with
      slots := s.slots.set k { s.slot k with message := some ⟨kind.dropNonce, n, .gap⟩ } } := by
  rw [failAttempt_of_early (s := s.driving []) message early]
  rfl

/-- A change between states without a gauge, as an event of its own. -/
theorem closeEvent_changeSlot_ungauged {x y : SlotState} (left : (s.slot k).state = x) (bare : gauged x = false)
    (bare' : gauged y = false) (reason : Reason) (m : Option Message) :
    closeEvent ((s.driving []).changeSlot k y reason m) =
      let moved : State := { s.driving [] with slots := s.slots.set k (changedSlot (s.slot k) y reason m) }
      { moved with
        pages := moved.rejudge.pages
        notices := pushNotice s.notices (.cartState k x.code y.code reason (y.record.map (·.serial)) false) } := by
  subst left
  rw [changeSlot_ungauged (s := s.driving []) bare bare']
  rfl

/-- R152: attempt 3 of identification or of a proof ends in MUTE, with the record that the slot holds. -/
theorem closeEvent_failAttempt_of_last {x : SlotState} (message : (s.slot k).message = some ⟨kind, 3, phase⟩)
    (left : (s.slot k).state = x) (bare : gauged x = false) :
    closeEvent ((s.driving []).failAttempt k) =
      let moved : State := { s.driving [] with
        slots := s.slots.set k (changedSlot (s.slot k) (.mute x.record) kind.exhaustedReason none) }
      { moved with
        pages := moved.rejudge.pages
        notices := pushNotice s.notices
          (.cartState k x.code .mute kind.exhaustedReason (x.record.map (·.serial)) false) } := by
  rw [failAttempt_of_last (s := s.driving []) message, closeEvent_changeSlot_ungauged left bare rfl]
  subst left
  rfl

/-- What a slot leaves that goes from GENUINE to MUTE (R163, R169, R170). -/
def mutedFrom (t s : State) (k : Colour) (r : Record) (reason : Reason) : Prop :=
  t.slot k = { s.slot k with state := .mute (some r), message := none, lastReason := some reason }
    ∧ t.gauge k = { lowSerial := (s.gauge k).lowSerial } ∧ t.departedFrom s k r
    ∧ (s.carry.length < 8 →
      t.notices = pushNotice s.notices (.cartState k .genuine .mute reason (some r.serial) false))
    ∧ ∀ j, j ≠ k → t.slot j = s.slot j ∧ t.gauge j = s.gauge j

theorem closeEvent_mute {r : Record} (slot : (s.slot k).state = .genuine r) (reason : Reason) :
    mutedFrom (closeEvent ((s.driving []).changeSlot k (.mute (some r)) reason none)) s k r reason := by
  have slot' : ((s.driving []).slot k).state = .genuine r := slot
  unfold mutedFrom
  simp only [closeEvent_slot, closeEvent_gauge, departedFrom_event]
  refine ⟨changeSlot_slot_of_not_genuine (s := s.driving []) (fun _ => nofun), ?_,
    departedFrom_of_carry slot' (changeSlot_carry (fun _ => nofun)), fun room => ?_, fun j other => ?_⟩
  · rw [changeSlot_gauge_of_ungauged rfl, departGauge_gauge (congrArg gauged slot'), driving_gauge]
  · rw [changeSlot_to_ungauged rfl, departGauge_of_genuine slot' (.inr (.inr room)), slot']
    rfl
  · exact (changeSlot_sameAt (s := s.driving []) other).symm

/-- R169: attempt 3 of a DEBIT, or of the HELLO that resynchronises, ends in MUTE. -/
theorem mutedFrom_of_last {r : Record} (message : (s.slot k).message = some ⟨kind, 3, phase⟩)
    (slot : (s.slot k).state = .genuine r)
    (debit : kind = .hello true ∨ ∃ amount seq tag, kind = .debit amount seq tag) :
    mutedFrom (closeEvent ((s.driving []).failAttempt k)) s k r .debitNoReply := by
  have exhausted : kind.exhaustedReason = .debitNoReply := by
    obtain rfl | ⟨amount, seq, tag, rfl⟩ := debit <;> rfl
  rw [failAttempt_of_last (s := s.driving []) message, exhausted, show ((s.driving []).slot k).state = _ from slot]
  exact closeEvent_mute slot .debitNoReply

end

/-! ## Reply frames (R142, R143) -/

section

variable {s : State} {k : Colour} {kind : MessageKind} {n : Nat} {frame tail ps : List Byte}

theorem delimitFrame_of_incomplete {bytes : List Byte}
    (short : bytes = [] ∨ ∃ (length : Byte) (rest : List Byte), bytes = length :: rest ∧ rest.length ≤ length.toNat) :
    delimitFrame bytes = none := by
  obtain rfl | ⟨length, rest, rfl, short⟩ := short
  · rfl
  · exact if_neg (by omega)

/-- R142, R143: a frame that is not good for the message in flight fails the attempt. -/
theorem judgeReply_of_bad (awaiting : (s.slot k).message = some ⟨kind, n, .awaiting⟩) (awaits : s.awaits k kind)
    (bad : goodPayload kind.replyForm.1 kind.replyForm.2 frame = none
      ∨ ((∃ amount seq tag, kind = .debit amount seq tag)
        ∧ ∃ ps, goodPayload 0x83 17 frame = some ps ∧ 2 ≤ (debitReplyOf ps).status.toNat)) :
    s.judgeReply k frame = s.failAttempt k := by
  unfold State.judgeReply
  rw [awaiting]
  cases kind with
  | hello resync =>
    have misfit : goodPayload 0x81 25 frame = none := bad.resolve_right (by simp)
    cases resync with
    | false => simp only [misfit]
    | true =>
      obtain ⟨⟨r, slot⟩, posting⟩ := awaits
      obtain ⟨p, posting⟩ := Option.ne_none_iff_exists'.mp posting
      simp only [slot, posting, misfit]
  | prove nonce =>
    have misfit : goodPayload 0x82 8 frame = none := bad.resolve_right (by simp)
    obtain ⟨drawn, r, slot⟩ := awaits
    obtain ⟨nonce, rfl⟩ := Option.ne_none_iff_exists'.mp drawn
    simp only [slot, misfit]
  | debit amount seq tag =>
    obtain ⟨⟨r, slot⟩, posting⟩ := awaits
    obtain ⟨p, posting⟩ := Option.ne_none_iff_exists'.mp posting
    obtain (misfit : goodPayload 0x83 17 frame = none) | ⟨-, ps, good, status⟩ := bad
    · simp only [slot, posting, misfit]
    · simp only [slot, posting, good]
      exact if_neg (by omega)

/-- R146: a good HELLO reply of identification. -/
theorem judgeReply_hello (awaiting : (s.slot k).message = some ⟨.hello false, n, .awaiting⟩)
    (good : goodPayload 0x81 25 frame = some ps) : s.judgeReply k frame = s.judgeHello k (recordOf ps) := by
  simp only [State.judgeReply, awaiting, good]

/-- R149: a good PROVE reply. -/
theorem judgeReply_prove {r : Record} {nonce : BitVec 128} (slot : (s.slot k).state = .proving r)
    (awaiting : (s.slot k).message = some ⟨.prove (some nonce), n, .awaiting⟩)
    (good : goodPayload 0x82 8 frame = some ps) :
    s.judgeReply k frame = s.judgeProve k r nonce (.ofNat 64 (fieldAt ps 0 8)) := by
  simp only [State.judgeReply, awaiting, slot, good]

section

variable {r : Record} {p : Posting} (slot : (s.slot k).state = .genuine r) (posting : (s.gauge k).posting = some p)
include slot posting

/-- R165: a good DEBIT reply. -/
theorem judgeReply_debit {amount : Nat} {seq : BitVec 32} {tag : BitVec 64}
    (awaiting : (s.slot k).message = some ⟨.debit amount seq tag, n, .awaiting⟩)
    (good : goodPayload 0x83 17 frame = some ps) (known : (debitReplyOf ps).status.toNat ≤ 1) :
    s.judgeReply k frame = s.judgeDebit k r p (debitReplyOf ps) := by
  simp only [State.judgeReply, awaiting, slot, posting, good]
  exact if_pos known

/-- R167: a good reply to a resynchronising HELLO. -/
theorem judgeReply_resync (awaiting : (s.slot k).message = some ⟨.hello true, n, .awaiting⟩)
    (good : goodPayload 0x81 25 frame = some ps) : s.judgeReply k frame = s.judgeResync k r p (recordOf ps) := by
  simp only [State.judgeReply, awaiting, slot, posting, good]

end

variable (on : s.powered = true)
include on

/-- R143: bytes that end a frame have it judged. -/
theorem next_reply {bytes : List Byte} {u : State} (ends : delimitFrame bytes = some frame)
    (judged : closeEvent ((s.driving []).judgeReply k frame) = u) :
    (.next (event (State.takeReply · k bytes) s) : Host.Outcome State Fault Refusal) = .next u :=
  congrArg _ ((event_of_powered on (by rw [State.takeReply, ends])).trans judged)

/-- R142, R143: a good frame is judged, whatever bytes follow it. -/
theorem next_good_reply {code : Byte} {length : Nat} {u : State} (good : goodPayload code length frame = some ps)
    (judged : (s.driving []).judgeReply k frame = u) :
    (.next (event (State.takeReply · k (frame ++ tail)) s) : Host.Outcome State Fault Refusal) = .next (closeEvent u) :=
  next_reply on (delimitFrame_of_goodPayload good) (congrArg closeEvent judged)

theorem exec_helloReply_identifying {u : State} (good : goodPayload 0x81 25 frame = some ps)
    (awaiting : (s.slot k).message = some ⟨.hello false, n, .awaiting⟩)
    (judged : (s.driving []).judgeHello k (recordOf ps) = u) :
    exec (.helloReply k (frame ++ tail)) s = .next (closeEvent u) :=
  next_good_reply on good ((judgeReply_hello (s := s.driving []) awaiting good).trans judged)

theorem exec_proveReply {u : State} {r : Record} {nonce : BitVec 128} (good : goodPayload 0x82 8 frame = some ps)
    (slot : (s.slot k).state = .proving r) (awaiting : (s.slot k).message = some ⟨.prove (some nonce), n, .awaiting⟩)
    (judged : (s.driving []).judgeProve k r nonce (.ofNat 64 (fieldAt ps 0 8)) = u) :
    exec (.proveReply k (frame ++ tail)) s = .next (closeEvent u) :=
  next_good_reply on good ((judgeReply_prove (s := s.driving []) slot awaiting good).trans judged)

theorem exec_debitReply {u : State} {r : Record} {p : Posting} {amount : Nat} {seq : BitVec 32} {tag : BitVec 64}
    (good : goodPayload 0x83 17 frame = some ps) (slot : (s.slot k).state = .genuine r)
    (posting : (s.gauge k).posting = some p)
    (awaiting : (s.slot k).message = some ⟨.debit amount seq tag, n, .awaiting⟩)
    (known : (debitReplyOf ps).status.toNat ≤ 1) (judged : (s.driving []).judgeDebit k r p (debitReplyOf ps) = u) :
    exec (.debitReply k (frame ++ tail)) s = .next (closeEvent u) :=
  next_good_reply on good ((judgeReply_debit (s := s.driving []) slot posting awaiting good known).trans judged)

theorem exec_helloReply_resyncing {u : State} {r : Record} {p : Posting} (good : goodPayload 0x81 25 frame = some ps)
    (slot : (s.slot k).state = .genuine r) (posting : (s.gauge k).posting = some p)
    (awaiting : (s.slot k).message = some ⟨.hello true, n, .awaiting⟩)
    (judged : (s.driving []).judgeResync k r p (recordOf ps) = u) :
    exec (.helloReply k (frame ++ tail)) s = .next (closeEvent u) :=
  next_good_reply on good ((judgeReply_resync (s := s.driving []) slot posting awaiting good).trans judged)

/-- R143: bytes of a frame that has not ended have no effect. -/
theorem next_incomplete_reply {bytes : List Byte} (incomplete : delimitFrame bytes = none) :
    (.next (event (State.takeReply · k bytes) s) : Host.Outcome State Fault Refusal) = .next (s.driving []) :=
  congrArg _ (event_of_quiet on (by rw [State.takeReply, incomplete]) rfl)

end

/-- Settles O38: the requests and attempts of a message, its exhaustion by what the slot leaves, and its bad frames. -/
theorem attemptsGoOn : Obligations.AttemptsGoOn := by
  refine ⟨fun s k kind n on sending => exec_cartRequestSent on sending,
    fun s k kind n on => ⟨fun sending early => ?_, fun awaiting early => ?_, fun probing sending => ?_,
      fun probing awaiting => ?_, fun r nonce phase proving message => ⟨?_, ?_⟩,
      fun r phase genuine message debit => ⟨?_, ?_⟩, fun gap other => ?_, fun gap => ?_⟩,
    fun s k kind n bytes frame on awaiting awaits ends bad => ?_, fun s k bytes on short => ?_⟩
  · exact exec_cartRequestRefused on sending (closeEvent_failAttempt_of_early sending early)
  · exact exec_replyWindowExpiry on awaiting (closeEvent_failAttempt_of_early awaiting early)
  · exact exec_cartRequestRefused on sending (closeEvent_failAttempt_of_last sending probing rfl)
  · exact exec_replyWindowExpiry on awaiting (closeEvent_failAttempt_of_last awaiting probing rfl)
  · rintro rfl
    exact exec_cartRequestRefused on message (closeEvent_failAttempt_of_last message proving rfl)
  · rintro rfl
    exact exec_replyWindowExpiry on message (closeEvent_failAttempt_of_last message proving rfl)
  · rintro rfl
    exact ⟨_, exec_cartRequestRefused on message rfl, mutedFrom_of_last message genuine debit⟩
  · rintro rfl
    exact ⟨_, exec_replyWindowExpiry on message rfl, mutedFrom_of_last message genuine debit⟩
  · rw [exec_attemptGapExpiry on gap, nextAttempt_of_not_prove other]
    rfl
  · exact exec_attemptGapExpiry on gap
  · have fails := exec_replyWindowExpiry on awaiting rfl
    have reply := next_reply on ends (congrArg closeEvent (judgeReply_of_bad (s := s.driving []) awaiting awaits bad))
    exact ⟨reply.trans fails.symm, reply.trans fails.symm, reply.trans fails.symm⟩
  · have ignored := next_incomplete_reply (k := k) on (delimitFrame_of_incomplete short)
    exact ⟨ignored, ignored, ignored⟩

/-! ## The reply to a HELLO of identification (R146 to R148) -/

section

variable {s : State} {k : Colour} {r : Record}

theorem badRecord_iff : (r.rated = 0 ∨ r.factor = 0 ∨ r.rated.toNat < r.remaining.toNat) ↔
    ¬ (r.rated ≠ 0 ∧ r.factor ≠ 0 ∧ r.remaining.toNat ≤ r.rated.toNat) := by
  simp only [not_and_or, not_not, Nat.not_le, ne_eq]

theorem judgeHello_of_other_colour (other : r.colour.toNat ≠ k.val) :
    s.judgeHello k r = s.changeSlot k (.rejected (some r)) .colourMismatch none :=
  if_pos other

variable (colour : r.colour.toNat = k.val)
include colour

theorem judgeHello_of_bad_record (bad : ¬ (r.rated ≠ 0 ∧ r.factor ≠ 0 ∧ r.remaining.toNat ≤ r.rated.toNat)) :
    s.judgeHello k r = s.changeSlot k (.rejected none) .badRecord none := by
  rw [State.judgeHello, if_neg (not_not.mpr colour), if_pos (badRecord_iff.mpr bad)]

variable (fits : r.rated ≠ 0 ∧ r.factor ≠ 0 ∧ r.remaining.toNat ≤ r.rated.toNat)
include fits

theorem judgeHello_of_unprovisioned {c : Policy} (unprovisioned : s.nv.root.provisioned = false)
    (policy : s.settings.policy = c) :
    s.judgeHello k r = s.changeSlot k (refusedState c r) .notProvisioned none := by
  rw [← policy, State.judgeHello, if_neg (not_not.mpr colour), if_neg (badRecord_iff.not_left.mpr fits), unprovisioned]
  rfl

/-- R147, R148: a record that fits takes a provisioned part to PROVING, with a PROVE under a fresh nonce. -/
theorem judgeHello_of_provisioned (provisioned : s.nv.root.provisioned = true) :
    s.judgeHello k r = (s.changeSlot k (.proving r) .identified
      (some ⟨.prove (some (Config.randomNonce s.draws)), 1, .sending⟩)).drawn := by
  rw [State.judgeHello, if_neg (not_not.mpr colour), if_neg (badRecord_iff.not_left.mpr fits), provisioned]
  rfl

end

/-! ## The reply to a PROVE (R149) -/

section

variable {s : State} {k : Colour} {r : Record} {nonce : BitVec 128} {tag : BitVec 64}

theorem judgeProve_of_tag (same : tag = s.proveTag r nonce) :
    s.judgeProve k r nonce tag = (s.changeSlot k (.genuine r) .proved none).abortIfOwed k :=
  if_pos same

theorem judgeProve_of_other_tag {c : Policy} (other : tag ≠ s.proveTag r nonce) (policy : s.settings.policy = c) :
    s.judgeProve k r nonce tag = s.changeSlot k (refusedState c r) .proofFailed none :=
  policy ▸ if_neg other

/-- R149, R162: what the expected tag leaves. -/
theorem judgeProve_genuine (left : gauged (s.slot k).state = false) (same : tag = s.proveTag r nonce) :
    let t := s.judgeProve k r nonce tag
    let owed := carryAmount s.carry r.serial
    (t.slot k).state = .genuine r ∧ (t.gauge k).acked = r.remaining.toNat ∧ (t.gauge k).pending = owed
      ∧ (t.gauge k).remaining = r.remaining.toNat - owed ∧ (t.gauge k).sequence = r.sequence
      ∧ t.carry = s.carry.filter (fun e => e.serial != r.serial)
      ∧ (owed = 0 → (t.slot k).message = none)
      ∧ (0 < owed → s.power ≠ .sleep →
        ∃ tag', (t.slot k).message = some ⟨.debit owed (r.sequence + 1) tag', 1, .sending⟩) := by
  intro t owed
  have slot : t.slot k = (s.changeSlot k (.genuine r) .proved none).slot k :=
    slot_congr (by simp [t, judgeProve_of_tag same]) k
  have gauge : t.gauge k = (s.changeSlot k (.genuine r) .proved none).gauge k :=
    gauge_congr (by simp [t, judgeProve_of_tag same]) k
  have carry : t.carry = (s.changeSlot k (.genuine r) .proved none).carry := by simp [t, judgeProve_of_tag same]
  obtain ⟨⟨remaining, pending, acked, sequence⟩, carried, free, posts⟩ :=
    changeSlot_genuine (r := r) (reason := .proved) left
  rw [slot, gauge, carry]
  exact ⟨changeSlot_state, acked, pending, remaining, sequence, carried, free, posts⟩

end

/-! ## Remaining reckoned anew (R161, R166, R167) -/

section

variable {s : State} {j k : Colour}

theorem setRemaining_posting (n : Nat) : ((s.setRemaining k n).gauge k).posting = (s.gauge k).posting := by
  by_cases same : n = (s.gauge k).remaining
  · rw [State.setRemaining, if_pos same]
  · rw [setRemaining_of_changed same, lowMarkCheck_posting,
      gauge_congr (s := writeRemaining s k n) (by (repeat' split) <;> simp) k, writeRemaining_gauge]

theorem sendDebit_slot (r : Record) (errors : Nat) : ∃ tag, (s.sendDebit k r errors).slot k =
    { s.slot k with message := some ⟨.debit (s.gauge k).pending ((s.gauge k).sequence + 1) tag, 1, .sending⟩ } :=
  ⟨_, State.slot_setSlot _ _ _⟩

theorem sendDebit_gauge (r : Record) (errors : Nat) : (s.sendDebit k r errors).gauge k =
    { s.gauge k with posting := some ⟨(s.gauge k).pending, (s.gauge k).sequence + 1, errors⟩ } :=
  State.gauge_setGauge _ _ _

theorem sendDebit_sameAt (r : Record) (errors : Nat) (other : j ≠ k) : sameAt j s (s.sendDebit k r errors) :=
  ⟨State.gauge_setGauge_ne s _ other.symm, State.slot_setSlot_ne _ _ other.symm⟩

theorem postIfDue_cases : s.postIfDue k = s ∨ ∃ r, s.postIfDue k = s.sendDebit k r 0 := by
  unfold State.postIfDue
  (repeat' split)
  · exact .inr ⟨_, rfl⟩
  all_goals exact .inl rfl

theorem tonerNotices_congr {t : State} (code : (t.slot k).state.code = (s.slot k).state.code)
    (remaining : (t.gauge k).remaining = (s.gauge k).remaining)
    (lowSerial : (t.gauge k).lowSerial = (s.gauge k).lowSerial)
    (settings : t.settings = s.settings) (capacity : Nat) (serial : Serial) (value : Nat) :
    t.tonerNotices k capacity serial value = s.tonerNotices k capacity serial value := by
  simp only [State.tonerNotices, code, remaining, lowSerial, settings]

/-- A GENUINE slot holds a record, and its gauge L, P and sequence, with remaining reckoned as L less P and the notices
of that change queued; the carry list and the other slots are as before (R161, R172, R173). -/
structure Reckoned (s t : State) (k : Colour) (r : Record) (g : Gauge) : Prop where
  state : (t.slot k).state = .genuine r
  gauge : Gauge.agrees { g with remaining := g.acked - g.pending } (t.gauge k)
  outbox : t.outbox = s.outbox ++ s.tonerNotices k r.rated.toNat r.serial (g.acked - g.pending)
  notices : t.notices = s.notices
  carry : t.carry = s.carry
  others : ∀ j, j ≠ k → sameAt j s t

variable {r : Record} {g : Gauge}

theorem Reckoned.sendDebit {u : State} (h : Reckoned s u k r g) (x : Record) (errors : Nat) :
    Reckoned s (u.sendDebit k x errors) k r g where
  state := by
    obtain ⟨tag, slot⟩ := sendDebit_slot (s := u) (k := k) x errors
    rw [slot]
    exact h.state
  gauge := Gauge.agrees_trans h.gauge (by rw [sendDebit_gauge]; exact ⟨rfl, rfl, rfl, rfl⟩)
  outbox := h.outbox
  notices := h.notices
  carry := h.carry
  others j other := sameAt_trans (h.others j other) (sendDebit_sameAt x errors other)

theorem Reckoned.postIfDue {u : State} (h : Reckoned s u k r g) : Reckoned s (u.postIfDue k) k r g := by
  obtain idle | ⟨x, posts⟩ := postIfDue_cases (s := u) (k := k)
  · rwa [idle]
  · rw [posts]
    exact h.sendDebit x 0

/-- The state in which a slot's message has ended and its record and gauge are written, before remaining is reckoned. -/
def written (s : State) (k : Colour) (r : Record) (g : Gauge) : State :=
  (s.setSlot k { s.slot k with state := .genuine r, message := none }).setGauge k g

theorem written_slot : (written s k r g).slot k = { s.slot k with state := .genuine r, message := none } :=
  State.slot_setSlot _ _ _

theorem written_gauge : (written s k r g).gauge k = g := State.gauge_setGauge _ _ _

theorem recompute_written : (written s k r g).recompute k = (written s k r g).setRemaining k (g.acked - g.pending) := by
  rw [State.recompute, written_gauge]

theorem recompute_slot :
    ((written s k r g).recompute k).slot k = { s.slot k with state := .genuine r, message := none } :=
  (slot_congr (s := written s k r g) (by simp) k).trans written_slot

theorem recompute_posting : (((written s k r g).recompute k).gauge k).posting = g.posting := by
  rw [recompute_written, setRemaining_posting, written_gauge]

theorem recompute_reckoned {x : Record} (slot : (s.slot k).state = .genuine x)
    (remaining : g.remaining = (s.gauge k).remaining) (lowSerial : g.lowSerial = (s.gauge k).lowSerial) :
    Reckoned s ((written s k r g).recompute k) k r g where
  state := by rw [recompute_slot]
  gauge := by
    have gauge := setRemaining_gauge (written s k r g) (k := k) (g.acked - g.pending)
    rwa [written_gauge, ← recompute_written] at gauge
  outbox := by
    have genuine : ((written s k r g).slot k).state = .genuine r := congrArg Slot.state written_slot
    have capacity : (written s k r g).capacity k = some r.rated.toNat := by rw [State.capacity, genuine]
    have record : ((written s k r g).slot k).state.record = some r := congrArg SlotState.record genuine
    rw [recompute_written, setRemaining_outbox capacity record]
    refine congrArg (s.outbox ++ ·) (tonerNotices_congr (s := s) (t := written s k r g) ?_ ?_ ?_ rfl _ _ _)
    · rw [genuine, slot]
      rfl
    · rw [written_gauge, remaining]
    · rw [written_gauge, lowSerial]
  notices := by rw [recompute_written]; simp [written]
  carry := by rw [recompute_written]; simp [written]
  others j other := by
    rw [recompute_written]
    refine sameAt_trans ?_ (setRemaining_sameAt _ _ other)
    exact ⟨State.gauge_setGauge_ne _ _ other.symm, State.slot_setSlot_ne s _ other.symm⟩

/-- R165, R166: with nothing left to post the link is free. -/
theorem recompute_postIfDue_settled {x : Record} (slot : (s.slot k).state = .genuine x)
    (remaining : g.remaining = (s.gauge k).remaining) (lowSerial : g.lowSerial = (s.gauge k).lowSerial)
    (ended : g.posting = none) (settled : g.pending = 0) :
    let t := ((written s k r g).recompute k).postIfDue k
    (t.slot k).message = none ∧ (t.gauge k).posting = none := by
  obtain ⟨-, ⟨-, pending, -, -⟩, -⟩ := recompute_reckoned (r := r) slot remaining lowSerial
  rw [postIfDue_of_settled (pending.trans settled)]
  exact ⟨congrArg Slot.message recompute_slot, recompute_posting.trans ended⟩

/-- What an event leaves whose body reckons remaining anew: a GENUINE slot with a record, and a gauge of L, a sequence
and an amount still owed (R161, R166, R167). -/
def resumedFrom (t s : State) (k : Colour) (r : Record) (acked : Nat) (sequence : BitVec 32) (owed : Nat) : Prop :=
  (t.slot k).state = .genuine r
    ∧ (t.gauge k).acked = acked ∧ (t.gauge k).sequence = sequence ∧ (t.gauge k).pending = owed
    ∧ (t.gauge k).remaining = acked - owed
    ∧ t.notices = (s.tonerNotices k r.rated.toNat r.serial (acked - owed)).foldl pushNotice s.notices
    ∧ t.carry = s.carry ∧ ∀ j, j ≠ k → t.slot j = s.slot j ∧ t.gauge j = s.gauge j

theorem Reckoned.closed {u : State} (h : Reckoned (s.driving []) u k r g) :
    resumedFrom (closeEvent u) s k r g.acked g.sequence g.pending := by
  obtain ⟨state, ⟨remaining, pending, acked, sequence⟩, outbox, notices, carry, others⟩ := h
  refine ⟨state, acked, sequence, pending, remaining, ?_, carry, fun j other => (others j other).symm⟩
  change u.outbox.foldl pushNotice u.notices = _
  rw [outbox, notices]
  rfl

end

/-! ## The reply to a DEBIT (R165 to R168) -/

section

variable {s : State} {k : Colour} {r : Record} {p : Posting} {reply : DebitReply}

theorem refusedState_eq (c : Policy) : refusedState c r = if c = .strict then .rejected (some r) else .foreign r := by
  cases c <;> rfl

theorem refusedState_ne_genuine (c : Policy) (x : Record) : refusedState c r ≠ .genuine x := by
  cases c <;> exact nofun

theorem changeSlot_refused_gauge (held : gauged (s.slot k).state = true) (c : Policy) (reason : Reason) :
    let g := (s.changeSlot k (refusedState c r) reason none).gauge k
    g.pending = 0 ∧ g.posting = none ∧ g.remaining = if c = .strict then 0 else s.settings.foreignCapacity := by
  cases c with
  | strict =>
    rw [refusedState, changeSlot_gauge_of_ungauged rfl, departGauge_gauge held]
    exact ⟨rfl, rfl, rfl⟩
  | permissive =>
    obtain ⟨⟨remaining, pending, -⟩, posting⟩ := changeSlot_foreign_gauge (s := s) (k := k) (reason := reason)
      (m := none) r
    exact ⟨pending, posting, remaining⟩

/-- What a GENUINE slot leaves whose cartridge is refused under the policy in force (R165, R168). -/
def refusedFrom (t s : State) (k : Colour) (r : Record) (reason : Reason) : Prop :=
  (t.slot k).state = (if s.settings.policy = .strict then .rejected (some r) else .foreign r)
    ∧ (t.slot k).message = none ∧ (t.slot k).lastReason = some reason
    ∧ (t.gauge k).pending = 0 ∧ (t.gauge k).posting = none
    ∧ (t.gauge k).remaining = (if s.settings.policy = .strict then 0 else s.settings.foreignCapacity)
    ∧ t.departedFrom s k r ∧ ∀ j, j ≠ k → t.slot j = s.slot j ∧ t.gauge j = s.gauge j

theorem changeSlot_refused (slot : (s.slot k).state = .genuine r) (reason : Reason) :
    refusedFrom (s.changeSlot k (refusedState s.settings.policy r) reason none) s k r reason := by
  have entered := changeSlot_slot_of_not_genuine (s := s) (k := k) (reason := reason) (m := none)
    (refusedState_ne_genuine (r := r) s.settings.policy)
  obtain ⟨pending, posting, remaining⟩ :=
    changeSlot_refused_gauge (r := r) (congrArg gauged slot) s.settings.policy reason
  rw [refusedFrom, entered]
  exact ⟨refusedState_eq _, rfl, rfl, pending, posting, remaining,
    departedFrom_of_carry slot (changeSlot_carry (refusedState_ne_genuine _)),
    fun j other => (changeSlot_sameAt other).symm⟩

theorem closeEvent_refused (slot : (s.slot k).state = .genuine r) (reason : Reason) :
    refusedFrom (closeEvent ((s.driving []).changeSlot k (refusedState s.settings.policy r) reason none)) s k r
      reason := by
  simp only [refusedFrom, closeEvent_slot, closeEvent_gauge, departedFrom_event]
  exact changeSlot_refused (s := s.driving []) slot reason

theorem judgeDebit_of_other_tag (other : reply.tag ≠ s.debitTag r p reply) :
    s.judgeDebit k r p reply = s.changeSlot k (refusedState s.settings.policy r) .debitTag none :=
  if_pos other

variable (tag : reply.tag = s.debitTag r p reply)
include tag

theorem judgeDebit_of_ok (ok : reply.status = 0) (sequence : reply.sequence = p.sequence) :
    s.judgeDebit k r p reply = s.ackDebit k p reply := by
  rw [State.judgeDebit, if_neg (not_not.mpr tag), if_pos ⟨ok, sequence⟩]

theorem judgeDebit_of_sequence (refused : reply.status = 1 ∨ (reply.status = 0 ∧ reply.sequence ≠ p.sequence)) :
    s.judgeDebit k r p reply = s.seqError k r p := by
  rw [State.judgeDebit, if_neg (not_not.mpr tag), if_neg]
  rintro ⟨ok, same⟩
  obtain one | ⟨-, other⟩ := refused
  · simp [ok] at one
  · exact other same

end

section

variable {s : State} {k : Colour} {r : Record} {p : Posting}

/-- The gauge that a DEBIT reply acknowledges (R166). -/
def debited (g : Gauge) (p : Posting) (reply : DebitReply) : Gauge :=
  { g.acknowledge p.amount with acked := reply.remaining.toNat, sequence := p.sequence }

theorem ackDebit_eq (slot : (s.slot k).state = .genuine r) (reply : DebitReply) : s.ackDebit k p reply =
    ((written s k r (debited (s.gauge k) p reply)).recompute k).postIfDue k := by
  rw [State.ackDebit, written, ← slot]
  rfl

/-- R166, R172, R173: what the acknowledgement of a posting leaves. -/
theorem closeEvent_ackDebit (slot : (s.slot k).state = .genuine r) (reply : DebitReply) :
    let t := closeEvent ((s.driving []).ackDebit k p reply)
    let left := reply.remaining.toNat - ((s.gauge k).pending - p.amount)
    (t.slot k).state = .genuine r
      ∧ (t.gauge k).acked = reply.remaining.toNat ∧ (t.gauge k).sequence = p.sequence
      ∧ (t.gauge k).pending = (s.gauge k).pending - p.amount ∧ (t.gauge k).remaining = left
      ∧ ((s.gauge k).pending ≤ p.amount → (t.slot k).message = none ∧ (t.gauge k).posting = none)
      ∧ t.notices = (s.tonerNotices k r.rated.toNat r.serial left).foldl pushNotice s.notices
      ∧ t.carry = s.carry ∧ ∀ j, j ≠ k → t.slot j = s.slot j ∧ t.gauge j = s.gauge j := by
  have slot' : ((s.driving []).slot k).state = .genuine r := slot
  have reckoned := recompute_reckoned (r := r) (g := debited ((s.driving []).gauge k) p reply) slot' rfl rfl
  obtain ⟨state, acked, sequence, pending, remaining, notices, carry, others⟩ := reckoned.postIfDue.closed
  rw [ackDebit_eq slot']
  refine ⟨state, acked, sequence, pending, remaining, fun all => ?_, notices, carry, others⟩
  rw [closeEvent_slot, closeEvent_gauge]
  exact recompute_postIfDue_settled slot' rfl rfl rfl (Nat.sub_eq_zero_of_le all)

/-- R167: after the first and the second SEQ_ERROR of a posting a HELLO resynchronises. -/
theorem closeEvent_seqError (fewer : p.seqErrors < 2) :
    closeEvent ((s.driving []).seqError k r p) = { s.driving [] with
      slots := s.slots.set k { s.slot k with message := some ⟨.hello true, 1, .sending⟩ }
      gauges := s.gauges.set k { s.gauge k with posting := some { p with seqErrors := p.seqErrors + 1 } } } := by
  rw [State.seqError, if_neg (by omega)]
  rfl

theorem seqError_of_third (third : 2 ≤ p.seqErrors) :
    s.seqError k r p = s.changeSlot k (.mute (some r)) .debitSequence none :=
  if_pos third

/-! ## The reply to a resynchronising HELLO (R167, R168) -/

variable {x : Record}

theorem agrees_iff : r.agrees x = true ↔ x.serial = r.serial ∧ x.model = r.model ∧ x.colour = r.colour
    ∧ x.rated = r.rated ∧ x.factor = r.factor ∧ x.remaining.toNat ≤ x.rated.toNat := by
  simp [Record.agrees, and_assoc]

theorem judgeResync_of_other (other : ¬ r.agrees x = true) :
    s.judgeResync k r p x = s.changeSlot k (refusedState s.settings.policy r) .debitTag none := by
  rw [State.judgeResync, if_pos (by simpa using other)]

/-- The record of a slot with the figures of its resynchronisation (R167). -/
def resynced (r x : Record) : Record := { r with remaining := x.remaining, sequence := x.sequence }

/-- The gauge with L and the sequence of a resynchronisation (R167). -/
def regauged (g : Gauge) (x : Record) : Gauge := { g with acked := x.remaining.toNat, sequence := x.sequence }

theorem judgeResync_of_acknowledged (agrees : r.agrees x = true) (same : x.sequence = p.sequence) :
    s.judgeResync k r p x =
      ((written s k (resynced r x) ((regauged (s.gauge k) x).acknowledge p.amount)).recompute k).postIfDue k := by
  rw [State.judgeResync, agrees]
  exact if_pos same

theorem judgeResync_of_lost (agrees : r.agrees x = true) (other : x.sequence ≠ p.sequence) :
    s.judgeResync k r p x =
      ((written s k (resynced r x) (regauged (s.gauge k) x)).recompute k).sendDebit k (resynced r x) p.seqErrors := by
  rw [State.judgeResync, agrees]
  exact if_neg other

section

variable (slot : (s.slot k).state = .genuine r) (agrees : r.agrees x = true)
include slot agrees

/-- R167: the record's sequence acknowledges the posting. -/
theorem closeEvent_resync_acknowledged (same : x.sequence = p.sequence) :
    let t := closeEvent ((s.driving []).judgeResync k r p x)
    resumedFrom t s k (resynced r x) x.remaining.toNat x.sequence ((s.gauge k).pending - p.amount)
      ∧ ((s.gauge k).pending ≤ p.amount → (t.slot k).message = none ∧ (t.gauge k).posting = none) := by
  have slot' : ((s.driving []).slot k).state = .genuine r := slot
  have reckoned := recompute_reckoned (r := resynced r x)
    (g := (regauged ((s.driving []).gauge k) x).acknowledge p.amount) slot' rfl rfl
  rw [judgeResync_of_acknowledged agrees same]
  refine ⟨reckoned.postIfDue.closed, fun all => ?_⟩
  rw [closeEvent_slot, closeEvent_gauge]
  exact recompute_postIfDue_settled slot' rfl rfl rfl (Nat.sub_eq_zero_of_le all)

/-- R167: at any other sequence the debit is sent again. -/
theorem closeEvent_resync_lost (other : x.sequence ≠ p.sequence) :
    let t := closeEvent ((s.driving []).judgeResync k r p x)
    resumedFrom t s k (resynced r x) x.remaining.toNat x.sequence (s.gauge k).pending
      ∧ (∃ tag, (t.slot k).message = some ⟨.debit (s.gauge k).pending (x.sequence + 1) tag, 1, .sending⟩)
      ∧ (t.gauge k).posting = some ⟨(s.gauge k).pending, x.sequence + 1, p.seqErrors⟩ := by
  have slot' : ((s.driving []).slot k).state = .genuine r := slot
  have reckoned := recompute_reckoned (r := resynced r x) (g := regauged ((s.driving []).gauge k) x) slot' rfl rfl
  rw [judgeResync_of_lost agrees other]
  let u := (written (s.driving []) k (resynced r x) (regauged ((s.driving []).gauge k) x)).recompute k
  obtain ⟨-, pending, -, sequence⟩ := reckoned.gauge
  obtain ⟨tag, message⟩ := sendDebit_slot (s := u) (k := k) (resynced r x) p.seqErrors
  have gauge := sendDebit_gauge (s := u) (k := k) (resynced r x) p.seqErrors
  rw [pending, sequence] at message gauge
  refine ⟨(reckoned.sendDebit _ _).closed, ?_⟩
  rw [closeEvent_slot, closeEvent_gauge, message, gauge]
  exact ⟨⟨tag, rfl⟩, rfl⟩

end

end

/-- Settles O39: each reply is judged by the message in flight, and what it leaves is what the change of the slot's
state, or the reckoning of its gauge, leaves. -/
theorem repliesAreJudged : Obligations.RepliesAreJudged := by
  refine ⟨fun s k frame tail ps n on probing awaiting good => ?_,
    fun s k frame tail ps r nonce n on proving awaiting good => ?_,
    fun s k frame tail ps r p amount seq tag n on genuine awaiting posting good => ?_,
    fun s k frame tail ps r p n on genuine awaiting posting good => ?_⟩
  · have reply {u : State} := exec_helloReply_identifying (tail := tail) (u := u) on good awaiting
    refine ⟨fun other => ?_, fun colour bad => ?_, fun colour fits unprovisioned strict => ?_,
      fun colour fits unprovisioned permissive => ?_, fun colour fits provisioned => ?_⟩
    · exact (reply (judgeHello_of_other_colour other)).trans
        (congrArg _ (closeEvent_changeSlot_ungauged probing rfl rfl _ _))
    · exact (reply (judgeHello_of_bad_record colour bad)).trans
        (congrArg _ (closeEvent_changeSlot_ungauged probing rfl rfl _ _))
    · exact (reply (judgeHello_of_unprovisioned colour fits unprovisioned strict)).trans
        (congrArg _ (closeEvent_changeSlot_ungauged probing rfl rfl _ _))
    · obtain ⟨⟨remaining, -⟩, -⟩ := changeSlot_foreign_gauge (s := s.driving []) (k := k) (reason := .notProvisioned)
        (m := none) (recordOf ps)
      refine ⟨_, reply (judgeHello_of_unprovisioned colour fits unprovisioned permissive), ?_⟩
      rw [closeEvent_slot, closeEvent_gauge]
      exact ⟨changeSlot_state, remaining⟩
    · exact (reply (judgeHello_of_provisioned colour fits provisioned)).trans
        (congrArg (fun t : State => Host.Outcome.next t.drawn)
          (closeEvent_changeSlot_ungauged probing rfl rfl _ _))
  · have left : gauged ((s.driving []).slot k).state = false := congrArg gauged proving
    have reply {u : State} := exec_proveReply (tail := tail) (u := u) on good proving awaiting
    refine ⟨fun same => ⟨_, reply rfl, ?_⟩, fun other strict => ⟨_, reply (judgeProve_of_other_tag other strict), ?_⟩,
      fun other permissive => ⟨_, reply (judgeProve_of_other_tag other permissive), ?_⟩⟩ <;>
      simp only [closeEvent_slot, closeEvent_gauge, closeEvent_carry]
    · exact judgeProve_genuine left same
    · have slot := changeSlot_slot_of_not_genuine (s := s.driving []) (k := k) (y := .rejected (some r))
        (reason := .proofFailed) (m := none) (fun _ => nofun)
      exact ⟨congrArg Slot.state slot, congrArg Slot.message slot, congrArg Slot.lastReason slot,
        changeSlot_carry_of_ungauged left (fun _ => nofun)⟩
    · obtain ⟨⟨remaining, pending, -⟩, -⟩ := changeSlot_foreign_gauge (s := s.driving []) (k := k)
        (reason := .proofFailed) (m := none) r
      exact ⟨changeSlot_state, remaining, pending, changeSlot_carry_of_ungauged left (fun _ => nofun)⟩
  · have reply {u : State} := exec_debitReply (tail := tail) (u := u) on good genuine posting awaiting
    refine ⟨fun ok sequence same => ?_, fun known other => ?_, fun refused same => ?_⟩
    · exact ⟨_, reply (by simp [ok]) (judgeDebit_of_ok same ok sequence), closeEvent_ackDebit genuine _⟩
    · exact ⟨_, reply known (judgeDebit_of_other_tag other), closeEvent_refused genuine .debitTag⟩
    · have known : (debitReplyOf ps).status.toNat ≤ 1 := by
        obtain one | ⟨ok, -⟩ := refused
        · simp [one]
        · simp [ok]
      have judged := judgeDebit_of_sequence (s := s.driving []) (k := k) same refused
      refine ⟨fun fewer => (reply known judged).trans (congrArg _ (closeEvent_seqError fewer)), fun third => ?_⟩
      obtain ⟨slot, gauge, departed, -, others⟩ := closeEvent_mute genuine .debitSequence
      exact ⟨_, reply known (judged.trans (seqError_of_third third)), slot, gauge, departed, others⟩
  · have reply {u : State} := exec_helloReply_resyncing (tail := tail) (u := u) on good genuine posting awaiting
    refine ⟨fun agrees same => ?_, fun agrees other => ?_, fun other => ?_⟩
    · exact ⟨_, reply rfl, closeEvent_resync_acknowledged genuine (agrees_iff.mpr agrees) same⟩
    · obtain ⟨resumed, ⟨tag, message⟩, posting⟩ := closeEvent_resync_lost genuine (agrees_iff.mpr agrees) other
      exact ⟨_, tag, reply rfl, resumed, message, posting⟩
    · obtain ⟨state, message, reason, pending, -, -, departed, -⟩ := closeEvent_refused genuine .debitTag
      exact ⟨_, reply (judgeResync_of_other (other ∘ agrees_iff.mp)), state, message, reason, pending, departed⟩

/-! ## CART_REPROBE (R154, R155) -/

section

variable {s : State} {k : Colour}

theorem cartSlotOf_eq_none {b : Byte} (above : 4 ≤ b.toNat) : cartSlotOf b = none :=
  dif_neg (by omega)

theorem ne_all_of_slot {b : Byte} (slot : b.toNat = k.val) : b ≠ 0xFF := by
  rintro rfl
  have all : (0xFF : Byte).toNat = 255 := rfl
  omega

theorem reprobeSlot_of_probing (present : (s.slot k).presence = .present) (probing : (s.slot k).state = .probing)
    (reason : Reason) :
    s.reprobeSlot k reason = s.setSlot k { s.slot k with message := newHello, lastReason := some reason } := by
  rw [State.reprobeSlot, if_neg (not_not.mpr present), if_pos probing]

/-- R154, R163: a present slot reprobed from another state leaves its gauge. -/
theorem reprobeSlot_gauge (present : (s.slot k).presence = .present) (other : (s.slot k).state ≠ .probing)
    (held : gauged (s.slot k).state = true) (reason : Reason) :
    (s.reprobeSlot k reason).gauge k = { lowSerial := (s.gauge k).lowSerial } := by
  rw [State.reprobeSlot, if_neg (not_not.mpr present), if_neg other, changeSlot_gauge_of_ungauged rfl,
    departGauge_gauge held]

theorem reprobeAll_of_away (away : ∀ j, (s.slot j).presence ≠ .present) (reason : Reason) :
    s.reprobeAll reason = s :=
  List.foldl_fixed' (fun j => reprobeSlot_of_away (away j) reason) _

theorem presentSlots_of_away (away : ∀ j, (s.slot j).presence ≠ .present) : s.presentSlots = [] :=
  List.filter_eq_nil_iff.mpr fun j _ => by simp [away j]

variable {f : Frame} {b : Byte} (hs : s.ready) (hf : wholeFrame f 1)
include hs hf

theorem exec_cartReprobe_badArgument (above : 4 ≤ b.toNat) (notAll : b ≠ 0xFF) :
    exec (.cartReprobe f b) s = .next (s.answered f 0x41 .badArgument .empty) :=
  next_judged hs.1 hf rfl (.inr hs.2) (by
    rw [if_neg notAll, cartSlotOf_eq_none above]
    rfl)

/-- R155: ALL with no slot present reprobes none. -/
theorem exec_cartReprobe_all_away (away : ∀ j, (s.slot j).presence ≠ .present) :
    exec (.cartReprobe f 0xFF) s = .next (s.answered f 0x41 .ok (.reprobed [])) :=
  next_judged hs.1 hf rfl (.inr hs.2) (by
    rw [if_pos rfl, reprobeAll_of_away (s := heard s f) away, presentSlots_of_away (s := heard s f) away]
    rfl)

section

variable (slot : b.toNat = k.val)
include slot

theorem exec_cartReprobe_away (away : (s.slot k).presence ≠ .present) :
    exec (.cartReprobe f b) s = .next (s.answered f 0x41 .state .empty) := by
  refine next_judged hs.1 hf rfl (.inr hs.2) ?_
  rw [if_neg (ne_all_of_slot slot), cartSlotOf_eq slot]
  exact congrArg closeEvent (if_pos away)

theorem exec_cartReprobe_present (present : (s.slot k).presence = .present) :
    exec (.cartReprobe f b) s =
      .next (closeEvent (((heard s f).reprobeSlot k .reprobe).answerStatus 0x41 .ok)) := by
  refine next_judged hs.1 hf rfl (.inr hs.2) ?_
  rw [if_neg (ne_all_of_slot slot), cartSlotOf_eq slot]
  exact congrArg closeEvent (if_neg (not_not.mpr present))

end

end

/-- Settles O40, by the value of the parameter, the slot's presence and its state. -/
theorem reprobeRestartsIdentification : Obligations.ReprobeRestartsIdentification := by
  intro s f b k hs hf
  refine ⟨fun above notAll => exec_cartReprobe_badArgument hs hf above notAll,
    fun slot away => exec_cartReprobe_away hs hf slot away, fun slot present probing => ?_,
    fun slot present other => ?_, fun away => exec_cartReprobe_all_away hs hf away⟩
  · rw [exec_cartReprobe_present hs hf slot present, reprobeSlot_of_probing (s := heard s f) present probing]
    rfl
  · refine ⟨_, exec_cartReprobe_present hs hf slot present, rfl, ?_, fun r held => ?_⟩ <;>
      simp only [closeEvent_slot, closeEvent_gauge, State.slot_answerStatus, State.gauge_answerStatus]
    · have reprobed := reprobeSlot_slot (s := heard s f) k k .reprobe
      rw [if_pos ⟨rfl, present⟩] at reprobed
      refine reprobed.trans ?_
      simp only [reprobedSlot, ← present]
      rfl
    · refine reprobeSlot_gauge (s := heard s f) present other ?_ .reprobe
      obtain genuine | foreign := held
      · exact congrArg gauged genuine
      · exact congrArg gauged foreign

end Sys2Proof.Machine.CartridgeMessages
end
